-- ==== Sys2Proof/Word.lean ====
section
/-! DEFINITION. The word types of the device (R4, R8): bytes, 64-bit words, lines of 64 bytes, and the sparse
table in which sparse data by key is held. -/
namespace Sys2Proof

/-- One byte. -/
abbrev Byte := BitVec 8

/-- The device's word: 8 bytes, the width of every register (R8). -/
abbrev Word := BitVec 64

/-- A line: 64 bytes, the unit of coherence. Byte `k` is bits `8k+7 .. 8k` (R4). -/
abbrev Line := BitVec 512

/-- Sparse data by number: keys strictly rising, one value a key. -/
abbrev Tbl (α : Type) := List (Nat × α)

end Sys2Proof
end

