-- ==== Sys2Proof/Types.lean ====
section
/-! DEFINITION. The operand types of the commands: who sends an access, what arrives on a link, a pin or the slot
chain, what a partner reports. -/
namespace Sys2Proof

/-- A path into the control space (R544). Each management HOST port counts as a path of its own (R547). -/
inductive Path where
  | mctpI3c
  | mctpVdm (port : Nat)
  | bar2 (port : Nat)
  | steward (n : Nat)
  | jtag
  deriving DecidableEq, Repr

/-- What stands at the far end of a link, as enumeration finds it at link up (R37, R41, R42, R44, R70). -/
inductive PartnerKind where
  /-- a host root port -/
  | host
  /-- a PCIe device -/
  | pcie
  /-- a CXL 1.1/2.0 or 3.x device: whether it advertises CXL.mem, whether it is a CXL 2.0 MLD, and the capacity in
  bytes of each logical device (index 0 where it is no MLD) -/
  | cxl (mem mld : Bool) (capacity : List (Nat × Nat))
  /-- a switch upstream port behind a legacy port, or a PBR switch that is no Sirjo on an ISL port -/
  | switch
  /-- another Sirjo -/
  | fabric
  deriving DecidableEq, Repr

/-- What a link reports when it reaches L0 (LINK_STATUS and R53). -/
structure LinkReport where
  /-- rate, in the rate encoding 0-6 -/
  rate : Nat
  /-- width, in the width encoding 0-4 -/
  width : Nat
  lanes : Nat
  reversed : Bool
  retimers : Nat
  bypassUsed : Bool
  /-- the role's protocol is active -/
  protoActive : Bool
  partner : PartnerKind
  /-- the partner completes 10-bit tags -/
  tag10 : Bool
  /-- IDE is active in both directions on every stream in use -/
  ideActive : Bool
  /-- AtomicOp completer support: bit 0 32-bit, bit 1 64-bit, bit 2 128-bit CAS (R110) -/
  atomics : Nat
  deriving DecidableEq, Repr

/-- What a shared instant is for, R398. -/
inductive InstantUse where
  | freeze (on : Bool)
  | clear
  | boundary
  deriving DecidableEq, Repr

/-- A formation message, R445. -/
structure FormMsg where
  pairId : Nat
  member : Nat
  digest : BitVec 384
  tickNum : Nat
  tickPublished : Nat
  claims : Nat
  /-- the sender's PEER_STALE bits (assumption 33) -/
  stale : Nat
  deriving DecidableEq, Repr

/-- A heartbeat, R451, R453, R455: sender's DTB, the measured round trip, the sender's mode code and its host links
(bit h: host h has a HOST port with LINK_UP = 1 there). -/
structure Heartbeat where
  dtb : Nat
  roundTrip : Nat
  mode : Nat
  hostLinks : Nat
  deriving DecidableEq, Repr

/-- A request of the fabric manager to add extents, R96. -/
inductive DcAdd where
  | free (backing n : Nat)
  | prescriptive (exts : List Nat)
  deriving DecidableEq, Repr

/-- A BAR 2 request, R546: a read, or a write with its data, its length in DW and whether every byte enable is set. -/
structure BarReq where
  off : Nat
  dws : Nat
  allBe : Bool
  data : Option Word
  deriving DecidableEq, Repr

/-- How an access of the control space is answered: on its path alone, in an MCTP response, or by a BAR completion. -/
inductive CsrReply where
  | plain
  | mctp (tag cmd : Nat)
  | bar
  deriving DecidableEq, Repr

/-- An access of the control space (R544): `bytes` of its length, `count` registers for READ_BLOCK. `whole`: every byte enable is
set. -/
structure CsrAcc where
  path : Path
  reply : CsrReply
  off : Nat
  bytes : Nat
  whole : Bool
  data : Option Word
  count : Nat
  deriving DecidableEq, Repr

/-! ## CXL.mem and PCIe operands, 04 -/

/-- SnpType of a MemRd. -/
inductive SnpType where
  | noOp | cur | data | inv
  deriving DecidableEq, Repr

/-- MetaField No-Op, or Meta0-State with a MetaValue. -/
inductive MetaVal where
  | noOp | i | s | a
  deriving DecidableEq, Repr

/-- M2S message types, R110. -/
inductive MemOp where
  | rd (snp : SnpType) | rdData (snp : SnpType) | specRd | inv | invNT | clnEvct
  | wr (v : MetaVal) | wrPtl (v : MetaVal)
  deriving DecidableEq, Repr

/-- A CXL.mem request of a host or of another device. -/
structure MemReq where
  op : MemOp
  addr : Nat
  tag : Nat
  data : Line
  mask : BitVec 64
  poison : Bool
  deriving DecidableEq, Repr

/-- A S2M answer's state grant. -/
inductive Grant where
  | none | shared | excl
  deriving DecidableEq, Repr

/-- The kind of an AtomicOp. -/
inductive AtomKind where
  | fetchAdd | swap | cas
  deriving DecidableEq, Repr

/-- An AtomicOp: its operand size in bytes and its operands (for CAS compare and swap values). -/
structure AtomOp where
  kind : AtomKind
  size : Nat
  a : Nat
  b : Nat
  /-- its operand data is poisoned -/
  ep : Bool := false
  deriving DecidableEq, Repr

/-- Error kinds, R135. -/
inductive ErrKind where
  | violation | offline | unreachable | xlateInternal | xlateTimeout | poison | targetUr | targetCa | targetTimeout
  | backstopTimeout | contained | internal
  deriving DecidableEq, Repr

/-- ERR_KIND encodings, R135. -/
def ErrKind.code : ErrKind → Nat
  | .violation => 1 | .offline => 2 | .unreachable => 3 | .xlateInternal => 4 | .xlateTimeout => 5 | .poison => 6
  | .targetUr => 7 | .targetCa => 8 | .targetTimeout => 9 | .backstopTimeout => 10 | .contained => 11 | .internal => 12

/-- Completion status. -/
inductive CplStatus where
  | sc | ur | ca
  deriving DecidableEq, Repr

/-- Messages on a link that the bridge forwards or makes (R164, R166, R138, R463). -/
inductive MsgCode where
  | assertIntx (wire : Nat) | deassertIntx (wire : Nat)
  | errCor | errNonfatal | errFatal | pmPme | pmeToAck
  | vendor (data : List Byte) | other
  deriving DecidableEq, Repr

/-- A TLP, as far as the bridge acts on it. Lengths are in DW, data are whole DWs, lowest address first. -/
inductive Tlp where
  /-- `attr`: the attributes: bit 0 No Snoop, bit 1 Relaxed Ordering, bit 2 ID-Based Ordering -/
  | mwr (addr : Nat) (fbe lbe : Nat) (data : List Byte) (reqId : Nat) (ep : Bool) (attr : Nat)
  | mrd (addr dws fbe lbe reqId tag : Nat)
  | atom (addr : Nat) (op : AtomOp) (reqId tag : Nat)
  | cfg (write : Bool) (addr : Nat) (data : List Byte) (reqId tag : Nat)
  | cpl (status : CplStatus) (cplId reqId tag byteCount lower : Nat) (data : List Byte) (ep : Bool)
  | msg (code : MsgCode) (reqId : Nat)
  deriving DecidableEq, Repr

/-- A memory write of a PCIe partner. `ido` and `ro` are the ID-Based and Relaxed Ordering attributes; `plain` is
false with a PASID prefix or with AT not 0b00. -/
structure LegWrite where
  addr : Nat
  fbe : Nat
  lbe : Nat
  data : List Byte
  reqId : Nat
  ido : Bool
  ro : Bool
  ep : Bool
  plain : Bool
  deriving DecidableEq, Repr

/-- The attributes of the write, as in `Tlp.mwr`. -/
def LegWrite.attr (w : LegWrite) : Nat := (if w.ro then 2 else 0) + (if w.ido then 4 else 0)

/-- A memory read of a PCIe partner; `plain` is false for CfgRd, CfgWr, IORd, IOWr and with a PASID prefix or AT not
0b00, and for a non-posted request of a type that no table of R110 lists, such as a DMWr, whose `listed` is false. -/
structure LegRead where
  addr : Nat
  dws : Nat
  fbe : Nat
  lbe : Nat
  reqId : Nat
  tag : Nat
  ido : Bool
  plain : Bool
  listed : Bool
  deriving DecidableEq, Repr

/-- A register of a virtual bridge that its host writes (PCI Express Base Specification; R114, R136, R144, R153,
R166, R116). -/
inductive VbWrite where
  | tag10 (on : Bool) | serr (on : Bool) | dpcEnable (v : Nat) | dpcCompletion (ur : Bool) | egressBlock (on : Bool)
  | errCorEnable (on : Bool) | errNonfatalEnable (on : Bool) | errFatalEnable (on : Bool)
  /-- the AER Uncorrectable Error Mask: bit i is the error with code i of `Leg.aer` -/
  | uncorMask (m : Nat) | bus (b : Nat)
  /-- DPC Interrupt Enable and DPC ERR_COR Enable (R155) -/
  | dpcInterrupt (on : Bool) | dpcErrCor (on : Bool)
  /-- a write of 1 to Attention Button Pressed and to Power Fault Detected of Slot Status, which clears them (R522, R523) -/
  | slotStatus (attn fault : Bool)
  deriving DecidableEq, Repr

/-- Event record severities of a CXL event log. -/
inductive EvSev where
  | info | warning | failure | fatal
  deriving DecidableEq, Repr

/-- What the pool view (virtual bridge 0) or a virtual bridge reports to its host in configuration space, and the registers of
its HDM decoder (R37, R38, R41, R67, R170, R444, R553). -/
inductive ViewFld where
  | vendorId | deviceId | revisionId | serialNumber
  /-- Data Link Layer Link Active of a virtual bridge (R41) -/
  | linkActive
  /-- HDM decoder 0 of the pool view: base, size, committed, locked, interleave ways (R67) -/
  | decoderBase | decoderSize | decoderCommitted | decoderLocked | decoderWays
  /-- records that an event log lost (R170) -/
  | eventOverflow (sev : EvSev)
  /-- AER Uncorrectable Error Status of a virtual bridge, a bit for each code of `Leg.aer` -/
  | aerStatus
  /-- DPC Trigger Status and Trigger Reason of a virtual bridge (R155) -/
  | dpcStatus
  /-- of a virtual bridge over a hot-plug slot (R522): Slot Capabilities (1: Power Controller, Attention Button, Attention and Power
  Indicator and Hot-Plug Capable, no MRL sensor; 0: none of them), and of Slot Status Presence Detect State, Power Fault Detected and
  Attention Button Pressed -/
  | slotCaps | slotPresence | slotPowerFault | slotAttention
  deriving DecidableEq, Repr

/-- What a host asks of a function of the device itself: a field of it; of the pool view the event interrupt policy of a log
(0 none, 1 signalled), or the removal of the oldest records of a log (R137, R170). -/
inductive ViewReq where
  | field (f : ViewFld)
  | eventPolicy (sev : EvSev) (on : Bool)
  | clearEvents (sev : EvSev) (n : Nat)
  deriving DecidableEq, Repr

/-- What a host's CXL.io request toward a virtual bridge is, R110. A configuration write names the payload size that
it gives the partner's Device Control register, if it does (LEG_STATUS.MPS). `unlisted`: a non-posted request of a type
that the tables of R110 do not list, such as a locked read. -/
inductive IoKind where
  | mwr | mrd | cfgRd | cfgWr (mps : Option Nat) | atom (op : AtomOp) | ioRdWr | vendorMsg | otherMsg | dmwr | unlisted
  | bridge (w : VbWrite)
  /-- a configuration request for a function of the device itself -/
  | own (v : ViewReq)
  deriving DecidableEq, Repr

/-- A host's CXL.io request toward a virtual bridge. -/
structure IoReq where
  kind : IoKind
  addr : Nat
  dws : Nat
  fbe : Nat
  lbe : Nat
  data : List Byte
  reqId : Nat
  tag : Nat
  ep : Bool
  plain : Bool
  /-- the attributes, as in `Tlp.mwr` -/
  attr : Nat := 0
  deriving DecidableEq, Repr

/-- A completion of a PCIe partner or of a host: its fields, and whether it is the last of its request. -/
structure CplIn where
  status : CplStatus
  cplId : Nat
  tag : Nat
  byteCount : Nat
  lower : Nat
  data : List Byte
  ep : Bool
  ido : Bool
  last : Bool
  deriving DecidableEq, Repr

/-- A S2M message of a partner: data or a completion. -/
inductive S2M where
  | memData (d : Line) (poison : Bool)
  | cmp
  | bi
  deriving DecidableEq, Repr

/-- What a header or data check finds in a ring unit (R254). -/
inductive UnitCheck where
  | ok | dataErr | headerErr
  deriving DecidableEq, Repr

/-- What the check code of an HBM read finds (R177). -/
inductive Ecc where
  | clean | corrected | uncorrectable
  deriving DecidableEq, Repr

/-- Where an access to a tick-ordered line finds an uncorrectable error (R227, R584). -/
inductive TickErr where
  | none | slot0 | slot1 | word
  deriving DecidableEq, Repr

/-- A host's answer to a back-invalidate snoop. -/
inductive BiRsp where
  | i | s | e
  deriving DecidableEq, Repr

/-- Which arbiter decides (the arbiters of 08). -/
inductive ArbId where
  | ring (plane stop : Nat) (cw : Bool)
  | enginePort (cluster : Nat)
  | egress (port : Nat)
  deriving DecidableEq, Repr


/-- One record of a backing partner's event logs: its severity, the logical device and the device physical address that it
names, and the rest of the record. -/
structure EvRec where
  sev : EvSev
  dpa : Option Nat
  code : Nat
  ld : Nat := 0
  deriving DecidableEq, Repr

/-- What a CXL backing partner sends: an error message, or an event interrupt (R167, R168). -/
inductive CxlEvent where
  | err (code : MsgCode)
  | interrupt
  deriving DecidableEq, Repr

/-- A malformed message, or requests beyond the credits returned (R139). -/
inductive ProtoErr where
  | malformed | credits
  deriving DecidableEq, Repr

/-! ## Queues, 09 -/

/-- Consumer commands, R301. -/
inductive QCmd where
  | next | mark | rewind | release
  deriving DecidableEq, Repr

/-- An operation on one queue, as the queue unit half that serves the queue takes it (R282). -/
inductive QOp where
  /-- words written whole to ITEM of a binding's page; a word was covered in part; the data are poisoned (R286) -/
  | write (bind : Nat) (ws : List (Nat × Word)) (part poison : Bool)
  /-- a commit word; with the data of a QPUSH (R351) -/
  | commit (bind : Nat) (w : Word) (data : Option (List Word))
  | status (bind : Nat)
  /-- a read of the consumer page: offset and length in DW -/
  | read (off dws : Nat)
  | cmd (c : QCmd)
  /-- a QPOP, R352 -/
  | pop
  /-- a selection of the job dispatcher for an engine, R325 -/
  | select
  /-- every job of the round has ended, R325 -/
  | roundEnd
  | abandon (bind : Nat)
  | lease
  /-- a notice: queue it is about, kind, DTB of the event (R308) -/
  | notice (about kind dtb : Nat)
  | reset
  deriving DecidableEq, Repr

/-- A change of a mirrored queue as the home sends it to the mirror (R311). -/
inductive QMirOp where
  | deliver (bind : Nat) (w : Word) (data : List Word)
  | drop (bind : Nat) (w : Word) (result : Nat)
  /-- the current item of a list is passed -/
  | pass (prio : Nat)
  | cmd (c : QCmd)
  | lease
  | reset
  deriving DecidableEq, Repr

/-- What the queue unit answers: the value of a commit or a status read; read data and whether poisoned; an item that a
QPOP or a selection passed (header words 0 and 1 as HEAD_0 and HEAD_1, the data, the commit word, the producer); nothing
left to read; an error kind. -/
inductive QAns where
  | value (v : Word)
  | data (bs : List Byte) (poison : Bool)
  | item (head0 head1 : Word) (data : List Word) (commit : Word) (prod : Nat) (gap poison : Bool)
  | empty
  | done
  | error (k : ErrKind)
  deriving DecidableEq, Repr

/-- Where an answer that reaches a tracker comes from: a ring unit that arrived, a FABRIC-DEVICE or ISL partner, or the twin,
which answers a forwarded request by its number: with an error kind or data, poison, the grant and an AtomicOp's old value;
or with a queue's answer. -/
inductive RspFrom where
  | unit (k : Nat)
  | link (port tag : Nat) (m : S2M)
  | twin (id : Nat) (err : Option ErrKind) (data : Line) (poison : Bool) (grant : Grant) (old : Nat)
  | twinQueue (id : Nat) (a : QAns)
  deriving DecidableEq, Repr

/-- A request for BAR 4 of a HOST port (R288, R289). Offsets are in the BAR. -/
inductive Bar4 where
  | mwr (off fbe lbe : Nat) (data : List Byte) (ep : Bool)
  | mrd (off dws : Nat)
  /-- an AtomicOp -/
  | atom (off : Nat) (op : AtomOp)
  deriving DecidableEq, Repr

/-! ## Requests that a partner forwards, 14 -/

/-- A line operation of a forwarded request. -/
inductive FwdOp where
  | read (snp : SnpType) | specRd | inv | clnEvct
  | write (data : Line) (mask : BitVec 64) (full poison : Bool) (v : MetaVal)
  | atom (op : AtomOp) (off bswap : Nat)
  deriving DecidableEq, Repr

/-- A request that a partner forwards (R450): an access to a window, of a host's own or with a contributor number; or an
operation on a queue. -/
inductive FwdReq where
  | mem (host addr deadline : Nat) (cached : Bool) (contrib : Option Nat) (op : FwdOp)
  | queue (q : Nat) (op : QOp)
  deriving DecidableEq, Repr

/-- An image as the flash or the shadow buffer gives it: the 64-bit words by index, unlisted words 0. -/
abbrev RawImage := Tbl Word

/-- An INTx message of a legacy device: its wire (0 INTA to 3 INTD) and the Requester ID that it carries (R102, R163). -/
structure IntxMsg where
  wire  : Nat
  reqId : Nat
  deriving DecidableEq, Repr

/-- What a mirrored write carries beside its line: a journal entry, if it has one, and the deadline of its request (R198, R266). -/
structure MirrorTail where
  journal  : Option (Nat × Nat)
  deadline : Nat
  deriving DecidableEq, Repr

/-- The lines, 0 to 3, of a copied granule whose reads were corrected, and those whose reads were uncorrectable (R177, R178, R185). -/
structure CopyEcc where
  ce : List Nat
  ue : List Nat
  deriving DecidableEq, Repr

end Sys2Proof
end

