-- ==== Sys2Proof/Machine/BridgeState.lean ====
section
/-! DEFINITION. The state of the data path: trackers and streams of the bridge (04, 05), translation in progress (03),
ring units (08), the home agent and the channels (06), the tick unit (07). -/
namespace Sys2Proof.Machine

/-- The line operations that reach a target. -/
inductive LineOp where
  | read (snp : SnpType)
  | specRd
  | inv
  | clnEvct
  | write (data : Line) (mask : BitVec 64) (full poison : Bool) (v : MetaVal)
  /-- an AtomicOp at a line offset, on bytes swapped as a BSWAP says (R123) -/
  | atom (op : AtomOp) (off bswap : Nat)
  deriving DecidableEq, Repr

/-- To whom an answer goes: a tracker (pipeline × 4,096 + index), a far access of an engine, or a read, copy or commit of
the device's own. -/
inductive Who where
  | trk (k : Nat)
  | eng (e slot : Nat)
  | own
  deriving DecidableEq, Repr

/-- An access to one line at its target. -/
structure LAcc where
  who : Who
  /-- the host R87 checks it for -/
  host : Nat
  /-- the request is the host's own, so that the host may become a holder; false: an uncached requester (06) -/
  cached : Bool
  op : LineOp
  /-- host-side address -/
  addr : Nat
  /-- pool address [46:6] -/
  pool : Nat
  /-- device physical address -/
  dpa : Nat
  win : Nat
  shared : Bool
  mirror : Bool
  rw : Bool
  deadline : Nat
  /-- reduce-alias slice of a tick-ordered window -/
  slice : Option Nat
  /-- contributor number, where the requester has one -/
  contrib : Option Nat
  /-- the write goes to NEW_POOL_EXT of a migration (R93) -/
  second : Bool
  deriving DecidableEq, Repr

/-- An answer on its way to its requester. -/
structure Answer where
  kind : Option ErrKind
  data : Line
  poison : Bool
  grant : Grant
  old : Nat
  second : Bool
  deriving DecidableEq, Repr

/-- Targets of the decision-point table, R145. -/
inductive Target where
  | hbm
  | tick
  | legacy (port : Nat)
  | fabric (port : Nat)
  | isl (port pbr : Nat)
  | hostLink (port : Nat)
  | partner
  deriving DecidableEq, Repr

/-- Tracker states, R105, and the held state of R151. -/
inductive TrkSt where
  | translate | wait | issued | respond | held
  deriving DecidableEq, Repr

/-- Who made a tracker's request. -/
inductive Src where
  | host (port tag : Nat)
  | isl (port tag : Nat)
  /-- line `line` of inbound item `item` -/
  | leg (item line : Nat)
  /-- a host's CXL.io request toward a legacy port -/
  | io (port reqId tag : Nat)
  /-- a far access of an engine that leaves through a port, or through the partner (assumption 24) -/
  | eng (e slot : Nat) (contrib : Option Nat)
  /-- a request that the partner forwards, by its tracker there: a host's own, or with a contributor number (R450) -/
  | twin (id : Nat) (cached : Bool) (contrib : Option Nat)
  deriving DecidableEq, Repr

/-- Which share of R106 and R264 a tracker is charged to. -/
inductive Share where
  | general | legacy | hostIo | rwd (port : Nat)
  deriving DecidableEq, Repr

/-- A tracker that is not FREE. -/
structure Trk where
  st : TrkSt
  src : Src
  host : Nat
  share : Share
  op : LineOp
  addr : Nat
  win : Nat
  slot : Nat
  slice : Option Nat
  deadline : Nat
  gen : Option Nat
  pool : Nat
  target : Target
  dpa : Nat
  /-- the second target of a write during a migration: pool line, target, address (R93) -/
  also : Option (Nat × Target × Nat)
  /-- answers still owed -/
  owed : Nat
  /-- the legacy tag held -/
  tag : Option Nat
  /-- when it was accepted -/
  accepted : Nat
  issuedAt : Nat
  timer : Nat
  /-- an error was synthesised (R151) -/
  synth : Bool
  heldAt : Nat
  /-- the answer, once it has reached the pipeline (of a write during a migration, the first of the two) -/
  ans : Option Answer
  /-- sequence number of a CXL.io request on its HOST port (R130) -/
  seq : Nat
  /-- CXL.io TLP to send -/
  tlp : Option Tlp
  /-- the link of its HOST port has gone down: its answer is discarded and counted (R61) -/
  orphan : Bool
  /-- response credits held: plane and target stop (R107) -/
  rsp : List (Nat × Nat)
  /-- response credits held of legacy ports' outbound halves: the ports (R107) -/
  outRsp : List Nat
  deriving DecidableEq, Repr

/-- A request that waits for a tracker (R50). -/
inductive Ingress where
  | mem (port : Nat) (r : MemReq)
  | legWrite (port : Nat) (w : LegWrite)
  | legRead (port : Nat) (r : LegRead)
  | legAtom (port : Nat) (r : LegRead) (op : AtomOp)
  | legZero (port : Nat) (r : LegRead)
  | legWire (port wire : Nat) (on : Bool) (reqId : Nat)
  | legMsg (port : Nat) (code : MsgCode) (reqId : Nat)
  | io (port vb : Nat) (r : IoReq)
  /-- a request that the partner forwards (R450) -/
  | fwd (id host addr deadline : Nat) (cached : Bool) (contrib : Option Nat) (op : LineOp)
  deriving DecidableEq, Repr

/-- Classes of inbound items. -/
inductive ICls where
  | w | f | i | r | c | z
  deriving DecidableEq, Repr

/-- What an inbound item is. -/
inductive IBody where
  | write (toHost : Bool)
  | intr (t : Tlp)
  | wire (q : Nat) (on : Bool)
  | note (t : Tlp)
  | read (r : LegRead)
  | atom (r : LegRead) (op : AtomOp)
  | cpl (hostPort : Nat) (t : Tlp)
  | zlr (r : LegRead)
  deriving DecidableEq, Repr

/-- An inbound item of a stream, kept until it is acknowledged, delivered or completed (R126). -/
structure Item where
  port : Nat
  /-- stream key: the requester (R102); 0 for the requester-0 stream -/
  stream : Nat
  cls : ICls
  body : IBody
  /-- first and last line address (host-side [51:6]) it touches -/
  first : Nat
  last : Nat
  /-- the item targets the owning host's own memory -/
  toHost : Bool
  /-- trackers that still work for it -/
  trks : List Nat
  /-- lines of a read that are complete: line index → data and poison -/
  got : Tbl (Line × Bool)
  /-- bytes of a read already returned -/
  sent : Nat
  /-- lines that failed: line index → kind, violation type, window -/
  fails : Tbl (ErrKind × Nat × Option Nat)
  /-- the error answer of a read was sent (R152) -/
  closed : Bool
  /-- released from its hold -/
  released : Bool
  /-- a host-link write was sent and waits for its zero-length read (R125) -/
  flushing : Bool
  deadline : Nat
  /-- Requester ID of a posted write, R495 -/
  reqId : Nat := 0
  /-- every line of a posted write has passed the checks of R87 (R583) -/
  checked : Bool := false
  /-- a host-link write is sent and waits for a free tag for its zero-length read (R125) -/
  flushWait : Bool := false
  /-- a completion that answers a configuration request (R47) -/
  conf : Bool := false
  /-- the contained port toward which a line of the read ended (R156) -/
  owe : Option Nat := none
  deriving DecidableEq, Repr

/-- A stream context, R103. -/
structure Ctx where
  port : Nat
  stream : Nat
  hostLink : Option Nat
  deriving DecidableEq, Repr

/-- A tag in use toward a legacy partner, R114. -/
structure TagEnt where
  who : Who
  /-- the request is the second write of a migration (R93) -/
  second : Bool
  /-- start of the target timer, once sent (R146), and its value -/
  start : Option Nat
  timer : Nat
  /-- bytes the partner still owes -/
  owed : Nat
  /-- completions forwarded so far -/
  partial_ : Bool
  deriving DecidableEq, Repr

/-- The ordering kinds of R130. -/
inductive EgrKind where
  | posted | nonPosted | cpl | mem
  deriving DecidableEq, Repr

/-- What an egress item sends. -/
inductive EgrBody where
  | tlp (t : Tlp)
  | mem (ld : Nat) (r : MemReq) (pbr : Nat)
  | rsp (tag : Nat) (m : S2M) (g : Grant)
  | snp (tag host line : Nat) (t : SnpType)
  | biAck (line : Nat)
  deriving DecidableEq, Repr

/-- An item at the egress of a port. -/
structure Egr where
  kind : EgrKind
  body : EgrBody
  deadline : Nat
  /-- HOST port and sequence number of a CXL.io request -/
  from_ : Option (Nat × Nat)
  /-- the tag whose timer starts when it is sent -/
  tag : Option Nat
  /-- line address for the order of CXL.mem requests -/
  line : Nat
  /-- read item and start byte of a completion to the partner -/
  read : Option (Nat × Nat)
  since : Nat
  group : Nat
  /-- the inbound item that is delivered, or the host-link write that is sent, with it -/
  item : Option Nat
  /-- it answers a configuration request, which IDE_REQ never holds back (R47) -/
  conf : Bool := false
  /-- the contained port whose CONTAINED answer it is (R156) -/
  owe : Option Nat := none
  /-- the message of R138 that follows it: the request's tag and ERR_KIND -/
  islErr : Option (Nat × ErrKind) := none
  deriving DecidableEq, Repr

/-- A virtual bridge, and the legacy port below it, 04 and 05. -/
structure Leg where
  tag10 : Bool
  serr : Bool
  dpcEn : Nat
  dpcUr : Bool
  block : Bool
  errCor : Bool
  /-- DPC Interrupt Enable, DPC ERR_COR Enable (R155) -/
  dpcInt : Bool
  dpcErrCor : Bool
  mps : Nat
  atomics : Nat
  errNf : Bool
  errF : Bool
  /-- AER Uncorrectable Error Mask, a bit for each code of `aer` -/
  uncorMask : Nat
  /-- errors logged in AER: 0 UR, 1 CA, 2 poisoned received, 3 egress blocked, 4 internal, 5 malformed, 6 flow control; and the
  partner's messages logged: 7 ERR_COR, 8 ERR_NONFATAL, 9 ERR_FATAL -/
  aer : List Nat
  dpcStatus : Bool
  dpcReason : Nat
  cause : Nat
  ctoRun : Nat
  pounding : Bool
  intx : Nat
  /-- the wires as the released messages have left them (R164) -/
  intxOut : Nat
  tags : Tbl TagEnt
  quar : Tbl Nat
  egress : List Egr
  /-- items accepted before containment that the signal waits for: all below this id (R155, R165) -/
  signal : Option Nat
  deassert : Option (Nat × Nat)
  /-- end of the wait for a host link (R113, R171) -/
  hostWait : Option Nat
  lastPound : Option Nat
  lastLate : Option Nat
  /-- event interrupt of a backing partner not yet served, and the last collection (R168) -/
  evtAt : Option Nat
  lastCollect : Nat
  /-- RELEASE waits for CONTAINED answers (R156) -/
  releasing : Bool
  deriving DecidableEq, Repr

/-- A pool view's event log record (R137, R96, R97, R168). -/
structure ViewRec where
  host : Nat
  sev : EvSev
  /-- 0 Invalid Address, 1 Data Path Error, 2 capacity add, 3 capacity release, 4 a partner's record -/
  typ : Nat
  dpas : List Nat
  /-- the rest of a partner's record that is copied (R168) -/
  code : Nat := 0
  deriving DecidableEq, Repr

/-- Bridge state, 04 and 05. -/
structure Bridge where
  trks : Tbl Trk
  waiting : List (Nat × Ingress)
  items : Tbl Item
  nextItem : Nat
  ctxs : List Ctx
  legs : Tbl Leg
  /-- egress of HOST, FABRIC-DEVICE, ISL and TWIN ports -/
  egress : Tbl (List Egr)
  /-- sequence numbers of HOST ports (R130) -/
  seqs : Tbl Nat
  /-- pipeline → most trackers in use -/
  high : Tbl Nat
  lastLateTrk : Tbl Nat
  /-- pool view event logs: records, oldest first; the overflow count of each log, by host × 4 + log (R170); and the logs
  whose records the host has made an interrupt announce (R137) -/
  views : List ViewRec
  viewOvf : Tbl Nat
  viewSignal : List Nat
  /-- AER errors of pool views: host → 5 malformed, 6 flow control (R139) -/
  viewAer : Tbl (List Nat)
  /-- tracker → host and address of its last write to an ISL target (R138) -/
  islDone : Tbl (Nat × Nat)
  /-- hosts' upstream INTx wires as last sent: host → 4 bits -/
  wires : Tbl Nat
  /-- the INTx port last used by each host -/
  intxPort : Tbl Nat
  /-- host → the bus number that it gave the secondary bus of its virtual switch's upstream port (R116) -/
  secBus : Tbl Nat
  /-- trackers that a pipeline has filled a port's request-with-data reservation with, by port × 2 + pipeline mod 2 (R264) -/
  rwd : Tbl Nat
  deriving DecidableEq, Repr

/-! ## Translation in progress, 03 -/

/-- A walk in progress, R78. -/
structure Walk where
  die : Nat
  win : Nat
  slot : Nat
  waiters : List Who
  deriving DecidableEq, Repr

/-- A fill request with an open window, R81. -/
structure Fill where
  die : Nat
  tag : Nat
  win : Nat
  slot : Nat
  gen : Nat
  waiters : List Who
  deadline : Nat
  deriving DecidableEq, Repr

/-- A migration slot, R92. -/
structure Mig where
  /-- 1 DRAIN, 2 COPY, 3 DONE -/
  st : Nat
  ext : Nat
  gens : List Nat
  lines : Nat
  deriving DecidableEq, Repr

/-- A pool extent being scrubbed, R91: the older generations it waits for, and whether it has started. -/
structure Scrub where
  ext : Nat
  gens : List Nat
  running : Bool
  deriving DecidableEq, Repr

/-- A dynamic-capacity release event that host software has not answered, R98. -/
structure DcRel where
  win : Nat
  slot : Nat
  deadline : Nat
  /-- tag of its post in DC_TMO_REQ -/
  post : Option Nat
  /-- timed out, waiting for room in the mailbox -/
  waits : Bool
  deriving DecidableEq, Repr

/-- An add of dynamic capacity on its way (R96): the slots of its window, each with the pool extent it takes. -/
structure DcBatch where
  win : Nat
  items : List (Nat × Nat)
  deriving DecidableEq, Repr

/-- Translation state, 03. -/
structure Xl where
  /-- translation cache: (die, window, slot) in the order installed -/
  cache : List (Nat × Nat × Nat)
  walks : List Walk
  /-- misses that wait for one of the 256 walks of a die -/
  queue : List (Nat × Nat × Nat × Who)
  fills : List Fill
  fillPosts : Tbl (List Word)
  fillTag : Nat
  curGen : Nat
  migs : Tbl Mig
  scrubs : List Scrub
  /-- adds whose slots become PRESENT at the first boundary after their scrubs -/
  dcAdd : List DcBatch
  /-- slots to become ABSENT at the next boundary -/
  dcDrop : List (Nat × Nat)
  /-- extents offered to host software by an add: window, slot -/
  dcOffer : List (Nat × Nat)
  dcRel : List DcRel
  dcPosts : List Word
  dcTag : Nat
  /-- backing extents beyond a partner's capacity (pool extents), R70 -/
  short : List Nat
  /-- extent entries of abandoned migrations that become PRESENT at the next boundary (R95) -/
  migBack : List Nat
  /-- engine accesses whose translation ended in an error (R80, R83, R84) -/
  failed : List (Who × ErrKind)
  deriving DecidableEq, Repr

/-! ## Rings, 08 -/

/-- What a ring unit carries. -/
inductive UBody where
  | mem (a : LAcc)
  | tick (a : LAcc)
  /-- a request for a port's outbound half or egress: the tracker or engine, the port -/
  | out (w : Who) (port : Nat) (e : Egr)
  | rsp (w : Who) (r : Answer)
  | snp (port : Nat) (e : Egr)
  deriving DecidableEq, Repr

/-- A packet on the rings. -/
structure RUnit where
  plane : Nat
  src : Nat
  dst : Nat
  /-- 0 BI_RSP, 1 RSP, 2 BI_REQ, 3 REQ, 4 QMSG -/
  cls : Nat
  deadline : Nat
  len : Nat
  poison : Bool
  host : Option Nat
  /-- source of a privileged request: 0 steward, 1 twin mirror, 2 error logger, 3 tick commit -/
  priv : Option Nat
  since : Nat
  /-- credit held: 0 none, 1 the source's own, 2 the shared pool -/
  credit : Nat
  body : UBody
  deriving DecidableEq, Repr

/-- An arbiter: rotating pointer, last owner, the hints it last sent (requester, hint). -/
structure Arb where
  ptr : Nat
  owner : Option Nat
  hints : List (Nat × Nat)
  deriving DecidableEq, Repr

/-- A reserved slot, R259: source and destination stop, frame cycle, host. The same on every plane. -/
structure Rsv where
  src : Nat
  dst : Nat
  cycle : Nat
  host : Nat
  deriving DecidableEq, Repr

/-- A plane: recovery started at, and the end of its 1,024 safe cycles (R255). -/
inductive PlaneSt where
  | normal | stopped | safe
  deriving DecidableEq, Repr

/-- Ring state, 08. -/
structure Rings where
  /-- units waiting at their source stop, in order -/
  wait : List RUnit
  flight : List RUnit
  /-- units in a destination stop buffer -/
  arrived : List RUnit
  /-- credits in use: (plane, class, source, destination), own credits -/
  own : List (Nat × Nat × Nat × Nat)
  /-- shared-pool entries in use: (plane, class, destination) -/
  pool : List (Nat × Nat × Nat)
  /-- credits on their way back -/
  back : List (Nat × Nat × Nat × Nat × Nat)
  arbs : List (ArbId × Arb)
  planes : Tbl PlaneSt
  drops : Tbl Nat
  frame : Nat
  rsv : List Rsv
  /-- EFF_LINES in use, and those to be applied at the next frame boundary (R278) -/
  eff : Tbl Nat
  next : Option (Tbl Nat)
  /-- a recomputation is due -/
  dirty : Bool
  /-- answers that have reached an engine's cluster -/
  engAns : List (Who × Answer)
  ctl : Word
  deriving DecidableEq, Repr

/-! ## Home and channels, 06 -/

/-- A snoop-filter entry. -/
structure Sf where
  presence : BitVec 64
  excl : Bool
  mirrored : Bool
  way : Nat
  deriving DecidableEq, Repr

/-- What a back-invalidate snoop or an eviction request is for: the access in progress on its own line, the recall of a
victim for the access to a line (R194), for the partner (R200), or to give a mirrored entry its way. -/
inductive SnpWhy where
  | access
  | victim (line : Nat)
  | partner
  /-- a release of dynamic capacity recalls the host's lines (R97) -/
  | release
  deriving DecidableEq, Repr

/-- A back-invalidate snoop that has not been answered. -/
structure Snp where
  tag : Nat
  line : Nat
  host : Nat
  kind : SnpType
  why : SnpWhy
  start : Nat
  /-- BI_TMO when the timer started, in ns -/
  timer : Nat
  /-- sent on this port (on the partner: 512); none: waits for a port or credit (R191, R203) -/
  port : Option Nat
  deadline : Nat
  deriving DecidableEq, Repr

/-- Stages of an access that holds a home entry. -/
inductive HSt where
  /-- the home entry is taken; the access has not started -/
  | entered
  /-- waits for a snoop-filter set (R188) -/
  | setRead
  /-- waits for a victim: to be chosen, asked for, or recalled (R194, R195, R200) -/
  | victim
  /-- waits for the holders' answers -/
  | snooping
  /-- at its channel -/
  | channel
  /-- waits for the mirror's acknowledgement (R198) -/
  | mirror
  deriving DecidableEq, Repr

/-- A home entry, R187. -/
structure HEnt where
  acc : LAcc
  st : HSt
  /-- the source stop's plane, for the answer -/
  plane : Nat
  /-- the answer, while the access waits for a snoop-filter way or for the mirror -/
  ans : Option Answer
  /-- the access has written its line, or found it uncorrectable: the mirror is owed it (R198) -/
  wrote : Bool := false
  deriving DecidableEq, Repr

/-- HOST_COH.STATE. -/
inductive CohSt where
  | up | downWait | reclaim | gone
  deriving DecidableEq, Repr

/-- A host's coherence state, 06. -/
structure Coh where
  st : CohSt
  failRun : Nat
  everUp : Bool
  /-- end of the gone timer -/
  goneAt : Option Nat
  readmit : Bool
  /-- next set of the reclaim walk -/
  walking : Bool
  deriving DecidableEq, Repr

/-- An eviction request with an open window, R195. -/
structure Evict where
  die : Nat
  tag : Nat
  set : Nat
  why : SnpWhy
  deadline : Nat
  deriving DecidableEq, Repr

/-- What an access at a channel is for: an access to a line, the walker's read of an extent entry (R78), the read of a snoop-filter
set, or its write-back (R188). -/
inductive ChJob where
  | access
  | walk (die win slot : Nat)
  | setRead (die set : Nat)
  | setWrite
  deriving DecidableEq, Repr

/-- An access at a channel: the HBM line (before moved granules), the source stop, whether the line's home entry waits
for it, whether it is a write ready for the buffer, and since when it waits. -/
structure ChAcc where
  acc : LAcc
  hline : Nat
  stop : Nat
  plane : Nat
  since : Nat
  entry : Bool
  write : Bool
  background : Bool
  priv : Option Nat
  job : ChJob := .access
  /-- the read is served from the write buffer (R180) -/
  buffered : Bool := false
  deriving DecidableEq, Repr

/-- A line in a channel's write buffer. -/
structure WEnt where
  hline : Nat
  deadline : Nat
  stop : Nat
  since : Nat
  /-- the host whose access it is; none: the device's own (R531) -/
  host : Option Nat
  priv : Option Nat
  background : Bool
  deriving DecidableEq, Repr

/-- A channel, 06. -/
structure Chan where
  /-- 0 ACTIVE, 1 RETIRING, 2 RETIRED, 3 DEAD -/
  st : Nat
  readQ : List ChAcc
  wbuf : List WEnt
  /-- reads issued whose line has not returned -/
  reading : List ChAcc
  /-- writes left of a turn (R182) -/
  turn : Nat
  ptr : Nat
  /-- the requester on which the grant is parked (R272) -/
  owner : Option Nat
  hints : List (Nat × Nat)
  refreshes : Nat
  /-- the last 128 ns in which an access was granted, by number, and the accesses granted in it (R574) -/
  paced : Nat × Nat
  ceSecond : Nat
  ceCount : Nat
  ceRate : Nat
  lastCe : Option Nat
  copied : Nat
  deriving DecidableEq, Repr

/-- A mirrored write that waits for the partner, R198. -/
structure MirWait where
  id : Nat
  line : Nat
  set : Nat
  acc : LAcc
  plane : Nat
  ans : Answer
  /-- the line's home entry waits for it -/
  entry : Bool
  deriving DecidableEq, Repr

/-- Home and channel state, 06. -/
structure Home where
  /-- HBM contents by HBM byte address; an unlisted byte is 0 after LOAD (R423 step 2) -/
  mem : List Host.Cell
  /-- lines of HBM whose poison bit is set -/
  poisoned : List Nat
  /-- line (pool address [46:6]) → entry -/
  entries : Tbl HEnt
  /-- accesses that wait at a slice for a line's entry, with their planes, in order of arrival -/
  waiting : List (LAcc × Nat)
  /-- accesses under a home entry for a channel whose queue or buffer is full -/
  chWait : List ChAcc
  sf : Tbl Sf
  /-- snoop-filter sets in each die's cache: (die, set), in the order used -/
  cached : List (Nat × Nat)
  setReads : List (Nat × Nat)
  /-- cached sets that have been modified -/
  dirty : List (Nat × Nat)
  snoops : List Snp
  snpTag : Nat
  cohs : Tbl Coh
  evicts : List Evict
  evictPosts : Tbl (List Word)
  evictTag : Nat
  /-- back-invalidate responses discarded because they were late (R202) -/
  lateBi : Nat
  /-- sets the partner was asked to free, and sets the partner asked for (R200) -/
  asked : List Nat
  askedBy : List Nat
  chans : Tbl Chan
  /-- moved granules: HBM granule → granule of the reserve (R185) -/
  moved : Tbl Nat
  mirWaits : List MirWait
  /-- lines whose poisoning the mirror has not acknowledged: number, line (R198) -/
  mirPoison : List (Nat × Nat)
  mirTag : Nat
  /-- journal of AtomicOps executed at the holder for this member (R452): set, tracker, old value; oldest first -/
  journal : List (Nat × Nat × Nat)
  patrol : Nat
  deriving DecidableEq, Repr

/-! ## The tick unit, 07 -/

/-- A staging record, R219. -/
structure Rec where
  contrib : Nat
  line : Nat
  /-- none: a plain record; else the operation code -/
  op : Option Nat
  mask : BitVec 64
  data : Line
  last : Line
  dups : Nat
  tickId : Nat
  /-- a write that carried poison (assumption 23) -/
  poison : Bool
  deriving DecidableEq, Repr

/-- A contributor number's grant, R239. -/
structure Contrib where
  engine : Bool
  host : Nat
  budget : Nat
  deriving DecidableEq, Repr

/-- Flags and counts of one tick. -/
structure TickAcct where
  dups : Nat
  violations : Nat
  absent : List Nat
  overrun : List Nat
  bell : Bool
  bellMiss : Bool
  late : Bool
  takeover : Bool
  fpNan : Bool
  err : Bool
  deriving DecidableEq, Repr

/-- A tick report. -/
structure Report where
  tick : Nat
  boundary : Nat
  publish : Nat
  records : Nat
  lines : Nat
  acct : TickAcct
  windows : Word
  deriving DecidableEq, Repr

/-- A staged write of the home's that has come before this member's own boundary: its tick is not open here yet (R242, R448). -/
structure Early where
  id : Nat
  tick : Nat
  contrib : Nat
  line : Nat
  tickId : Nat
  op : Option Nat
  mask : BitVec 64
  data : Line
  poison : Bool
  deriving DecidableEq, Repr

/-- Why a boundary is deferred. -/
inductive Defer where
  | none | commit | takeover
  deriving DecidableEq, Repr

/-- The tick unit's state, 07. -/
structure Tick where
  running : Bool
  /-- BELL_CTL as in effect since the last boundary -/
  bellCtl : Word
  num : Nat
  published : Nat
  lastBoundary : Nat
  nextNominal : Nat
  contribs : Tbl Contrib
  open_ : List Rec
  closed : List Rec
  openAcct : TickAcct
  closedAcct : TickAcct
  openDups : Tbl Nat
  committing : Bool
  defer : Defer
  /-- line → (TAG_0, TAG_1) where they are not as R223 sets them -/
  tags : Tbl (Nat × Nat)
  /-- TICK_PUBLISHED when a pool extent's window became tick-ordered -/
  baseTag : Tbl Nat
  slot1 : Tbl Line
  slot1Poison : List Nat
  reports : Tbl Report
  /-- DTB of the edge accepted for this boundary -/
  edge : Option Nat
  missRun : Nat
  noWait : Bool
  lastOffset : Int
  bellOutUntil : Option Nat
  /-- accesses at the tick unit -/
  inbox : List LAcc
  /-- the mirror's commit is not reported yet (R243) -/
  mirrorOwed : Bool
  /-- the partner's absent masks of ticks not published here yet -/
  maskIn : Tbl (List Nat)
  /-- the partner has been told of the mirror's commit of the closed tick, which this member may not publish yet (R243) -/
  reported : Bool
  /-- staged writes of the home's for the tick that this member opens next -/
  early : List Early
  walkAt : Nat
  deriving DecidableEq, Repr

end Sys2Proof.Machine
end

