-- ==== Sys2Proof/Machine/MillState.lean ====
section
/-! DEFINITION. The state of the queue unit (09) and of the mill engines (10, 11). -/
namespace Sys2Proof.Machine

/-! ## Queues, 09 -/

/-- An item of a list, or the gap marker: its cells, first cell first (the gap cell for a marker); the commit word and the
producer of its header; its data words, padded with zeros (R296); its poisoned 64-byte lines, 4 × cell + line (R286). -/
structure QItem where
  gap : Bool
  cells : List Nat
  commit : Word
  prod : Nat
  data : List Word
  poison : List Nat
  deriving DecidableEq, Repr

/-- List p of a queue, oldest item first. `rd` and `mkd` are the numbers of items up to RD_p and MK_p; 0: the pointer is 0. -/
structure QList where
  items : List QItem
  rd : Nat
  mkd : Nat
  deriving DecidableEq, Repr

/-- A queue's descriptor (R284), its lists, and its timers. -/
structure Queue where
  lists : Tbl QList
  /-- 0 FREE, 1 PENDING, 2 HELD -/
  gapState : Nat
  gapPrio : Nat
  /-- CUR_PRIO while CUR_VALID is 1 -/
  cur : Option Nat
  dropsHeld : Nat
  /-- DTB at which the running lease timer last started -/
  lease : Option Nat
  stale : Bool
  /-- DTB at which the running stale timer last started -/
  staleAt : Option Nat
  lapsed : Bool
  faulted : Bool
  deriving DecidableEq, Repr

/-- An open item of a producer page, R291-R293. -/
structure OpenItem where
  /-- words written, by index; once no-room, what is written is not kept -/
  words : Tbl Word
  poisoned : List Nat
  /-- cell index in the item → cell -/
  cells : Tbl Nat
  ctx : Bool
  noRoom : Bool
  badWrite : Bool
  deadline : Nat
  deriving DecidableEq, Repr

/-- To whom the queue unit answers: nobody; a host's request on a HOST port, with its read offset and length; an engine, by
the request's number; the partner, by the forwarded request's number. -/
inductive QTo where
  | none
  | host (port reqId tag lower count deadline : Nat)
  | eng (num : Nat)
  | twin (id : Nat)
  deriving DecidableEq, Repr

/-- Why a queue's next operation waits: for the cell writes of a delivered item (R295), for the mirror (R311), for the end of
a reset (R316). -/
inductive QAct where
  | cells
  | mirror (id : Nat)
  | reset
  deriving DecidableEq, Repr

/-- The operation in progress on a queue. -/
structure QBusy where
  act : QAct
  op : QOp
  dest : QTo
  deriving DecidableEq, Repr

/-- An operation that waits behind another on its queue (R282). -/
structure QWait where
  q : Nat
  op : QOp
  dest : QTo
  deriving DecidableEq, Repr

/-- A round of a dispatch queue, R325. -/
structure Round where
  limit : Nat
  count : Nat
  ended : Nat
  /-- jobs ended by an isolated cluster: the round is rewound (R334) -/
  rewind : Bool
  refreshAt : Nat
  deriving DecidableEq, Repr

/-- The queue unit, 09. -/
structure QUnit where
  queues : Tbl Queue
  /-- NEXT_SEQ and LAST_RESULT by binding; unlisted: 0, 0 -/
  prods : Tbl (Nat × Nat)
  opens : Tbl OpenItem
  /-- freed data cells, the next to allocate first, and the lowest cell never allocated -/
  freed : List Nat
  nextCell : Nat
  busy : Tbl QBusy
  waits : List QWait
  rounds : Tbl Round
  /-- NOTICE_REQ: posts, oldest first -/
  notices : List Word
  noticeLost : Bool
  lastLost : Option Nat
  lastNoCell : Option Nat
  /-- operations forwarded to the partner, by number -/
  fwd : Tbl (Nat × QOp × QTo)
  deriving DecidableEq, Repr

/-- What a sync copies of a set in its one message (R447, assumption 33): the lines that are not 0 with their poison bits,
the snoop-filter entries, the slot 1 lines that are not 0 with their poison bits, the line words, the records of the open tick,
and the queues with the NEXT_SEQ and LAST_RESULT of their bindings. -/
structure SetCopy where
  lines : List (Nat × Line × Bool)
  sf : List (Nat × BitVec 64 × Bool)
  slot1 : List (Nat × Line × Bool)
  tags : List (Nat × Nat × Nat)
  /-- the tag of the line words, not in `tags`, of a pool extent -/
  base : List (Nat × Nat)
  staged : List Rec
  queues : List (Nat × Queue)
  prods : List (Nat × Nat × Nat)
  deriving DecidableEq, Repr

/-! ## Mill engines, 10, 11 -/

/-- A window map slot, with its TICK mark (R379). -/
structure MapSlot where
  typ : Nat
  write : Bool
  base : Nat
  len : Nat
  tick : Bool
  deriving DecidableEq, Repr

/-- A delay slot about to execute: the branch or jump, and the address after the slot (R344). -/
structure DSlot where
  br : Nat
  next : Nat
  deriving DecidableEq, Repr

/-- The registers of an engine that its program can change (R337). Unlisted general, vector and mask registers hold 0; g0 and
p0 are not listed. -/
structure Arch where
  pc : Nat
  slot : Option DSlot
  g : Tbl Word
  v : Tbl Line
  p : Tbl Word
  epc : Word
  status : Word
  cause : Word
  faultAddr : Word
  mode : Word
  loop0 : Word
  loop1 : Word
  evec : Word
  /-- CNT_CTL.SEL -/
  sel : Nat
  deriving DecidableEq, Repr

/-- Where an access of an engine stands: at the engine memory port, in translation, on its way, answered. -/
inductive AccSt where
  | port
  | xlate
  | sent
  | got (k : Option ErrKind) (d : Line) (poison : Bool)
  deriving DecidableEq, Repr

/-- A far access of an engine. Its number is the place of its load (0-15), of its store (16-31), or 32-35 for the completion
record: the read of word 0, the RUNNING word, bytes 8-31, the VALID word. -/
structure FarAcc where
  st : AccSt
  addr : Nat
  /-- none: a line read -/
  write : Option (Line × BitVec 64)
  deadline : Nat
  since : Nat
  /-- the generation it holds while it is on its way to HBM (R90) -/
  gen : Option Nat
  /-- a discarded load: its answer is dropped (R365, R380) -/
  dropped : Bool
  deriving DecidableEq, Repr

/-- The kinds of scalar load. -/
inductive LoadK where
  | b | bu | h | hu | w | wu | d
  deriving DecidableEq, Repr

/-- A far load that has issued and not completed. -/
structure Flight where
  /-- the count of instructions issued before it -/
  num : Nat
  /-- number of the far access; one joined serves several loads (R380) -/
  id : Nat
  /-- none: a VLD -/
  kind : Option LoadK
  rd : Nat
  /-- engine address -/
  eaddr : Nat
  /-- the store-buffer bytes laid over the line (R378) -/
  fwdLine : Line
  overMask : BitVec 64
  /-- through a WINDOW_DEVICE slot -/
  device : Bool
  /-- the registers as they stood before it -/
  before : Arch
  deriving DecidableEq, Repr

/-- A store-buffer entry, R377. -/
structure SbEnt where
  id : Nat
  /-- host-side line address -/
  line : Nat
  /-- engine address of the line's byte 0 -/
  eline : Nat
  data : Line
  mask : BitVec 64
  issued : Bool
  /-- it merges: through a WINDOW_NORMAL slot that is not marked TICK -/
  merges : Bool
  device : Bool
  at_ : Nat
  deriving DecidableEq, Repr

/-- What an engine waits for before it issues again. -/
inductive EngWait where
  | none
  /-- an instruction-cache line: its code address / 64 -/
  | fetch (line : Nat)
  | sleep (until_ : Nat)
  /-- the queue unit's answer: QPUSH or QREL to rd, or QPOP to rd and a bench address -/
  | queue (num : Nat) (rd : Option Nat) (bench : Option Nat) (slot : Nat)
  /-- the acknowledgement of a WINDOW_DEVICE store -/
  | device
  /-- exception entry: the drain of the store buffer; then the entry: code, EPC, FAULT_ADDR, DS -/
  | entry (code epc fault : Nat) (ds : Bool)
  deriving DecidableEq, Repr

/-- The steps of a job on its engine (R327, R330). -/
inductive JobStep where
  /-- the item has been asked for -/
  | selecting
  /-- a dispatch request is open (R335) -/
  | deciding
  /-- waits for stream queues that other jobs hold (step 6) -/
  | holds
  /-- word 0 of the record is being read (step 7) -/
  | probe
  /-- steps 8 and 9: the RUNNING word is being written -/
  | start
  | running
  /-- the job has ended: the store buffer drains -/
  | drain
  /-- bytes 8-31 of the record are being written -/
  | record
  /-- word 0 of the record is being written -/
  | valid
  deriving DecidableEq, Repr

/-- A job and its context (R325-R331). -/
structure Job where
  step : JobStep
  /-- number of its selection -/
  ask : Nat
  queue : Nat
  prod : Nat
  seq : Nat
  host : Nat
  program : Nat
  version : Nat
  slots : List MapSlot
  budget : Nat
  contrib : Option Nat
  wdog : Nat
  cntRead : Bool
  keepBench : Bool
  compSlot : Nat
  compOff : Nat
  stack : Word
  benchIn : Nat
  args : List Word
  input : List Word
  inputLen : Nat
  /-- the completion slot passed its check -/
  compOk : Bool
  evec : Word
  entry : Nat
  /-- READ_EN, fixed at step 10 -/
  readEn : Bool
  /-- start of steps 8 and 9, and of execution (step 10) -/
  startAt : Nat
  beginAt : Nat
  /-- the job watchdog has expired; it is still to be taken; the grace timer's start -/
  wdogFired : Bool
  wdogDue : Bool
  grace : Option Nat
  abort : Bool
  /-- STATUS of the record, its results, CODE, DS, DOUBLE, cycles -/
  status : Nat
  res0 : Word
  res1 : Word
  code : Nat
  ds : Bool
  double : Bool
  cycles : Nat
  halts : Bool
  deriving DecidableEq, Repr

/-- The exception shadow registers, 11. -/
structure Shadow where
  epc : Word
  status : Word
  cause : Word
  faultAddr : Word
  loop0 : Word
  loop1 : Word
  g1 : Word
  g2 : Word
  g31 : Word
  mode : Word
  info : Word
  dtb : Nat
  deriving DecidableEq, Repr

/-- An engine. `last` is what ENG_STATUS and ENG_JOB show of the current or last job: program, version, producer, SEQ, queue. -/
structure Eng where
  /-- 0 IDLE, 1 STARTING, 2 RUNNING, 3 HALTED -/
  st : Nat
  arch : Arch
  /-- bench words that are not 0 -/
  bench : Tbl Word
  job : Option Job
  last : Nat × Nat × Nat × Nat × Nat
  lastHost : Option Nat
  wait : EngWait
  hint : Nat
  flights : List Flight
  /-- instructions the job has issued -/
  issued : Nat
  /-- of the last of them, newest first: was its slot counted (R534)? -/
  counted : List Bool
  acc : Tbl FarAcc
  sb : List SbEnt
  /-- a store of the job has failed: kind and engine address (R368) -/
  storeErr : Option (ErrKind × Nat)
  shadow : Shadow
  /-- the spill area: registers and bench as the engine halted -/
  spill : Option (Arch × Tbl Word × Word)
  resume : Bool
  /-- slots counted for the running job, R533 -/
  slotsDone : Nat
  lastFault : Option Nat
  deriving DecidableEq, Repr

/-- An open dispatch window, R335. -/
structure DispWin where
  half : Nat
  tag : Nat
  eng : Nat
  deadline : Nat
  deriving DecidableEq, Repr

/-- The mill, 10 and 11. -/
structure Mill where
  engs : Tbl Eng
  /-- cluster → lines of its instruction cache: program, version, code address / 64, oldest first -/
  caches : Tbl (List (Nat × Nat × Nat))
  /-- cluster → rotating pointer of its dispatcher -/
  ptrs : Tbl Nat
  /-- selections sent: engine, queue -/
  selections : List (Nat × Nat)
  /-- requests of engines to the queue unit so far, and its answers on their way to an engine, by the request's number -/
  asks : Nat
  answers : List (Nat × QAns)
  /-- stream queue → the engine whose job holds it -/
  holds : Tbl Nat
  windows : List DispWin
  posts : Tbl (List Word)
  tag : Nat
  lastFallback : Tbl Nat
  deriving DecidableEq, Repr

end Sys2Proof.Machine
end

