-- ==== Sys2Proof/Syntax.lean ====
section
/-! DEFINITION. The commands: one constructor for each row of the table, with the row's operands. -/
namespace Sys2Proof

/-- The commands of the device: one constructor a row of the table. -/
inductive Instr where
  /-- REGISTER_WRITE (R8). A control-space write to a register that has no row of its own is checked for width and alignment and applied by its access type. -/
  | registerWrite (p : Path) (off bytes : Nat) (data : Word)
  /-- CLEARING_READ (R15). A read that covers a whole RC field returns the value and then clears the field. -/
  | clearingRead (p : Path) (off bytes : Nat)
  /-- HOST_MEM_REQUEST (R35). A CXL.mem request arrives on a HOST or ISL port, is hashed to a pipeline, takes a tracker and a deadline and is translated and checked. -/
  | hostMemRequest (port : Nat) (r : MemReq)
  /-- TRANSLATION_WALK_START (R78). A translation miss that waited for one of the 256 walk slots starts its walk of the extent entry. -/
  | translationWalkStart (die : Nat)
  /-- WALK_COMPLETE (R78). A walker read of an extent entry returns and the entry is installed, or a fill request is posted in host-assisted mode, and every joined request proceeds. -/
  | walkComplete (die window slot : Nat) (ecc : Ecc)
  /-- FILL_REQ_READ (R82). A 64-bit read of FILL_REQ_n returns and removes the oldest fill request. -/
  | fillReqRead (p : Path) (die : Nat)
  /-- FILL_RESP_WRITE (R83). A fill answer is discarded for a stale GEN, denies the waiting requests, or installs the entry. -/
  | fillRespWrite (p : Path) (die : Nat) (data : Word)
  /-- FILL_TIMEOUT (R84). A fill window reaches FILL_TMO and every waiting request ends with XLATE_TIMEOUT. -/
  | fillTimeout (die tag : Nat)
  /-- TRACKER_ISSUE (R105). A tracker whose holds have ended, with a legacy tag and response space reserved, is issued onto a ring plane. -/
  | trackerIssue (k : Nat)
  /-- RESPONSE_ARRIVES (R105). A response or acknowledgement reaches its tracker, which forwards it to the egress port and is freed. -/
  | responseArrives (r : RspFrom)
  /-- RING_UNIT_DELIVERED (R251). A unit reaches its destination stop buffer and is taken by its target, or poisoned or discarded on a check error. -/
  | ringUnitDelivered (k : Nat) (chk : UnitCheck)
  /-- PLANE_RECOVERY_RESYNC (R255). 64 cycles after a plane stops injecting, stops exchange free buffer counts, reset credits and resume injection. -/
  | planeRecoveryResync (p : Nat)
  /-- CREDIT_RETURN (R252). A ring credit returns to its source or shared pool when its unit leaves the destination buffer. -/
  | creditReturn (k : Nat)
  /-- ARBITER_GRANT (R268). An arbiter decides among eligible requesters by slot, privileged queue, overdue, deadline and rotating pointer, and sends wait hints. -/
  | arbiterGrant (arb : ArbId) (cycle : Nat)
  /-- FRAME_BOUNDARY (R256). The TDM frame counter wraps to cycle 0, FRAME_NUM steps, and new slot placements and EFF_LINES take effect. -/
  | frameBoundary
  /-- CONTRACT_RECOMPUTE (R278). A change in HBM or port capacity recomputes every EFF_LINES by priority, setting SHRINK or REGROW. -/
  | contractRecompute
  /-- LEGACY_POSTED_WRITE (R583). A posted write TLP from a PCIe partner is streamed, classed, checked for every line and split into line writes or carried to host memory. -/
  | legacyPostedWrite (port : Nat) (w : LegWrite)
  /-- LEGACY_READ (R119). A read TLP from a partner is split into line reads or carried to host memory, and its completions are sent in address order. -/
  | legacyRead (port : Nat) (r : LegRead)
  /-- LEGACY_ZERO_LENGTH_READ (R126). A zero-length read from a partner acts as a flush and is completed after the earlier posted items. -/
  | legacyZeroLengthRead (port : Nat) (r : LegRead)
  /-- LEGACY_ATOMIC (R193). An AtomicOp from a partner is executed at the HBM home, carried to host memory, or answered UR. -/
  | legacyAtomic (port : Nat) (r : LegRead) (op : AtomOp)
  /-- LEGACY_COMPLETION (R116). A completion from a partner is matched by tag and forwarded to the host with its Requester ID and tag restored. -/
  | legacyCompletion (port : Nat) (c : CplIn)
  /-- LEGACY_CXL_RESPONSE (R110). An S2M DRS or NDR message from a CXL 1.1/2.0 partner is returned to its requester by tag. -/
  | legacyCxlResponse (port tag : Nat) (m : S2M)
  /-- LINE_WRITE_ACK (R125). A line write of a stream is acknowledged, and held flags, interrupts and completions whose holds end are released. -/
  | lineWriteAck (k : Nat)
  /-- HOST_IO_REQUEST (R120). A host CXL.io request to a virtual bridge is sequenced, converted, tag-mapped and queued toward the legacy port. -/
  | hostIoRequest (port vb : Nat) (r : IoReq)
  /-- HOST_LINK_COMPLETION (R117). A host completion for a partner's request carried on the host link is mapped back and forwarded to the partner. -/
  | hostLinkCompletion (port : Nat) (c : CplIn)
  /-- EGRESS_SEND (R132). The egress scheduler of a legacy port sends the nearest-deadline item that the ordering rules allow. -/
  | egressSend (port : Nat)
  /-- TAG_QUARANTINE_EXPIRY (R115). Twice the port's completion timeout after quarantine, the tag leaves quarantine. -/
  | tagQuarantineExpiry (port tag : Nat)
  /-- HOST_LINK_WAIT_TIMEOUT (R113). Items waiting for a host link reach FABRIC_TMO and are ended or discarded, and the port is contained. -/
  | hostLinkWaitTimeout (port : Nat)
  /-- TARGET_TIMEOUT (R147). A legacy target timer expires at the tag table and an error response of kind TARGET_TIMEOUT is synthesised. -/
  | targetTimeout (port tag : Nat)
  /-- TRACKER_TIMEOUT (R147). A tracker timer expires and an error response of kind BACKSTOP_TIMEOUT is synthesised. -/
  | trackerTimeout (k : Nat)
  /-- TRACKER_HOLD_EXPIRY (R151). Twice its timer after expiry, a held tracker with no late answer returns to FREE and frees its response credit. -/
  | trackerHoldExpiry (k : Nat)
  /-- PROTOCOL_ERROR_RECEIVED (R139). A malformed flit or an excess over returned credits is discarded, logged, and on fabric-device or ISL ports disables the port. -/
  | protocolErrorReceived (port : Nat) (e : ProtoErr)
  /-- BXE_FORCE_CONTAIN (R153). A write of FORCE_CONTAIN contains the port with cause FORCED. -/
  | bxeForceContain (p : Path) (index : Nat)
  /-- BXE_RELEASE (R156). A write of RELEASE ends containment of a port with no virtual bridge and starts training. -/
  | bxeRelease (p : Path) (index : Nat)
  /-- DPC_TRIGGER_CLEAR (R156). The host clears DPC Trigger Status, ending containment and starting a training attempt. -/
  | dpcTriggerClear (port : Nat)
  /-- DPC_SOFTWARE_TRIGGER (R153). The host sets DPC Software Trigger in a virtual bridge, containing the port with cause FORCED. -/
  | dpcSoftwareTrigger (port : Nat)
  /-- CONTAINMENT_SIGNAL (R155). After every earlier item of the port's streams is released or discarded, DPC Trigger Status is set and signalled. -/
  | containmentSignal (port : Nat)
  /-- INTX_DEASSERT_SEND (R165). After the streams drain, the deasserts of a lost partner's INTx wires are sent. -/
  | intxDeassertSend (port : Nat)
  /-- LEGACY_INTX_MESSAGE (R163). An Assert_INTx or Deassert_INTx message from a partner updates its wires and, after its hold, the host's upstream wire. -/
  | legacyIntxMessage (port : Nat) (m : IntxMsg) (on : Bool)
  /-- LEGACY_ERR_MESSAGE (R166). An ERR_COR, ERR_NONFATAL, ERR_FATAL or PM message from a partner is logged, forwarded or consumed, and may contain the port. -/
  | legacyErrMessage (port : Nat) (code : MsgCode) (reqId : Nat)
  /-- LEGACY_CXL_EVENT (R167). An error message or event interrupt from a CXL backing partner is consumed and recorded. -/
  | legacyCxlEvent (port : Nat) (e : CxlEvent)
  /-- EVENT_COLLECTION (R168). Within 10 ms of a backing partner's event interrupt, or every 100 ms, the device reads, copies, forwards and clears its event records. -/
  | eventCollection (port : Nat) (rs : List EvRec)
  /-- ISL_ERROR_MESSAGE (R138). A vendor message from another Sirjo naming a failed write's tag and kind places the event record in the requester's pool view. -/
  | islErrorMessage (port tag : Nat) (k : ErrKind)
  /-- HOME_REQUEST_ARRIVES (R187). An access needing a home entry reaches its home slice and takes an entry or waits in order. -/
  | homeRequestArrives (k : Nat)
  /-- HOME_ACCESS_START (R189). An access that waited for its line's home entry starts and acts by the state of the other holders. -/
  | homeAccessStart (line : Nat)
  /-- SF_SET_READ_COMPLETE (R188). A snoop-filter set read from HBM after a cache miss returns and the waiting lookups proceed. -/
  | sfSetReadComplete (die set : Nat) (ecc : Ecc)
  /-- HOLDER_WRITEBACK (R190). A MemWr, MemWrPtl or MemClnEvct from a holder updates the line and the snoop-filter entry. -/
  | holderWriteback (k : Nat)
  /-- BIRSP_RECEIVED (R189). A back-invalidate response is processed, the holder's state updated and the waiting access completed when all snoops are answered. -/
  | birspReceived (tag : Nat) (rsp : BiRsp)
  /-- BICONFLICT_RECEIVED (R192). A BIConflict is answered with BIConflictAck after every earlier grant for the line. -/
  | biconflictReceived (port line : Nat)
  /-- BI_TIMEOUT (R201). A BI timer expires, the line is poisoned or the presence cleared, and the access completes as if answered BIrspI. -/
  | biTimeout (tag : Nat)
  /-- GONE_TIMEOUT (R203). A host's gone timer reaches GONE_TMO and the host becomes gone. -/
  | goneTimeout (h : Nat)
  /-- RECLAIM_WALK_COMPLETE (R204). The reclaim walk of a gone host ends and the host becomes GONE. -/
  | reclaimWalkComplete (h : Nat)
  /-- HOST_READMIT (R205). A write of READMIT returns a gone host to UP, or is held until its walk ends or a port comes up. -/
  | hostReadmit (p : Path) (h : Nat)
  /-- EVICT_REQ_READ (R195). A read of EVICT_REQ_n returns and removes the oldest eviction request. -/
  | evictReqRead (p : Path) (die : Nat)
  /-- EVICT_RESP_WRITE (R195). An eviction answer names the victim way, or is late or counts as no answer. -/
  | evictRespWrite (p : Path) (die : Nat) (data : Word)
  /-- EVICT_TIMEOUT (R195). An eviction window reaches EVICT_TMO and the hardware victim is used. -/
  | evictTimeout (die tag : Nat)
  /-- PARTNER_EVICT_REQUEST (R200). A partner asks over the twin link to free a snoop-filter entry of a set, and the home recalls a victim. -/
  | partnerEvictRequest (set : Nat)
  /-- MIRROR_WRITE_RECEIVED (R198). A mirrored line with its poison bit, and any journal entry, is written at the mirror and acknowledged. -/
  | mirrorWriteReceived (id line : Nat) (d : Line) (poison : Bool) (tail : MirrorTail)
  /-- MIRROR_ACK_RECEIVED (R198). The mirror's acknowledgement arrives and the home releases the line entry and acknowledges the requester. -/
  | mirrorAckReceived (id : Nat)
  /-- MIRROR_SF_UPDATE (R199). A snoop-filter entry change from the home is stored at the mirror with MIRRORED set. -/
  | mirrorSfUpdate (line : Nat) (e : Option (BitVec 64 × Bool))
  /-- CHANNEL_SCHEDULE (R181). A channel scheduler issues a refresh, privileged, overdue or nearest-deadline access, turning between reads and writes. -/
  | channelSchedule (ch : Nat) (refresh : Bool) (reads writes openRows : List Nat)
  /-- CHANNEL_READ_COMPLETE (R177). A channel read returns its line, corrected or poisoned by its ECC, and sent to the memory stop. -/
  | channelReadComplete (ch k : Nat) (ecc : Ecc)
  /-- PATROL_SCRUB_READ (R184). The patrol scrubber issues its next line read so that every HBM line is read each 24 h. -/
  | patrolScrubRead
  /-- CHANNEL_RETIRE_REQUEST (R185). A write of RETIRE starts retirement of a channel, or is refused when the reserve is used. -/
  | channelRetireRequest (p : Path) (ch : Nat)
  /-- RETIRE_GRANULE_COPIED (R185). A granule copy of a retiring channel ends and its new place is used; after the last, the channel is RETIRED. -/
  | retireGranuleCopied (ch : Nat) (e : CopyEcc)
  /-- CHANNEL_DEAD (R186). A channel stops answering and the device halts. -/
  | channelDead (ch : Nat)
  /-- TICK_BOUNDARY (R208). The boundary instant is reached: staging bank switches, translation and shadow switches apply, snapshot taken, BELL_OUT driven and commit starts. -/
  | tickBoundary (partner : Option (Nat × BitVec 384))
  /-- BELL_IN_EDGE (R235). A valid BELL_IN edge is accepted and sets the boundary instant, or is ignored. -/
  | bellInEdge (low high : Nat)
  /-- BELL_OUT_FALL (R238). 200 ns after it rises, BELL_OUT falls. -/
  | bellOutFall
  /-- TICK_WRITE_STAGE (R219). A write to a tick-ordered window passes check 7 and is merged into or creates a staging record, then is acknowledged. -/
  | tickWriteStage (k : Nat)
  /-- TICK_READ (R212). A read of a tick-ordered window returns the line at the published tick, or the clock face for slice 0xF. -/
  | tickRead (k : Nat) (e : TickErr)
  /-- TICK_PUBLISH (R226). The commit of a tick ends, TICK_PUBLISHED steps and a tick report is written. -/
  | tickPublish (errs : List (Nat × TickErr))
  /-- TAG_RETAG_WALK (R224). Every 2^30 ticks the tick unit walks and retags every line word. -/
  | tagRetagWalk
  /-- MIRROR_STAGE_RECEIVED (R242). A staged write from the home is applied to the mirror's record and acknowledged. -/
  | mirrorStageReceived (id tick contrib line tickId : Nat) (op : Option Nat) (mask : BitVec 64) (d : Line) (poison : Bool)
  /-- ABSENT_MASK_RECEIVED (R243). The mirror receives the home's absent mask and commits the tick from the same records. -/
  | absentMaskReceived (tick : Nat) (mask : List Nat)
  /-- MIRROR_COMMIT_COMPLETE (R243). The mirror reports its commit complete and the home publishes. -/
  | mirrorCommitComplete (tick : Nat)
  /-- GENERATION_DRAINED (R91). The LIVE bits of older generations clear, so pending extent scrubs and migration copies may start. -/
  | generationDrained (gen : Nat)
  /-- EXTENT_SCRUB_COMPLETE (R91). Scrubbing of a pool extent ends and it becomes free. -/
  | extentScrubComplete (ext : Nat)
  /-- MIGRATION_COPY_DONE (R92). The last line of a migration is copied, STATE becomes DONE and MIG_DONE is set. -/
  | migrationCopyDone (n : Nat) (lines : List (Nat × Line × Bool))
  /-- DC_ADD_REQUEST (R96). The fabric manager asks to add extents to a DC region, which fills ABSENT slots and places an add event. -/
  | dcAddRequest (host region : Nat) (req : DcAdd)
  /-- DC_ADD_RESPONSE (R96). Host software accepts some or all offered extents; the rest become ABSENT at the next boundary. -/
  | dcAddResponse (host region : Nat) (accepted : List Nat)
  /-- DC_RELEASE_REQUEST (R97). The fabric manager names extents to release and the device places a release event record. -/
  | dcReleaseRequest (host region : Nat) (slots : List Nat)
  /-- DC_RELEASE_RESPONSE (R97). Host software's release response makes the extents ABSENT at the next boundary. -/
  | dcReleaseResponse (host region : Nat) (slots : List Nat)
  /-- DC_RELEASE_TIMEOUT (R98). A release timeout reaches DC_REL_TMO and forces the release or posts it to the fabric manager. -/
  | dcReleaseTimeout (window slot : Nat)
  /-- DC_TMO_REQ_READ (R99). A read of DC_TMO_REQ returns and removes the oldest timeout post. -/
  | dcTmoReqRead (p : Path)
  /-- DC_TMO_RESP_WRITE (R99). An answer forces or withdraws a timed-out release, or is late. -/
  | dcTmoRespWrite (p : Path) (data : Word)
  /-- TRAIN_ATTEMPT_START (R53). A training attempt starts when the LTSSM leaves Detect.Quiet on an enabled port. -/
  | trainAttemptStart (port : Nat)
  /-- TRAIN_RETRY_TIMER (R53). After a failed attempt the 10 ms wait, or after TRAIN_FAIL the 1 s interval, ends and a new attempt starts. -/
  | trainRetryTimer (port : Nat)
  /-- TRAIN_ATTEMPT_TIMEOUT (R53). An attempt reaches 400 ms without L0 and fails. -/
  | trainAttemptTimeout (port : Nat)
  /-- EQ_MEASURE_COMPLETE (R55). The chiplet measures every permitted preset and selects one, or posts the margins to the fabric manager. -/
  | eqMeasureComplete (port rate : Nat) (margins : List Nat) (localPreset : Nat)
  /-- EQ_RESP (R56). A fabric manager equalisation answer is applied, or is late, or counts as no answer. -/
  | eqResp (p : Path) (port : Nat) (data : Word)
  /-- EQ_ANSWER_TIMEOUT (R56). An equalisation post reaches 8 ms without an answer and the hardware preset is applied. -/
  | eqAnswerTimeout (port : Nat)
  /-- LINK_UP (R53). A link reaches L0 at or above RATE_MIN with the role's protocol active and LINK_UP sets. -/
  | linkUp (port : Nat) (report : LinkReport)
  /-- REPLAY_THRESHOLD (R59). FEC-uncorrectable replays exceed 256 in 1 ms and the device downshifts the port. -/
  | replayThreshold (port : Nat) (narrower : Option (Nat × Nat × Bool))
  /-- PARTNER_DOWNSHIFT (R59). The device accepts a width or rate reduction that the partner initiates. -/
  | partnerDownshift (port rate width lanes : Nat) (l0p : Bool)
  /-- LINK_DOWN (R61). A link leaves service and traffic in flight is answered by role. -/
  | linkDown (port : Nat)
  /-- IDE_INTEGRITY_FAIL (R48). An IDE check fails, later flits are dropped and the link goes down through Recovery. -/
  | ideIntegrityFail (port : Nat)
  /-- IDE_KEY_PROGRAM (R47). An IDE key-management message in an SPDM session over DOE programs a stream's keys. -/
  | ideKeyProgram (port : Nat) (mem ioLink : Bool) (sel : Nat) (skid active : Bool)
  /-- PORT_ENABLE (R139). A write of ENABLE to 1 lets a port train again. -/
  | portEnable (p : Path) (port : Nat)
  /-- PORT_DISABLE (R62). A write clearing ENABLE stops credit return and starts the 1 ms drain of owed responses. -/
  | portDisable (p : Path) (port : Nat)
  /-- PORT_DISABLE_DRAIN_END (R62). The drain of a disabled port ends or reaches 1 ms and the link goes to Disabled. -/
  | portDisableDrainEnd (port : Nat)
  /-- PORT_RETRAIN (R63). A write of RETRAIN retrains the link now or after the current attempt. -/
  | portRetrain (p : Path) (port : Nat)
  /-- ITEM_WRITE (R291). A write to ITEM of a producer page opens an item or stores its words into cells. -/
  | itemWrite (port addr fbe lbe reqId : Nat) (data : List Byte) (ep : Bool)
  /-- COMMIT (R294). A commit word written or swapped to COMMIT is processed against NEXT_SEQ and the queue's room. -/
  | commit (port addr : Nat) (w : Word) (reqId : Nat) (swap : Option Nat) (fault : Bool)
  /-- COMMIT_CELLS_ACCEPTED (R295). Every cell write of a delivered item is accepted, the item is linked and the result is sent. -/
  | commitCellsAccepted (q : Nat)
  /-- CONSUMER_READ (R300). A read of HEAD_0, HEAD_1, ITEM or CONS_STATUS selects the current item if none and restarts the lease and stale timers. -/
  | consumerRead (port addr dws reqId tag : Nat) (bad : List Nat) (fault : Bool)
  /-- NEXT (R301). The NEXT command passes the current item in its list. -/
  | next (port addr reqId : Nat)
  /-- MARK (R301). The MARK command sets every MK_p to RD_p. -/
  | mark (port addr reqId : Nat)
  /-- REWIND (R301). The REWIND command sets every RD_p to MK_p and clears the current item. -/
  | rewind (port addr reqId : Nat)
  /-- RELEASE (R301). The RELEASE command frees every passed item and relinks a held gap cell. -/
  | release (port addr reqId : Nat)
  /-- ITEM_ASSEMBLY_TIMEOUT (R293). An open item reaches ITEM_TMO and is rewound with ABANDONED. -/
  | itemAssemblyTimeout (bind : Nat)
  /-- LEASE_EXPIRY (R305). A consumer lease reaches LEASE_TMO and acts as REWIND then RELEASE, with a LEASE notice. -/
  | leaseExpiry (q : Nat)
  /-- STALE_EXPIRY (R306). A queue's stale timer expires, sets STALE and sends a STALE notice. -/
  | staleExpiry (q : Nat)
  /-- NOTICE_REQ_READ (R309). A read of NOTICE_REQ returns and removes the oldest notice. -/
  | noticeReqRead (p : Path)
  /-- QUEUE_RESET (R316). A write of Q_RESET.GO closes the queue's open items and frees its cells. -/
  | queueReset (p : Path) (data : Word)
  /-- QUEUE_RESET_COMPLETE (R316). The reset of a queue, including a faulted queue's sweep, ends and GO clears. -/
  | queueResetComplete
  /-- MIRROR_QUEUE_OP (R311). A queue operation from the home is applied to the mirror's copy and acknowledged. -/
  | mirrorQueueOp (id q : Nat) (op : QMirOp)
  /-- ROUND_LEASE_REFRESH (R325). Every 1 ms while a round is open, the queue unit restarts the dispatch queue's lease timer. -/
  | roundLeaseRefresh (q : Nat)
  /-- DISPATCH_SELECT (R325). A cluster dispatcher with an idle engine picks a dispatch queue and sends a selection. -/
  | dispatchSelect (c : Nat)
  /-- QUEUE_SELECTION (R325). The queue unit selects, passes and adds to the round the first unread item, or answers empty. -/
  | queueSelection (k : Nat)
  /-- DESCRIPTOR_RECEIVED (R326). A job descriptor reaches its cluster and is checked, then the version is chosen or a dispatch request posted. -/
  | descriptorReceived (e : Nat)
  /-- DISPATCH_REQ_READ (R335). A read of DISPATCH_REQ_n returns and removes the oldest dispatch request. -/
  | dispatchReqRead (p : Path) (n : Nat)
  /-- DISPATCH_RESP_WRITE (R336). A dispatch answer denies the job, runs it on the named engine, or is late or invalid. -/
  | dispatchRespWrite (p : Path) (n : Nat) (data : Word)
  /-- DISPATCH_TIMEOUT (R336). A dispatch window reaches DISPATCH_TMO and the job runs on the held engine. -/
  | dispatchTimeout (half tag : Nat)
  /-- STREAM_HOLD_ACQUIRED (R327). A job waiting for a stream queue held by another job takes the hold when it ends. -/
  | streamHoldAcquired (e : Nat)
  /-- RECORD_PROBE_RETURN (R329). The read of the completion record's word 0 returns and either deduplicates the job or writes the RUNNING word. -/
  | recordProbeReturn (e : Nat)
  /-- JOB_BEGIN (R327). With the RUNNING word acknowledged and bench cleared and loaded, registers are set and execution begins. -/
  | jobBegin (e : Nat)
  /-- ICACHE_FILL_COMPLETE (R318). An instruction-cache line fill from the library area ends and the stalled engine resumes. -/
  | icacheFillComplete (e : Nat)
  /-- FAR_LOAD_COMPLETE (R360). A far load's line arrives and the load completes, or raises an exception. -/
  | farLoadComplete (e id : Nat)
  /-- STORE_BUFFER_ISSUE (R377). A store-buffer entry issues as a write when the buffer holds 8, it is full, idle 32 cycles, or a drain needs it. -/
  | storeBufferIssue (e k : Nat)
  /-- STORE_ACK (R384). A store's write is acknowledged and its store-buffer entry freed. -/
  | storeAck (e id : Nat)
  /-- STORE_ERROR (R368). A completed store ending in error at its target ends the job with ENGINE_FAULT. -/
  | storeError (e id : Nat)
  /-- JOB_WATCHDOG_EXPIRY (R375). The job watchdog reaches WDOG × 1,024 cycles and raises WATCHDOG. -/
  | jobWatchdogExpiry (e : Nat)
  /-- WATCHDOG_GRACE_EXPIRY (R375). The 65,536-cycle grace timer expires and the job ends with ENGINE_FAULT. -/
  | watchdogGraceExpiry (e : Nat)
  /-- WAIT_H_EXPIRY (R354). A WAIT.H sleep ends and issue resumes. -/
  | waitHExpiry (e : Nat)
  /-- ENG_ABORT (R333). A write of ENG_CTL.ABORT ends the job with ABORTED. -/
  | engAbort (p : Path) (e : Nat)
  /-- RECORD_WRITE_ACK (R331). A completion-record write is acknowledged; after bytes 8–31 word 0 is written, after word 0 the job's end completes. -/
  | recordWriteAck (e : Nat)
  /-- SPILL_DUMP_DONE (R388). The spill copy of a HALTED engine is acknowledged and DUMP_DONE sets. -/
  | spillDumpDone (e : Nat)
  /-- ENGINE_RESUME (R389). A write of SH_CTL.RESUME returns a HALTED engine to IDLE once its dump is done. -/
  | engineResume (p : Path) (e : Nat)
  /-- ADD (R341). ALU ADD writes ra + rb. -/
  | engAdd (e rd ra rb : Nat)
  /-- SUB (R341). ALU SUB writes ra − rb. -/
  | engSub (e rd ra rb : Nat)
  /-- AND (R341). ALU AND writes the bitwise AND. -/
  | engAnd (e rd ra rb : Nat)
  /-- OR (R341). ALU OR writes the bitwise OR. -/
  | engOr (e rd ra rb : Nat)
  /-- XOR (R341). ALU XOR writes the bitwise XOR. -/
  | engXor (e rd ra rb : Nat)
  /-- SLL (R341). ALU SLL shifts left by rb[5:0]. -/
  | engSll (e rd ra rb : Nat)
  /-- SRL (R341). ALU SRL shifts right logically. -/
  | engSrl (e rd ra rb : Nat)
  /-- SRA (R341). ALU SRA shifts right arithmetically. -/
  | engSra (e rd ra rb : Nat)
  /-- SLT (R341). ALU SLT writes 1 when ra < rb signed. -/
  | engSlt (e rd ra rb : Nat)
  /-- SLTU (R341). ALU SLTU writes 1 when ra < rb unsigned. -/
  | engSltu (e rd ra rb : Nat)
  /-- MIN (R341). ALU MIN writes the signed minimum. -/
  | engMin (e rd ra rb : Nat)
  /-- MAX (R341). ALU MAX writes the signed maximum. -/
  | engMax (e rd ra rb : Nat)
  /-- MINU (R341). ALU MINU writes the unsigned minimum. -/
  | engMinu (e rd ra rb : Nat)
  /-- MAXU (R341). ALU MAXU writes the unsigned maximum. -/
  | engMaxu (e rd ra rb : Nat)
  /-- MUL (R341). ALU MUL writes the low 64 bits of the product. -/
  | engMul (e rd ra rb : Nat)
  /-- MULH (R341). ALU MULH writes the high 64 bits, signed. -/
  | engMulh (e rd ra rb : Nat)
  /-- MULHU (R341). ALU MULHU writes the high 64 bits, unsigned. -/
  | engMulhu (e rd ra rb : Nat)
  /-- DIV (R341). ALU DIV divides signed, rounding toward zero. -/
  | engDiv (e rd ra rb : Nat)
  /-- DIVU (R341). ALU DIVU divides unsigned. -/
  | engDivu (e rd ra rb : Nat)
  /-- REM (R341). ALU REM writes the signed remainder. -/
  | engRem (e rd ra rb : Nat)
  /-- REMU (R341). ALU REMU writes the unsigned remainder. -/
  | engRemu (e rd ra rb : Nat)
  /-- CLZ (R341). ALU CLZ counts leading zeros of ra. -/
  | engClz (e rd ra rb : Nat)
  /-- CTZ (R341). ALU CTZ counts trailing zeros of ra. -/
  | engCtz (e rd ra rb : Nat)
  /-- POPC (R341). ALU POPC counts set bits of ra. -/
  | engPopc (e rd ra rb : Nat)
  /-- BREV8 (R341). ALU BREV8 reverses the bytes of ra. -/
  | engBrev8 (e rd ra rb : Nat)
  /-- ADDI (R341). ADDI writes ra + sext(imm16). -/
  | engAddi (e rd ra im : Nat)
  /-- ANDI (R341). ANDI ANDs with the zero-extended immediate. -/
  | engAndi (e rd ra im : Nat)
  /-- ORI (R341). ORI ORs with the zero-extended immediate. -/
  | engOri (e rd ra im : Nat)
  /-- XORI (R341). XORI XORs with the zero-extended immediate. -/
  | engXori (e rd ra im : Nat)
  /-- SHI_SLL (R341). SHI with SLL shifts left by an immediate amount. -/
  | engShiSll (e rd ra x amt : Nat)
  /-- SHI_SRL (R341). SHI with SRL shifts right logically by an immediate amount. -/
  | engShiSrl (e rd ra x amt : Nat)
  /-- SHI_SRA (R341). SHI with SRA shifts right arithmetically by an immediate amount. -/
  | engShiSra (e rd ra x amt : Nat)
  /-- LUI (R341). LUI writes sext(imm16 × 2^16). -/
  | engLui (e rd im : Nat)
  /-- SLTI (R341). SLTI compares ra with the immediate, signed. -/
  | engSlti (e rd ra im : Nat)
  /-- SLTIU (R341). SLTIU compares ra with the immediate, unsigned. -/
  | engSltiu (e rd ra im : Nat)
  /-- FADD (R342). Scalar FADD adds in FMT, rounded once. -/
  | engFadd (e fmt rd ra rb : Nat)
  /-- FSUB (R342). Scalar FSUB subtracts in FMT. -/
  | engFsub (e fmt rd ra rb : Nat)
  /-- FMUL (R342). Scalar FMUL multiplies in FMT. -/
  | engFmul (e fmt rd ra rb : Nat)
  /-- FDIV (R342). Scalar FDIV divides in FMT. -/
  | engFdiv (e fmt rd ra rb : Nat)
  /-- FMIN (R342). Scalar FMIN returns the smaller operand. -/
  | engFmin (e fmt rd ra rb : Nat)
  /-- FMAX (R342). Scalar FMAX returns the larger operand. -/
  | engFmax (e fmt rd ra rb : Nat)
  /-- FSQRT (R342). Scalar FSQRT takes the square root of ra. -/
  | engFsqrt (e fmt rd ra rb : Nat)
  /-- FEQ (R342). FEQ writes 1 when the operands are equal. -/
  | engFeq (e fmt rd ra rb : Nat)
  /-- FLT (R342). FLT writes 1 when ra is less than rb. -/
  | engFlt (e fmt rd ra rb : Nat)
  /-- FLE (R342). FLE writes 1 when ra is at most rb. -/
  | engFle (e fmt rd ra rb : Nat)
  /-- FCVT_I (R342). FCVT.I converts to signed 64-bit, saturating. -/
  | engFcvtI (e fmt rd ra rb : Nat)
  /-- FCVT_F (R342). FCVT.F converts from signed 64-bit. -/
  | engFcvtF (e fmt rd ra rb : Nat)
  /-- FCVT_X (R342). FCVT.X converts from SRC format to FMT. -/
  | engFcvtX (e fmt src rd ra rb : Nat)
  /-- LB (R343). LB loads a sign-extended byte. -/
  | engLb (e rd ra im : Nat) (ue : Bool)
  /-- LBU (R343). LBU loads a zero-extended byte. -/
  | engLbu (e rd ra im : Nat) (ue : Bool)
  /-- LH (R343). LH loads a sign-extended halfword. -/
  | engLh (e rd ra im : Nat) (ue : Bool)
  /-- LHU (R343). LHU loads a zero-extended halfword. -/
  | engLhu (e rd ra im : Nat) (ue : Bool)
  /-- LW (R343). LW loads a sign-extended word. -/
  | engLw (e rd ra im : Nat) (ue : Bool)
  /-- LWU (R343). LWU loads a zero-extended word. -/
  | engLwu (e rd ra im : Nat) (ue : Bool)
  /-- LD (R343). LD loads 8 bytes. -/
  | engLd (e rd ra im : Nat) (ue : Bool)
  /-- SB (R343). SB stores a byte to the bench or a window. -/
  | engSb (e rs ra im : Nat)
  /-- SH (R343). SH stores a halfword. -/
  | engSh (e rs ra im : Nat)
  /-- SW (R343). SW stores a word. -/
  | engSw (e rs ra im : Nat)
  /-- SD (R343). SD stores 8 bytes. -/
  | engSd (e rs ra im : Nat)
  /-- VLD (R343). VLD loads 64 aligned bytes into a vector register. -/
  | engVld (e vd ra im : Nat) (ue : Bool)
  /-- VST (R343). VST stores 64 bytes of a vector register. -/
  | engVst (e vs ra im : Nat)
  /-- VSTM (R343). VSTM stores the active lanes of a vector register. -/
  | engVstm (e vd ra typ p : Nat)
  /-- BEQ (R344). BEQ branches when the registers are equal, with a delay slot. -/
  | engBeq (e a b off annul : Nat)
  /-- BNE (R344). BNE branches when they differ. -/
  | engBne (e a b off annul : Nat)
  /-- BLT (R344). BLT branches when less, signed. -/
  | engBlt (e a b off annul : Nat)
  /-- BGE (R344). BGE branches when greater or equal, signed. -/
  | engBge (e a b off annul : Nat)
  /-- BLTU (R344). BLTU branches when less, unsigned. -/
  | engBltu (e a b off annul : Nat)
  /-- BGEU (R344). BGEU branches when greater or equal, unsigned. -/
  | engBgeu (e a b off annul : Nat)
  /-- J (R344). J jumps by a 26-bit offset. -/
  | engJ (e off : Nat)
  /-- JAL (R344). JAL jumps and links to g30. -/
  | engJal (e off : Nat)
  /-- JR (R344). JR jumps to g(ra) and links when rd is not 0. -/
  | engJr (e rd ra x : Nat)
  /-- LOOP (R346). LOOP starts a hardware loop with a count from a register. -/
  | engLoop (e ra len : Nat)
  /-- LOOPI (R346). LOOPI starts a hardware loop with an immediate count. -/
  | engLoopi (e count len : Nat)
  /-- QPUSH (R351). QPUSH commits one item from the bench under the slot's producer binding. -/
  | engQpush (e rd ra x slot : Nat)
  /-- QPOP (R352). QPOP copies and passes the current item of the slot's stream queue. -/
  | engQpop (e rd ra x slot : Nat)
  /-- QREL_RELEASE (R353). QREL RELEASE issues RELEASE on the stream queue. -/
  | engQrelRelease (e x y slot : Nat)
  /-- QREL_MARK (R353). QREL MARK issues MARK on the stream queue. -/
  | engQrelMark (e x y slot : Nat)
  /-- QREL_REWIND (R353). QREL REWIND issues REWIND on the stream queue. -/
  | engQrelRewind (e x y slot : Nat)
  /-- WAIT_H (R354). WAIT.H stops issue for the last arbiter hint, capped by the immediate. -/
  | engWaitH (e x im : Nat)
  /-- TRAP (R371). TRAP completes and raises the TRAP exception. -/
  | engTrap (e x im : Nat)
  /-- RFE (R370). RFE restores state from the frame and returns to the saved EPC. -/
  | engRfe (e x : Nat)
  /-- SETM (R355). SETM writes g(ra) to MODE. -/
  | engSetm (e x ra y : Nat)
  /-- MFS (R338). MFS reads a special register. -/
  | engMfs (e rd x im : Nat)
  /-- MTS (R338). MTS writes a special register. -/
  | engMts (e x ra im : Nat)
  /-- ORD_L (R383). ORD.L waits for every earlier far load. -/
  | engOrdL (e x : Nat)
  /-- ORD_S (R383). ORD.S drains the store buffer. -/
  | engOrdS (e x : Nat)
  /-- ORD_A (R383). ORD.A waits for loads and drains stores. -/
  | engOrdA (e x : Nat)
  /-- DONE (R356). DONE ends the job with status OK once the store buffer is empty. -/
  | engDone (e x : Nat)
  /-- VADD (R349). VALU VADD adds lanes. -/
  | engVadd (e typ vd va vb p : Nat)
  /-- VSUB (R349). VALU VSUB subtracts lanes. -/
  | engVsub (e typ vd va vb p : Nat)
  /-- VMUL (R349). VALU VMUL multiplies lanes. -/
  | engVmul (e typ vd va vb p : Nat)
  /-- VMIN (R349). VALU VMIN takes lane minima. -/
  | engVmin (e typ vd va vb p : Nat)
  /-- VMAX (R349). VALU VMAX takes lane maxima. -/
  | engVmax (e typ vd va vb p : Nat)
  /-- VAND (R349). VALU VAND ANDs lanes. -/
  | engVand (e typ vd va vb p : Nat)
  /-- VOR (R349). VALU VOR ORs lanes. -/
  | engVor (e typ vd va vb p : Nat)
  /-- VXOR (R349). VALU VXOR XORs lanes. -/
  | engVxor (e typ vd va vb p : Nat)
  /-- VSLL (R349). VALU VSLL shifts integer lanes left. -/
  | engVsll (e typ vd va vb p : Nat)
  /-- VSRL (R349). VALU VSRL shifts integer lanes right logically. -/
  | engVsrl (e typ vd va vb p : Nat)
  /-- VSRA (R349). VALU VSRA shifts integer lanes right arithmetically. -/
  | engVsra (e typ vd va vb p : Nat)
  /-- VFMA (R349). VALU VFMA computes vd + va × vb. -/
  | engVfma (e typ vd va vb p : Nat)
  /-- VABS (R349). VALU VABS takes lane absolute values. -/
  | engVabs (e typ vd va vb p : Nat)
  /-- VNEG (R349). VALU VNEG negates lanes. -/
  | engVneg (e typ vd va vb p : Nat)
  /-- VDIV (R349). VALU VDIV divides floating lanes. -/
  | engVdiv (e typ vd va vb p : Nat)
  /-- VSEL (R349). VALU VSEL selects lanes by mask. -/
  | engVsel (e typ vd va vb p : Nat)
  /-- VRED_ADD (R350). VRED ADD sums active lanes in ascending order. -/
  | engVredAdd (e typ rd va x p : Nat)
  /-- VRED_MIN (R350). VRED MIN reduces active lanes to their minimum. -/
  | engVredMin (e typ rd va x p : Nat)
  /-- VRED_MAX (R350). VRED MAX reduces active lanes to their maximum. -/
  | engVredMax (e typ rd va x p : Nat)
  /-- VRED_AND (R350). VRED AND reduces active lanes by AND. -/
  | engVredAnd (e typ rd va x p : Nat)
  /-- VRED_OR (R350). VRED OR reduces active lanes by OR. -/
  | engVredOr (e typ rd va x p : Nat)
  /-- VRED_XOR (R350). VRED XOR reduces active lanes by XOR. -/
  | engVredXor (e typ rd va x p : Nat)
  /-- VCMP_EQ (R350). VCMP EQ writes a mask of equal lanes. -/
  | engVcmpEq (e typ pd va vb p : Nat)
  /-- VCMP_NE (R350). VCMP NE writes a mask of unequal lanes. -/
  | engVcmpNe (e typ pd va vb p : Nat)
  /-- VCMP_LT (R350). VCMP LT writes a mask of lanes less, signed or floating. -/
  | engVcmpLt (e typ pd va vb p : Nat)
  /-- VCMP_LE (R350). VCMP LE writes a mask of lanes at most, signed or floating. -/
  | engVcmpLe (e typ pd va vb p : Nat)
  /-- VCMP_LTU (R350). VCMP LTU writes a mask of lanes less, unsigned. -/
  | engVcmpLtu (e typ pd va vb p : Nat)
  /-- VCMP_LEU (R350). VCMP LEU writes a mask of lanes at most, unsigned. -/
  | engVcmpLeu (e typ pd va vb p : Nat)
  /-- VBCAST (R350). VMOV VBCAST writes g(ra) to every active lane. -/
  | engVbcast (e typ vd ra x p : Nat)
  /-- VEXT (R350). VMOV VEXT extracts a lane to a general register. -/
  | engVext (e typ rd va rb p : Nat)
  /-- VINS (R350). VMOV VINS inserts g(ra) into a lane. -/
  | engVins (e typ vd ra rb p : Nat)
  /-- MFP (R350). VMOV MFP copies a mask register to a general register. -/
  | engMfp (e typ rd ra x p : Nat)
  /-- MTP (R350). VMOV MTP copies a general register to a mask register. -/
  | engMtp (e typ rd ra x p : Nat)
  /-- AUX_POWER_GOOD (R414). AUX_PWR_GOOD_IN is asserted and the device enters AUX. -/
  | auxPowerGood
  /-- AUX_POWER_LOSS (R498). AUX_PWR_GOOD_IN is deasserted and the device enters OFF at once. -/
  | auxPowerLoss
  /-- PWR_GOOD_ASSERT (R414). A filtered assertion of PWR_GOOD_IN releases the core reset and enters LOAD. -/
  | pwrGoodAssert
  /-- PWR_GOOD_DEASSERT (R419). A filtered deassertion of PWR_GOOD_IN resets the core and enters AUX. -/
  | pwrGoodDeassert
  /-- SYS_RST_ASSERT (R419). A filtered assertion of SYS_RST_N resets the core and enters AUX. -/
  | sysRstAssert
  /-- SYS_RST_DEASSERT (R414). A filtered deassertion of SYS_RST_N with power good starts LOAD. -/
  | sysRstDeassert
  /-- OFF_REQ_ASSERT (R502). A filtered assertion of OFF_REQ_N starts DRAIN, reverses power-up, or removes power. -/
  | offReqAssert
  /-- OFF_REQ_DEASSERT (R505). A filtered deassertion of OFF_REQ_N is an on request. -/
  | offReqDeassert
  /-- OFF_GO (R503). A write of PWR_CTL.OFF_GO is an off request. -/
  | offGo (p : Path)
  /-- PWR_EN_ASSERT (R499). In AUX with no hold and 10 ms after the last deassertion, PWR_EN_OUT is asserted. -/
  | pwrEnAssert
  /-- POWER_GOOD_TIMEOUT (R500). The power-good timer reaches 200 ms, PWR_EN_OUT drops and PG_FAILS steps. -/
  | powerGoodTimeout
  /-- POWER_UP_REVERSAL (R503). At the end of the current power-up step after an off request, the steps are undone to AUX. -/
  | powerUpReversal
  /-- OFF_EXIT (R504). OFF is left for AUX after PWR_GOOD_IN has been low 10 ms or 100 ms after PWR_EN_OUT fell. -/
  | offExit
  /-- IMAGE_READ_COMPLETE (R429). An image is read from flash with its header, CRCs, digest and signature checked. -/
  | imageReadComplete (answers : Bool) (image : RawImage)
  /-- IMAGE_CHECK_COMPLETE (R430). The content, limit and admission checks of an image end, and it is used or the other image is tried or AUX returns. -/
  | imageCheckComplete
  /-- HBM_TRAINING_COMPLETE (R423). HBM training ends, or fails and returns the device to AUX. -/
  | hbmTrainingComplete (ok : Bool)
  /-- LOAD_COMPLETE (R423). Carve-out, clearing, table build, library load and patch end and the device enters TRAIN. -/
  | loadComplete
  /-- TRAIN_END (R417). All ports are up or failed, or 1,300 ms pass, and the device enters SOLO or PAIRED. -/
  | trainEnd
  /-- DRAIN_END (R422). DRAIN's steps are done, PWR_EN_OUT drops and the device enters OFF. -/
  | drainEnd
  /-- SHADOW_OPEN (R431). A write of SHADOW_CTL.OPEN enters LOADING. -/
  | shadowOpen (p : Path)
  /-- SHADOW_DATA_WRITE (R431). A 64-bit write of SHADOW_DATA stores 8 bytes and advances the pointer. -/
  | shadowDataWrite (p : Path) (data : Word)
  /-- SHADOW_GO (R431). A write of SHADOW_CTL.GO starts checking the shadow set. -/
  | shadowGo (p : Path)
  /-- SHADOW_CHECK_COMPLETE (R431). Checking ends and the shadow set is ARMED or REFUSED. -/
  | shadowCheckComplete
  /-- SHADOW_ABANDON (R434). A write of SHADOW_CTL.ABANDON returns the shadow set to IDLE. -/
  | shadowAbandon (p : Path)
  /-- HANDOVER_REQUEST (R437). A write of SPLIT_REQ.GO requests a function handover, or is refused. -/
  | handoverRequest (p : Path) (data : Word)
  /-- SWAP_REQUEST (R439). A write of SWAP_CTL.GO starts the checks of an exchange image. -/
  | swapRequest (p : Path)
  /-- SWAP_CHECK_COMPLETE (R439). The exchange checks end and the device enters SWAP or the exchange is refused. -/
  | swapCheckComplete
  /-- SWAP_LIBRARY_COPIED (R440). New code is copied to the library and current-version changes are made in one step. -/
  | swapLibraryCopied
  /-- STEWARD_GAP_START (R441). All stewards finish their accesses and stop, and the new firmware is loaded. -/
  | stewardGapStart
  /-- STEWARD_FIRMWARE_READY (R441). The new steward firmware reports ready and the gap ends. -/
  | stewardFirmwareReady
  /-- STEWARD_GAP_TIMEOUT (R441). At 5 ms without ready, the stewards restart on the previous firmware. -/
  | stewardGapTimeout
  /-- STEWARD_REVERT_TIMEOUT (R441). At 10 ms without the previous firmware ready, the device halts. -/
  | stewardRevertTimeout
  /-- DTB_SYNC (R395). Each 1,000 ns D0 sends a sync pulse and each follower adjusts toward its aim. -/
  | dtbSync (lags : List (Nat × Int))
  /-- INSTANT_REQUEST (R398). A unit asks D0 for a shared instant and D0 schedules it. -/
  | instantRequest (use : InstantUse)
  /-- SHARED_INSTANT (R398). A domain's follower reaches a scheduled instant and the domain acts on it. -/
  | sharedInstant (dom : Nat) (pulses : List Nat)
  /-- DOMAIN_RESET_RELEASE (R408). A domain leaves reset 64 stable cycles after its clock and its crossings follow. -/
  | domainResetRelease (dom : Nat)
  /-- CORE_PLL_LOCK_LOSS (R412). A core PLL loses lock and the device halts. -/
  | corePllLockLoss (die : Nat)
  /-- CHIPLET_PLL_LOCK_LOSS (R412). A chiplet PLL loses lock, its ports go down and the chiplet partition resets. -/
  | chipletPllLockLoss (n : Nat)
  /-- CHIPLET_PLL_RELOCK (R412). The chiplet PLL relocks and its ports start new attempts. -/
  | chipletPllRelock (n : Nat)
  /-- AUX_REFCLK_LOSS (R413). REFCLK_AUX has no edge for 100 ns and D0 runs from its internal oscillator. -/
  | auxRefclkLoss
  /-- AUX_REFCLK_RETURN (R413). REFCLK_AUX returns and D0 goes back to it. -/
  | auxRefclkReturn
  /-- FORMATION_MESSAGE (R445). A formation message from the partner is compared and sets are assigned, or formation fails. -/
  | formationMessage (m : FormMsg)
  /-- PAIR_SYNC_COMPLETE (R447). A sync of a stale set ends and the pair becomes FORMED. -/
  | pairSyncComplete (set : Nat) (copy : Machine.SetCopy)
  /-- BOUNDARY_MESSAGE (R448). Member 1 takes a tick boundary when member 0's boundary message arrives. -/
  | boundaryMessage (instant : Nat) (partner : Option (Nat × BitVec 384))
  /-- FORWARDED_REQUEST (R450). A request forwarded by the partner is served as a request of the same host. -/
  | forwardedRequest (id : Nat) (r : FwdReq)
  /-- HEARTBEAT_SEND (R455). Each 1,000 ns a heartbeat is sent on every up TWIN port. -/
  | heartbeatSend
  /-- HEARTBEAT_RECEIVED (R455). A heartbeat sets MISS_RUN to 0 and updates DTB_OFFSET and host link states. -/
  | heartbeatReceived (hb : Heartbeat)
  /-- HEARTBEAT_MISS (R455). An interval without a heartbeat steps MISS_RUN; at 4 the twin link is lost. -/
  | heartbeatMiss
  /-- TWIN_ALIVE_TOGGLE (R456). TWIN_ALIVE_OUT toggles each 500 ns. -/
  | twinAliveToggle
  /-- TWIN_ALIVE_STOP (R456). TWIN_ALIVE_IN has no edge for 2,000 ns and is stopped. -/
  | twinAliveStop
  /-- TWIN_ALIVE_RESUME (R456). TWIN_ALIVE_IN toggles again after two edges 400–600 ns apart. -/
  | twinAliveResume
  /-- LOSS_DECISION_WAIT_END (R457). The 2,000 ns wait after losing the twin link ends with LINK_LOST. -/
  | lossDecisionWaitEnd
  /-- TAKEOVER_REQ_READ (R460). A read of TAKEOVER_REQ returns and removes the takeover request. -/
  | takeoverReqRead (p : Path)
  /-- TAKEOVER_RESP_WRITE (R460). A takeover answer starts the takeover or sends the sets offline. -/
  | takeoverRespWrite (p : Path) (data : Word)
  /-- TAKEOVER_READY (R461). Takeover steps complete and the notice is sent. -/
  | takeoverReady
  /-- TAKEOVER_END (R461). Readiness plus 18 µs, or the deferred boundary, ends TAKEOVER. -/
  | takeoverEnd
  /-- ISL_TAKEOVER_NOTICE (R470). A takeover notice on an ISL port resends unanswered requests to the twin. -/
  | islTakeoverNotice (port pbr : Nat)
  /-- PIN_CLEAR (R457). A write of PIN_CLEAR clears PIN_SUSPECT when the link and pin are good. -/
  | pinClear (p : Path)
  /-- MOVE_GO (R467). A write of MOVE_GO requests handing a set to the partner. -/
  | moveGo (p : Path)
  /-- SET_MOVE_EXECUTE (R467). After the next publish the holder drains the set and sends the move. -/
  | setMoveExecute
  /-- SET_MOVE_RECEIVED (R467). The partner becomes holder of a moved set. -/
  | setMoveReceived (set : Nat)
  /-- DISSOLVE (R468). A write of DISSOLVE ends the pair at the next boundary after publish. -/
  | dissolve (p : Path)
  /-- ERROR_RECORD_ARRIVES (R483). An error record reaches EL_W, is escalated, takes a SEQ, enters its ring and its severity's action is taken. -/
  | errorRecordArrives (k : Nat)
  /-- HANDLING_WINDOW_EXPIRY (R482). A handling window reaches its length and stops. -/
  | handlingWindowExpiry (k : Nat)
  /-- RING_CONS_WRITE (R477). A write of RING_CONS_s takes records and stops their windows. -/
  | ringConsWrite (p : Path) (ring : Nat) (value : Nat)
  /-- VLOG_CONS_WRITE (R496). A write of VLOG_CONS takes violation log entries. -/
  | vlogConsWrite (p : Path) (value : Nat)
  /-- LOCK_WAIT_TIMEOUT (R480). A record waits 2 µs for a held ring lock and goes to a last-resort slot. -/
  | lockWaitTimeout
  /-- RING_LOCK_RELEASE (R481). A steward's ring lock is released and slot records move into the ring. -/
  | ringLockRelease (stw : Nat)
  /-- STEWARD_RECORD_WRITE (R480). A steward takes a ring lock and writes a record. -/
  | stewardRecordWrite (stw k : Nat)
  /-- ESC_REQ_READ (R488). A read of ESC_REQ returns and removes the oldest escalation request. -/
  | escReqRead (p : Path)
  /-- ESC_RESP_WRITE (R488). An escalation answer isolates, keeps or halts, or is late. -/
  | escRespWrite (p : Path) (data : Word)
  /-- ESC_TIMEOUT (R488). An escalation window reaches ESC_TMO and the unit is isolated. -/
  | escTimeout (tag : Nat)
  /-- ISO_ISOLATE (R490). ISO_CTL with OP ISOLATE isolates the named unit. -/
  | isoIsolate (p : Path) (unit inst : Nat)
  /-- ISO_REJOIN (R490). ISO_CTL with OP REJOIN returns the named unit to service. -/
  | isoRejoin (p : Path) (unit inst : Nat)
  /-- STEWARD_WATCHDOG_PET (R492). A write of PET restarts a steward watchdog. -/
  | stewardWatchdogPet (n : Nat)
  /-- STEWARD_WATCHDOG_EXPIRY (R493). A steward watchdog expires and the steward is restarted. -/
  | stewardWatchdogExpiry (n : Nat)
  /-- SLOT_FRAME_START (R508). At each 100 µs DTB the slot chain frame boundary is raised. -/
  | slotFrameStart
  /-- SLOT_CHAIN_READY (R508). SC_IN goes high and the frame shifts its words. -/
  | slotChainReady
  /-- SLOT_FRAME_COMPLETE (R513). A frame's in words are checked, heat accounts updated and trips, presence and sequencing evaluated. -/
  | slotFrameComplete (words : List (BitVec 32)) (marker : BitVec 32)
  /-- SLOT_FRAME_STALL_TIMEOUT (R511). A frame stalls 1 ms and is aborted. -/
  | slotFrameStallTimeout
  /-- SLOT_RETRY_TIMER (R515). The retry timer reaches its time and the slot is powered again when conditions hold. -/
  | slotRetryTimer (slot : Nat)
  /-- SLOT_POWER_FAIL_CHECK (R514). 50 ms after EN_ECHO rises, VOUT below 90 % trips the slot. -/
  | slotPowerFailCheck (slot : Nat)
  /-- SLOT_SHORT_TIMEOUT (R518). The short timer reaches 5 ms and the slot is FET_SHORT. -/
  | slotShortTimeout (slot : Nat)
  /-- SLOT_PERST_RELEASE (R523). 100 ms after VOUT reaches 90 %, PERST_N is deasserted and the port enabled. -/
  | slotPerstRelease (slot : Nat)
  /-- SLOT_CLEAR (R519). A write of SLOT_CTL.CLEAR clears retries and lock. -/
  | slotClear (p : Path) (slot : Nat)
  /-- SLOT_FET_CLEAR (R519). A write of SLOT_CTL.FET_CLEAR ends FET_SHORT. -/
  | slotFetClear (p : Path) (slot : Nat)
  /-- SLOT_CMD_GO (R524). A write of SLOT_CMD.GO applies the fields at the next frame. -/
  | slotCmdGo (p : Path) (slot : Nat) (data : Word)
  /-- HP_REQ_READ (R524). A read of HP_REQ returns and removes the oldest hot-plug notice. -/
  | hpReqRead (p : Path)
  /-- SLOT_CONTROL_WRITE (R523). A host write of the virtual bridge's Slot Control sequences power or indicators. -/
  | slotControlWrite (slot : Nat) (on : Bool) (attn pwr : Nat)
  /-- COUNT_FREEZE (R535). A write of FREEZE schedules the start or end of a counter freeze. -/
  | countFreeze (p : Path) (on : Bool)
  /-- COUNT_CLEAR (R537). A write of CLEAR schedules clearing every counter. -/
  | countClear (p : Path)
  /-- SNAPSHOT_BANK_READY (R538). The back bank is filled and becomes the front bank. -/
  | snapshotBankReady
  /-- COUNTER_PAGE_READ (R541). A host read of BAR 0 is served or refused by COUNTER_ACCESS. -/
  | counterPageRead (port : Nat) (req : BarReq)
  /-- READ32 (R544). MCTP READ32 reads 32 bits at OFFSET. -/
  | read32 (p : Path) (tag off : Nat)
  /-- READ64 (R544). MCTP READ64 reads 64 bits at OFFSET. -/
  | read64 (p : Path) (tag off : Nat)
  /-- WRITE32 (R544). MCTP WRITE32 writes 32 bits at OFFSET. -/
  | write32 (p : Path) (tag off : Nat) (data : BitVec 32)
  /-- WRITE64 (R544). MCTP WRITE64 writes 64 bits at OFFSET. -/
  | write64 (p : Path) (tag off : Nat) (data : Word)
  /-- READ_BLOCK (R549). MCTP READ_BLOCK reads COUNT registers upward, stopping at the first failure. -/
  | readBlock (p : Path) (tag off count : Nat)
  /-- BAR2_ACCESS (R546). A management host access through BAR 2 is decoded or completed with an error. -/
  | bar2Access (port : Nat) (req : BarReq)
  /-- EXTEST (R551). JTAG EXTEST drives boundary scan in TEST. -/
  | extest (scan : Nat)
  /-- IDCODE (R551). JTAG IDCODE selects the identification register. -/
  | idcode
  /-- SAMPLE_PRELOAD (R551). JTAG SAMPLE/PRELOAD samples the boundary scan. -/
  | samplePreload
  /-- CLAMP (R551). JTAG CLAMP holds outputs in TEST. -/
  | clamp
  /-- HIGHZ (R551). JTAG HIGHZ floats outputs in TEST. -/
  | highz
  /-- TEST_ENTER (R551). JTAG TEST_ENTER takes the device from AUX to TEST. -/
  | testEnter
  /-- TEST_EXIT (R421). JTAG TEST_EXIT leaves TEST with a core reset. -/
  | testExit
  /-- CSR_ACCESS (R552). At Update-DR of CSR_ACCESS one 64-bit access is made at OFFSET. -/
  | csrAccess (write : Bool) (off : Nat) (data : Word)
  /-- BYPASS (R551). JTAG BYPASS selects the bypass register. -/
  | bypass
  /-- BIST_GO (R559). A write of BIST_GO runs the selected built-in tests. -/
  | bistGo (sel : Nat)
  /-- BIST_COMPLETE (R559). A BIST run ends and sets PASS or FAIL for each test. -/
  | bistComplete (pass : Nat)
  /-- KEY_PROGRAM (R560). KEY_PROG_CTL GO with REVOKE 0 programs a key slot digest. -/
  | keyProgram (slot : Nat)
  /-- KEY_REVOKE (R560). KEY_PROG_CTL GO with REVOKE 1 revokes a key slot. -/
  | keyRevoke (slot : Nat)
  /-- KEY_PROGRAM_COMPLETE (R560). A key slot write ends and RESULT is reported. -/
  | keyProgramComplete
  /-- THERMAL_SAMPLE (R572). Every 50 µs each sensor is sampled and throttle, pacing, sensor failure and trip are evaluated. -/
  | thermalSample (samples : List (Nat × Option Int))
  /-- GPIO_EDGE (R406). An edge on a GPIO_nn input is latched in D0 into PEND_EDGES.GPIO bit n. -/
  | gpioEdge (n : Nat)
  /-- PARTNER_RETRAIN (R60). The link partner retrains the link, which may raise width or rate after a downshift and grow the port's tracker reservation. -/
  | partnerRetrain (port rate width lanes : Nat)
  /-- DISABLE_DURING_TRAINING_TIMEOUT (R62). When ENABLE was cleared during training and no LTSSM transition follows, the LTSSM goes to Disabled 50 ms after the write completes. -/
  | disableDuringTrainingTimeout (port : Nat)
  /-- PLANE_RECOVERY_SAFE_END (R255). 1,024 cycles after injection resumes on a recovered plane, its arbiters return to normal decisions and the plane leaves recovery. -/
  | planeRecoverySafeEnd (p : Nat)
  /-- QUEUE_INSTRUCTION_ANSWER (R360). The queue unit's answer to a QPUSH, QPOP or QREL arrives at the engine, which writes the result and completes the instruction or raises an exception. -/
  | queueInstructionAnswer (e : Nat)
  deriving DecidableEq, Repr

end Sys2Proof
end

