-- ==== Sys2Proof/Config.lean ====
section
/-! DEFINITION. What an implementation of the device fixes and the spec leaves open: uninterpreted constants.
None has a body, so that a statement about one holds for every choice. -/
namespace Sys2Proof.Config

/-- R35 (assumption 3): which of its chiplet's two pipelines a line address is hashed to. `false` is the even one. -/
opaque pipeHash : Nat → Bool

/-- R78 (assumption 3): the victim way that a full set of a die's translation cache gives up (pseudo-LRU). -/
opaque xlatVictim : Nat → Nat

/-- R78 (assumption 3): the set of the translation cache that a window and an extent slot hash to. -/
opaque xlatSet : Nat → Nat → Nat

/-- R194 (assumption 3): the hardware's choice of victim way in a full snoop-filter set. -/
opaque sfVictim : Nat → Nat

/-- The host index as whose a request is served that arrives on an ISL port: the spec names none (assumption 11). -/
opaque islHost : Nat → BitVec 6

/-- A value the spec leaves open (assumption 4): the `n`th free value of a run, 64 bits. -/
opaque freeValue : Nat → BitVec 64

/-- A line the spec leaves open (assumption 4). -/
opaque freeLine : Nat → BitVec 512

/-- SHA-384 (FIPS 180) of a byte string: the spec names the standard and does not give it (assumption 5). -/
opaque sha384 : List (BitVec 8) → BitVec 384

/-- ECDSA P-384 (FIPS 186): digest, r, s, x, y. The spec names the standard and does not give it (assumption 5). -/
opaque ecdsaP384 : BitVec 384 → BitVec 384 → BitVec 384 → BitVec 384 → BitVec 384 → Bool

/-- Whether a steward firmware build, given as its FW_VERSION and its bytes, is made for this part (R428,
assumption 5). -/
opaque firmwareForPart : Nat → List (BitVec 8) → Bool

/-- SERIAL as it is fused (GLOBAL block, assumption 6). -/
opaque serialFused : BitVec 64

/-- SERIAL, which is never 0. -/
def serial : BitVec 64 := if serialFused = 0#64 then 1#64 else serialFused

/-- R342 (assumption 4): whether tininess is detected before rounding; IEEE 754 leaves it to the implementation. -/
opaque tinyBefore : Bool

/-- R170: how many records an event log of a pool view holds (the CXL Specification leaves it to the device). -/
opaque viewLogSize : Nat

/-- R188: which of a die's 65,536 cached snoop-filter sets is replaced (pseudo-LRU, assumption 3). -/
opaque sfCacheVictim : Nat → Nat

/-- R288: the Completer ID of a HOST port's pool view function: its bus number is the host's to assign, and the spec names
no register that holds it (assumption 4). -/
opaque viewId : Nat → Nat

/-- R359 (assumption 3): the set of a cluster's instruction cache that a line (program, version, code address / 64) lies in,
and the victim way of a full set. -/
opaque icSet : Nat → Nat → Nat → Nat
opaque icVictim : Nat → Nat

end Sys2Proof.Config
end

