-- ==== Sys2Proof/Machine/Bits.lean ====
section
/-! DEFINITION. Bit fields of a word (R4: bit 0 is the least significant), byte order, and CRC-32C (R426). -/
namespace Sys2Proof.Machine

/-- The field `[hi:lo]` of a word, as a number. -/
def fld (w : Word) (hi lo : Nat) : Nat := (w.toNat / 2 ^ lo) % 2 ^ (hi + 1 - lo)

/-- Bit `i` of a word. -/
def bitAt (w : Word) (i : Nat) : Bool := w.getLsbD i

/-- The mask of the field `[hi:lo]`. -/
def fldMask (hi lo : Nat) : Word := BitVec.ofNat 64 ((2 ^ (hi + 1 - lo) - 1) * 2 ^ lo)

/-- A word whose only field `[hi:lo]` is `v`, cut to the field. -/
def mkFld (hi lo v : Nat) : Word := BitVec.ofNat 64 ((v % 2 ^ (hi + 1 - lo)) * 2 ^ lo)

/-- Replace the field `[hi:lo]` of a word. -/
def setFld (w : Word) (hi lo v : Nat) : Word := (w &&& ~~~(fldMask hi lo)) ||| mkFld hi lo v

/-- Set bit `i`. -/
def setBit (w : Word) (i : Nat) : Word := w ||| BitVec.ofNat 64 (2 ^ i)

/-- Clear bit `i`. -/
def clrBit (w : Word) (i : Nat) : Word := w &&& ~~~(BitVec.ofNat 64 (2 ^ i))

/-- Put a Boolean in bit `i`. -/
def putBit (w : Word) (i : Nat) (b : Bool) : Word := if b then setBit w i else clrBit w i

/-- A Boolean as the number 0 or 1. -/
def b2n (b : Bool) : Nat := if b then 1 else 0

/-- A number that saturates at the all-ones value of `n` bits (R7). -/
def satAdd (n a b : Nat) : Nat := min (a + b) (2 ^ n - 1)

/-- Byte `k` of a word (R4: byte 0 lowest). -/
def byteOf (w : Word) (k : Nat) : Byte := BitVec.ofNat 8 (w.toNat / 2 ^ (8 * k))

/-- The eight bytes of a word, lowest address first. -/
def wordBytes (w : Word) : List Byte := (List.range 8).map (byteOf w)

/-- A number from its bytes, lowest first (R4). -/
def leNat : List Byte → Nat
  | [] => 0
  | b :: r => b.toNat + 256 * leNat r

/-- One bit step of the reflected CRC-32C, polynomial 0x1EDC_6F41 (reflected 0x82F6_3B78). -/
def crcBit (c : BitVec 32) : BitVec 32 :=
  if c.getLsbD 0 then (c >>> 1) ^^^ 0x82F63B78#32 else c >>> 1

/-- One byte step of CRC-32C. -/
def crcByte (c : BitVec 32) (b : Byte) : BitVec 32 :=
  crcBit (crcBit (crcBit (crcBit (crcBit (crcBit (crcBit (crcBit (c ^^^ b.setWidth 32))))))))

/-- CRC-32C of a byte string, R426: initial value and final XOR all ones. -/
def crc32c (bs : List Byte) : BitVec 32 := (bs.foldl crcByte 0xFFFFFFFF#32) ^^^ 0xFFFFFFFF#32

/-! ## Lines -/

/-- Byte `i` of a line (R4). -/
def lineByte (l : Line) (i : Nat) : Byte := BitVec.ofNat 8 (l.toNat / 2 ^ (8 * i))

/-- A line from its bytes. -/
def lineOf (f : Nat → Byte) : Line := BitVec.ofNat 512 (leNat ((List.range 64).map f))

/-- The number in bytes `off .. off+n-1` of a line, little-endian. -/
def lineNat (l : Line) (off n : Nat) : Nat := (l.toNat / 2 ^ (8 * off)) % 2 ^ (8 * n)

/-- Replace bytes `off .. off+n-1` of a line. -/
def linePut (l : Line) (off n v : Nat) : Line :=
  lineOf (fun i => if off ≤ i ∧ i < off + n then BitVec.ofNat 8 (v / 2 ^ (8 * (i - off))) else lineByte l i)

/-- Write the bytes named by a mask. -/
def lineMerge (old new : Line) (mask : BitVec 64) : Line :=
  lineOf (fun i => if mask.getLsbD i then lineByte new i else lineByte old i)

/-- R122: byte `i` moves to line offset `i XOR (s - 1)`, s = 2, 4 or 8 for BSWAP 1, 2 or 3. -/
def swapIdx (bswap i : Nat) : Nat := if bswap = 0 then i else i ^^^ (2 ^ bswap - 1)

/-- Swap the bytes of a line, R122. -/
def swapLine (bswap : Nat) (l : Line) : Line := lineOf (fun i => lineByte l (swapIdx bswap i))

/-- Swap a byte mask the same way, R122. -/
def swapMask (bswap : Nat) (m : BitVec 64) : BitVec 64 :=
  BitVec.ofNat 64 ((List.range 64).foldl (fun a i => if m.getLsbD (swapIdx bswap i) then a + 2 ^ i else a) 0)

/-- A mask of all 64 bytes. -/
def fullMask : BitVec 64 := BitVec.allOnes 64

end Sys2Proof.Machine
end

