-- ==== Sys2Proof/Machine/Registers.lean ====
section
/-! DEFINITION. The control space map: where each register lies, its fields' access types, reset value and encodings
(R8-R18; the block maps of the chapters; the register index of 18). -/
namespace Sys2Proof.Machine

/-- The five access types. -/
inductive Acc where
  | ro | rw | w1c | w1s | rc
  deriving DecidableEq, Repr

/-- One field: its bits, its access type, and, for an enumerated field, its permitted encodings as inclusive ranges
(`[]`: every value). -/
structure Fld where
  hi : Nat
  lo : Nat
  acc : Acc
  legal : List (Nat × Nat)
  deriving DecidableEq, Repr

/-- One register, or an array of `count` of them `stride` apart. -/
structure RegDef where
  name : String
  base : Nat
  stride : Nat
  count : Nat
  reset : Word
  /-- 64-bit only, R11 -/
  only64 : Bool
  /-- held in D0: a core reset does not change it -/
  aon : Bool
  /-- writable in HALT, R548 -/
  halt : Bool
  flds : List Fld
  deriving DecidableEq, Repr

/-- A field of each kind, and an enumerated RW field. -/
def fRo (hi lo : Nat) : Fld := ⟨hi, lo, .ro, []⟩
def fRw (hi lo : Nat) : Fld := ⟨hi, lo, .rw, []⟩
def fW1c (hi lo : Nat) : Fld := ⟨hi, lo, .w1c, []⟩
def fW1s (b : Nat) : Fld := ⟨b, b, .w1s, []⟩
def fRc (hi lo : Nat) : Fld := ⟨hi, lo, .rc, []⟩
def fEnum (hi lo : Nat) (legal : List (Nat × Nat)) : Fld := ⟨hi, lo, .rw, legal⟩

/-- A single register of D1 and beyond. -/
def reg1 (name : String) (off : Nat) (reset : Word) (flds : List Fld) : RegDef :=
  ⟨name, off, 8, 1, reset, false, false, false, flds⟩
/-- An array of registers. -/
def regN (name : String) (off stride count : Nat) (reset : Word) (flds : List Fld) : RegDef :=
  ⟨name, off, stride, count, reset, false, false, false, flds⟩
/-- A register of D0. -/
def regA (name : String) (off : Nat) (reset : Word) (flds : List Fld) : RegDef :=
  ⟨name, off, 8, 1, reset, false, true, false, flds⟩
/-- The same register marked 64-bit only. -/
def RegDef.only (d : RegDef) : RegDef := { d with only64 := true }
/-- The same register, writable in HALT (R548). -/
def RegDef.inHalt (d : RegDef) : RegDef := { d with halt := true }

/-! ## Offsets -/
namespace Reg
def deviceId : Nat := 0x0
def revision : Nat := 0x8
def serial : Nat := 0x10
def devMode : Nat := 0x18
def modeEntryDtb : Nat := 0x20
def resetCause : Nat := 0x28
def fmRoute : Nat := 0x30
def evtMsgStatus : Nat := 0x38
def scratch (n : Nat) : Nat := 0x40 + 8 * n
def scratchAon (n : Nat) : Nat := 0x60 + 8 * n
def clkStatus : Nat := 0x100000
def clkEvents : Nat := 0x100008
def clkEventMask : Nat := 0x100010
def dtb : Nat := 0x100018
def cdcOvrDst : Nat := 0x100020
def cdcOvrSrc : Nat := 0x100028
def followStatus : Nat := 0x100030
def dom (d : Nat) : Nat := 0x100100 + 8 * d
def portPage (p : Nat) : Nat := 0x200000 + 0x1000 * p
def portId (p : Nat) : Nat := portPage p
def portCfg (p : Nat) : Nat := portPage p + 0x8
def portCtl (p : Nat) : Nat := portPage p + 0x10
def linkStatus (p : Nat) : Nat := portPage p + 0x18
def linkEvents (p : Nat) : Nat := portPage p + 0x20
def linkEventMask (p : Nat) : Nat := portPage p + 0x28
def eqCtl (p : Nat) : Nat := portPage p + 0x30
def eqStatus (p : Nat) : Nat := portPage p + 0x38
def creditStatus (p : Nat) : Nat := portPage p + 0x40
def ideStatus (p : Nat) : Nat := portPage p + 0x48
def eqReq (p : Nat) : Nat := portPage p + 0x50
def eqMargin (p k : Nat) : Nat := portPage p + 0x58 + 8 * k
def eqResp (p : Nat) : Nat := portPage p + 0x70
def xlateCtl : Nat := 0x400000
def xlateStatus : Nat := 0x400008
def xlateEvents : Nat := 0x400010
def genStatus : Nat := 0x400020
def fillReq (d : Nat) : Nat := 0x400030 + 0x10 * d
def fillResp (d : Nat) : Nat := 0x400038 + 0x10 * d
def dcTmoReq : Nat := 0x400050
def dcTmoResp : Nat := 0x400058
def migStatus (n : Nat) : Nat := 0x400100 + 8 * n
def rasCtl : Nat := 0xA00000
def rasStatus : Nat := 0xA00008
def rasEvents : Nat := 0xA00010
def escCtl : Nat := 0xA00020
def escReq : Nat := 0xA00028
def escResp : Nat := 0xA00030
def isoCtl : Nat := 0xA00038
def isoPort (k : Nat) : Nat := 0xA00040 + 8 * k
def stwWdog (n : Nat) : Nat := 0xA00080 + 8 * n
def ringProd (s : Nat) : Nat := 0xA00100 + 0x20 * (s - 1)
def ringCons (s : Nat) : Nat := 0xA00108 + 0x20 * (s - 1)
def ringOvf (s : Nat) : Nat := 0xA00110 + 0x20 * (s - 1)
def vlogProd : Nat := 0xA00200
def vlogCons : Nat := 0xA00208
def vlogOvf : Nat := 0xA00210
def lastResort : Nat := 0xA00400
def lrStatus : Nat := 0xA00800
def haltRec : Nat := 0xA00C00
def haltInfo : Nat := 0xA00C40
def ringPos (s : Nat) : Nat := 0xA10000 + 0x4000 * (s - 1)
def vlogPos : Nat := 0xA40000
def pairCtl : Nat := 0x3000000
def pairStatus : Nat := 0x3000008
def pairEvents : Nat := 0x3000010
def dtbOffset : Nat := 0x3000020
def takeoverReq : Nat := 0x3000028
def takeoverResp : Nat := 0x3000030
def syncProgress : Nat := 0x3000038
def takeoverLog : Nat := 0x3000040
def pwrCtl : Nat := 0x3200000
def pwrStatus : Nat := 0x3200008
def pwrEvents : Nat := 0x3200010
def scStatus : Nat := 0x3200020
def hpReq : Nat := 0x3200028
def slotPage (n : Nat) : Nat := 0x3200100 + 0x40 * n
def slotCtl (n : Nat) : Nat := slotPage n + 0x10
def slotStatus (n : Nat) : Nat := slotPage n + 0x18
def slotMeas (n : Nat) : Nat := slotPage n + 0x20
def slotCmd (n : Nat) : Nat := slotPage n + 0x28
def counters : Nat := 0x3400000
def countCtl : Nat := 0x3400000
def countStatus : Nat := 0x3400008
def counterAccess : Nat := 0x3400010
def engineCntAccess : Nat := 0x3400018
def almCtl : Nat := 0x3800000
def almStatus : Nat := 0x3800008
def almEvents : Nat := 0x3800010
def modeDetail : Nat := 0x3800020
def pendEdges : Nat := 0x3800028
def keyStatus : Nat := 0x3800030
def stwFwVersion : Nat := 0x3800038
def shadowCtl : Nat := 0x3800040
def shadowTarget : Nat := 0x3800048
def shadowStatus : Nat := 0x3800050
def shadowPtr : Nat := 0x3800058
def shadowData : Nat := 0x3800060
def splitReq : Nat := 0x3800068
def splitStatus : Nat := 0x3800070
def swapCtl : Nat := 0x3800078
def swapStatus : Nat := 0x3800080
def testCtl : Nat := 0x3C00000
def bistStatus : Nat := 0x3C00008
def keyProgCtl : Nat := 0x3C00010
def keyProgStatus : Nat := 0x3C00018
def keyDigest (k : Nat) : Nat := 0x3C00020 + 8 * k
def bridgeCtl : Nat := 0x800000
def bridgeEvents : Nat := 0x800010
def trkStatus (n : Nat) : Nat := 0x800020 + 8 * n
def legPage (i : Nat) : Nat := 0x810000 + 0x100 * i
def legCtl (i : Nat) : Nat := legPage i
def legStatus (i : Nat) : Nat := legPage i + 8
def flagBase (i n : Nat) : Nat := legPage i + 0x20 + 0x10 * n
def flagLimit (i n : Nat) : Nat := legPage i + 0x28 + 0x10 * n
def bxgCtl : Nat := 0xA80000
def bxgEvents : Nat := 0xA80008
def intxAgg (k : Nat) : Nat := 0xA80020 + 8 * k
def lateTrk (n : Nat) : Nat := 0xA80040 + 8 * n
def intBase (h : Nat) : Nat := 0xA80100 + 0x10 * h
def intLimit (h : Nat) : Nat := 0xA80108 + 0x10 * h
def bxePage (i : Nat) : Nat := 0xA90000 + 0x100 * i
def bxeCtl (i : Nat) : Nat := bxePage i
def bxeStatus (i : Nat) : Nat := bxePage i + 8
def bxeEvents (i : Nat) : Nat := bxePage i + 0x10
def lateCompletion (i : Nat) : Nat := bxePage i + 0x20
def ctoCount (i : Nat) : Nat := bxePage i + 0x28
def poundCount (i : Nat) : Nat := bxePage i + 0x30
def homeCtl : Nat := 0xC00000
def homeStatus : Nat := 0xC00008
def homeEvents : Nat := 0xC00010
def evictReq (d : Nat) : Nat := 0xC00020 + 0x10 * d
def evictResp (d : Nat) : Nat := 0xC00028 + 0x10 * d
def carve (k : Nat) : Nat := 0xC00100 + 8 * k
def hostCoh (h : Nat) : Nat := 0xC00200 + 8 * h
def chStatus (c : Nat) : Nat := 0xC00400 + 8 * c
def tickCtl : Nat := 0xE00000
def bellCtl : Nat := 0xE00008
def tickStatus : Nat := 0xE00010
def tickEvents : Nat := 0xE00018
def tickNum : Nat := 0xE00028
def tickPublished : Nat := 0xE00030
def nextNominal : Nat := 0xE00038
def bellStatus : Nat := 0xE00040
def tallyStatus : Nat := 0xE00048
def twCfg (n : Nat) : Nat := 0xE00100 + 8 * n
def contrib (c : Nat) : Nat := 0xE08000 + 8 * c
def tickReport (k : Nat) : Nat := 0xE10000 + 8 * k
def arbCtl : Nat := 0x1000000
def arbStatus : Nat := 0x1000008
def arbEvents : Nat := 0x1000010
def hbmCapacity : Nat := 0x1000020
def frameNum : Nat := 0x1000028
def hostArb (h : Nat) : Nat := 0x1000100 + 8 * h
def contract (h : Nat) : Nat := 0x1000300 + 8 * h
def planeStatus (p : Nat) : Nat := 0x1000500 + 8 * p
def queueCtl : Nat := 0x1400000
def queueStatus : Nat := 0x1400008
def queueEvents : Nat := 0x1400010
def noticeReq : Nat := 0x1400020
def qReset : Nat := 0x1400028
def noticeLost : Nat := 0x1400030
def engPage (e : Nat) : Nat := 0x2000000 + 0x10000 * e
def engCtl (e : Nat) : Nat := engPage e
def engStatus (e : Nat) : Nat := engPage e + 8
def engJob (e : Nat) : Nat := engPage e + 0x10
def engPc (e : Nat) : Nat := engPage e + 0x18
def engShadow (e k : Nat) : Nat := engPage e + 0x100 + 8 * k
def shCtl (e : Nat) : Nat := engPage e + 0x160
def dumpPtr (e : Nat) : Nat := engPage e + 0x168
def dumpData (e : Nat) : Nat := engPage e + 0x170
def millCtl : Nat := 0x2800000
def millStatus : Nat := 0x2800008
def millEvents : Nat := 0x2800010
def dispatchReq (n : Nat) : Nat := 0x2800020 + 0x10 * n
def dispatchResp (n : Nat) : Nat := 0x2800028 + 0x10 * n
def libQuery : Nat := 0x2800040
end Reg

/-! ## The blocks -/

/-- GLOBAL, 18. -/
def regsGlobal : List RegDef := [
  reg1 "DEVICE_ID" Reg.deviceId 0x000005BB51201F4B#64 [fRo 42 0],
  reg1 "REVISION" Reg.revision 0x200#64 [fRo 15 0],
  reg1 "SERIAL" Reg.serial Config.serial [fRo 63 0],
  regA "DEV_MODE" Reg.devMode 1#64 [fRo 3 0],
  regA "MODE_ENTRY_DTB" Reg.modeEntryDtb 0#64 [fRo 63 0],
  regA "RESET_CAUSE" Reg.resetCause 0x0000000100010001#64 [fRo 47 32, fW1c 22 16, fRo 7 0],
  (reg1 "FM_ROUTE" Reg.fmRoute 0#64 [fRw 63 63, fEnum 57 56 [(1, 2)], fRw 40 32, fRw 7 0]).inHalt,
  reg1 "EVT_MSG_STATUS" Reg.evtMsgStatus 0#64 [fRc 63 32, fRo 8 0],
  (regN "SCRATCH" (Reg.scratch 0) 8 4 0#64 [fRw 63 0]).inHalt,
  { regN "SCRATCH_AON" (Reg.scratchAon 0) 8 2 0#64 [fRw 63 0] with aon := true, halt := true }]

/-- CLOCK_RESET, 12. -/
def regsClock : List RegDef := [
  reg1 "CLK_STATUS" Reg.clkStatus 0#64 [fRo 63 63, fRo 49 32, fRo 17 0],
  reg1 "CLK_EVENTS" Reg.clkEvents 0#64 [fW1c 4 0],
  reg1 "CLK_EVENT_MASK" Reg.clkEventMask 0x1F#64 [fRw 4 0],
  reg1 "DTB" Reg.dtb 0#64 [fRo 63 0],
  reg1 "CDC_OVR_DST" Reg.cdcOvrDst 0#64 [fW1c 17 0],
  reg1 "CDC_OVR_SRC" Reg.cdcOvrSrc 0#64 [fW1c 17 0],
  reg1 "FOLLOW_STATUS" Reg.followStatus 0#64 [fRc 39 32, fRc 17 0],
  regN "DOM" (Reg.dom 0) 8 18 0#64 [fRo 47 32, fRo 19 16, fRo 9 8]]

/-- PORT pages, 02. The PORTS section gives PORT_ID, PORT_CFG, PORT_CTL and EQ_CTL their values (R580). -/
def regsPort : List RegDef := [
  regN "PORT_ID" (Reg.portId 0) 0x1000 512 0#64 [fRo 43 32, fRo 19 16, fRo 11 9, fRo 8 0],
  regN "PORT_CFG" (Reg.portCfg 0) 0x1000 512 0#64 [fRo 55 48, fRo 46 40, fRo 31 28, fRo 23 18, fRo 10 8, fRo 2 0],
  regN "PORT_CTL" (Reg.portCtl 0) 0x1000 512 0#64 [fEnum 11 9 [(0, 6)], fRw 3 3, fW1s 1, fRw 0 0],
  regN "LINK_STATUS" (Reg.linkStatus 0) 0x1000 512 0#64 [fRo 47 32, fRo 25 19, fRo 15 8, fRo 3 0],
  regN "LINK_EVENTS" (Reg.linkEvents 0) 0x1000 512 0#64 [fW1c 12 1],
  regN "LINK_EVENT_MASK" (Reg.linkEventMask 0) 0x1000 512 0x1FFE#64 [fRw 12 1],
  regN "EQ_CTL" (Reg.eqCtl 0) 0x1000 512 0x000007FF07FF0100#64
    [fEnum 42 32 [(1, 0x7FF)], fEnum 26 16 [(1, 0x7FF)], fRw 8 8, fEnum 7 4 [(0, 10)], fRw 3 3],
  regN "EQ_STATUS" (Reg.eqStatus 0) 0x1000 512 0#64 [fRo 47 32, fRo 27 8],
  regN "CREDIT_STATUS" (Reg.creditStatus 0) 0x1000 512 0#64 [fRo 58 48, fRo 40 32, fRo 25 16, fRo 8 0],
  regN "IDE_STATUS" (Reg.ideStatus 0) 0x1000 512 0#64 [fRo 11 8, fRo 3 0],
  regN "EQ_REQ" (Reg.eqReq 0) 0x1000 512 0#64 [fRo 63 51, fRo 42 32],
  regN "EQ_MARGIN_0" (Reg.eqMargin 0 0) 0x1000 512 0#64 [fRo 63 0],
  regN "EQ_MARGIN_1" (Reg.eqMargin 0 1) 0x1000 512 0#64 [fRo 63 0],
  regN "EQ_MARGIN_2" (Reg.eqMargin 0 2) 0x1000 512 0#64 [fRo 47 0],
  (regN "EQ_RESP" (Reg.eqResp 0) 0x1000 512 0#64 [fRw 63 63, fRw 55 48, fRw 3 0]).only]

/-- XLATE, 03. -/
def regsXlate : List RegDef := [
  reg1 "XLATE_CTL" Reg.xlateCtl 0x000003E808000A00#64 [fEnum 47 32 [(1, 65535)], fEnum 29 24 [(1, 63)], fEnum 15 8 [(1, 255)]],
  reg1 "XLATE_STATUS" Reg.xlateStatus 0#64 [fRo 56 48, fRo 40 32, fRo 20 16, fRo 1 0],
  reg1 "XLATE_EVENTS" Reg.xlateEvents 0#64 [fW1c 10 0],
  reg1 "XLATE_EVENT_MASK" 0x400018 0x7FF#64 [fRw 10 0],
  reg1 "GEN_STATUS" Reg.genStatus 0#64 [fRo 31 16, fRo 3 0],
  regN "FILL_REQ" (Reg.fillReq 0) 0x10 2 0#64 [],
  (regN "FILL_RESP" (Reg.fillResp 0) 0x10 2 0#64 [fRw 63 62, fRw 59 48]).only,
  reg1 "DC_TMO_REQ" Reg.dcTmoReq 0#64 [],
  (reg1 "DC_TMO_RESP" Reg.dcTmoResp 0#64 [fRw 63 62, fRw 55 48]).only,
  regN "MIG_STATUS" (Reg.migStatus 0) 8 16 0#64 [fRo 63 62, fRo 58 40, fRo 22 0]]

/-- RAS, 15. The CONS counts are written through `ringConsWrite`. -/
def regsRas : List RegDef := [
  reg1 "RAS_CTL" Reg.rasCtl 0x000000640032001E#64 [fEnum 47 32 [(1, 65535)], fEnum 23 16 [(20, 255)], fRo 8 8, fRw 4 0],
  reg1 "RAS_STATUS" Reg.rasStatus 0#64 [fRo 52 48, fRo 42 32, fRo 29 0],
  reg1 "RAS_EVENTS" Reg.rasEvents 0#64 [fW1c 10 0],
  reg1 "RAS_EVENT_MASK" 0xA00018 0x7FB#64 [fRw 10 0],
  reg1 "ESC_CTL" Reg.escCtl 0x03E803E80064000A#64 [fRw 63 48, fRw 47 32, fRw 31 16, fRw 15 0],
  reg1 "ESC_REQ" Reg.escReq 0#64 [],
  (reg1 "ESC_RESP" Reg.escResp 0#64 [fRw 63 63, fEnum 57 56 [(0, 2)], fRw 55 48]).only,
  (reg1 "ISO_CTL" Reg.isoCtl 0#64 [fW1s 63, fRw 62 62, fRw 55 48, fRw 17 0]).only,
  regN "ISO_PORT" (Reg.isoPort 0) 8 8 0#64 [fRo 63 0],
  regN "STW_WDOG" (Reg.stwWdog 0) 8 4 0#64 [fRo 25 25, fRo 23 16, fW1s 0],
  regN "RING_PROD" (Reg.ringProd 1) 0x20 5 0#64 [fRo 31 0],
  (regN "RING_CONS" (Reg.ringCons 1) 0x20 5 0#64 [fRw 31 0]).inHalt,
  regN "RING_OVF" (Reg.ringOvf 1) 0x20 5 0#64 [fRc 31 0],
  reg1 "VLOG_PROD" Reg.vlogProd 0#64 [fRo 31 0],
  (reg1 "VLOG_CONS" Reg.vlogCons 0#64 [fRw 31 0]).inHalt,
  reg1 "VLOG_OVF" Reg.vlogOvf 0#64 [fRc 31 0],
  regN "LAST_RESORT" Reg.lastResort 8 128 0#64 [fRo 63 0],
  reg1 "LR_STATUS" Reg.lrStatus 0#64 [fRc 63 32, fRo 15 0],
  { regN "HALT_REC" Reg.haltRec 8 8 0#64 [fRo 63 0] with aon := true },
  (regA "HALT_INFO" Reg.haltInfo 0#64 [fW1c 0 0]).inHalt,
  regN "RING" (Reg.ringPos 1) 8 10240 0#64 [fRo 63 0],
  regN "VLOG" Reg.vlogPos 8 16384 0#64 [fRo 63 0]]

/-- PAIR, 14. -/
def regsPair : List RegDef := [
  reg1 "PAIR_CTL" Reg.pairCtl 0x0000002000000000#64 [fEnum 39 32 [(1, 255)], fRw 8 8, fW1s 3, fW1s 2, fW1s 1],
  reg1 "PAIR_STATUS" Reg.pairStatus 0#64 [fRo 55 52, fRo 47 40, fRo 33 30, fRo 27 20, fRo 15 12, fRo 8 4],
  reg1 "PAIR_EVENTS" Reg.pairEvents 0#64 [fW1c 10 0],
  reg1 "PAIR_EVENT_MASK" 0x3000018 0x7FF#64 [fRw 10 0],
  reg1 "DTB_OFFSET" Reg.dtbOffset 0#64 [fRo 63 0],
  reg1 "TAKEOVER_REQ" Reg.takeoverReq 0#64 [],
  (reg1 "TAKEOVER_RESP" Reg.takeoverResp 0#64 [fRw 63 62, fRw 55 48]).only,
  reg1 "SYNC_PROGRESS" Reg.syncProgress 0#64 [fRo 63 62, fRo 31 0],
  reg1 "TAKEOVER_LOG" Reg.takeoverLog 0#64 [fRo 63 0]]

/-- SLOT_POWER, 16, held in D0. -/
def regsPower : List RegDef := [
  regA "PWR_CTL" Reg.pwrCtl 0#64 [fW1s 0],
  regA "PWR_STATUS" Reg.pwrStatus 0#64 [fRo 15 8, fRo 4 0],
  regA "PWR_EVENTS" Reg.pwrEvents 0#64 [fW1c 5 0],
  regA "PWR_EVENT_MASK" 0x3200018 0x3F#64 [fRw 5 0],
  regA "SC_STATUS" Reg.scStatus 0#64 [fRc 63 48, fRc 47 32, fRo 31 0],
  regA "HP_REQ" Reg.hpReq 0#64 [],
  { regN "SLOT_CFG" (Reg.slotPage 0) 0x40 128 0#64 [fRo 63 60, fRo 56 48, fRo 31 16, fRo 9 0] with aon := true },
  { regN "SLOT_LIMITS" (Reg.slotPage 0 + 8) 0x40 128 0#64 [fRo 63 0] with aon := true },
  { regN "SLOT_CTL" (Reg.slotCtl 0) 0x40 128 0#64 [fW1s 17, fW1s 16, fRw 15 8] with aon := true },
  { regN "SLOT_STATUS" (Reg.slotStatus 0) 0x40 128 0#64 [fRo 63 54, fRo 47 0] with aon := true },
  { regN "SLOT_MEAS" (Reg.slotMeas 0) 0x40 128 0#64 [fRo 63 32, fRo 21 0] with aon := true },
  { regN "SLOT_CMD" (Reg.slotCmd 0) 0x40 128 0#64
      [fW1s 63, fEnum 6 5 [(0, 2)], fEnum 4 3 [(0, 2)], fRw 2 2, fRw 0 0] with aon := true }]

/-- COUNTERS, 17: the control registers; the counters themselves are read as R526-R540 state. -/
def regsCount : List RegDef := [
  reg1 "COUNT_CTL" Reg.countCtl 2#64 [fW1s 2, fRw 1 1, fRw 0 0],
  reg1 "COUNT_STATUS" Reg.countStatus 0#64 [fRc 47 32, fRo 3 0],
  reg1 "COUNTER_ACCESS" Reg.counterAccess 0#64 [fRo 63 0],
  reg1 "ENGINE_CNT_ACCESS" Reg.engineCntAccess 0#64 [fRo 63 0]]

/-- ALMANAC, 13. -/
def regsAlmanac : List RegDef := [
  (regA "ALM_CTL" Reg.almCtl 0#64 [fRw 0 0]).inHalt,
  regA "ALM_STATUS" Reg.almStatus 0#64 [fRo 55 40, fRo 35 32, fRo 27 24, fRo 17 16, fRo 2 0],
  reg1 "ALM_EVENTS" Reg.almEvents 0#64 [fW1c 9 0],
  reg1 "ALM_EVENT_MASK" 0x3800018 0x3FF#64 [fRw 9 0],
  reg1 "MODE_DETAIL" Reg.modeDetail 0#64 [fRo 19 16, fRo 11 8, fRo 3 0],
  regA "PEND_EDGES" Reg.pendEdges 0#64 [fW1c 18 0],
  regA "KEY_STATUS" Reg.keyStatus 0#64 [fRo 11 8, fRo 3 0],
  reg1 "STW_FW_VERSION" Reg.stwFwVersion 0#64 [fRo 63 0],
  reg1 "SHADOW_CTL" Reg.shadowCtl 0#64 [fW1s 2, fW1s 1, fW1s 0],
  reg1 "SHADOW_TARGET" Reg.shadowTarget 0#64 [fRw 63 0],
  reg1 "SHADOW_STATUS" Reg.shadowStatus 0#64 [fRo 63 16, fRo 11 4, fRo 2 0],
  reg1 "SHADOW_PTR" Reg.shadowPtr 0#64 [fRw 25 3],
  (reg1 "SHADOW_DATA" Reg.shadowData 0#64 [fRw 63 0]).only,
  reg1 "SPLIT_REQ" Reg.splitReq 0#64 [fW1s 63, fRw 8 8, fEnum 3 0 [(1, 10)]],
  reg1 "SPLIT_STATUS" Reg.splitStatus 0#64 [fRo 63 32, fRo 25 20, fRo 16 16, fRo 9 0],
  reg1 "SWAP_CTL" Reg.swapCtl 0#64 [fW1s 0],
  reg1 "SWAP_STATUS" Reg.swapStatus 0#64 [fRo 47 8, fRo 2 0]]

/-- TEST, 18. -/
def regsTest : List RegDef := [
  reg1 "TEST_CTL" Reg.testCtl 0#64 [fW1s 8, fRw 5 0],
  reg1 "BIST_STATUS" Reg.bistStatus 0#64 [fRo 16 16, fRo 13 8, fRo 5 0],
  (reg1 "KEY_PROG_CTL" Reg.keyProgCtl 0#64 [fW1s 63, fRw 8 8, fRw 1 0]).only,
  reg1 "KEY_PROG_STATUS" Reg.keyProgStatus 0#64 [fRo 9 8, fRo 0 0],
  regN "KEY_DIGEST" (Reg.keyDigest 0) 8 6 0#64 [fRw 63 0]]

/-- BRIDGE, 04. -/
def regsBridge : List RegDef := [
  reg1 "BRIDGE_CTL" Reg.bridgeCtl 0x0000000002000040#64 [fRw 27 16, fRw 11 0],
  reg1 "BRIDGE_EVENTS" Reg.bridgeEvents 0#64 [fW1c 4 0],
  reg1 "BRIDGE_EVENT_MASK" 0x800018 0x1F#64 [fRw 4 0],
  regN "TRK_STATUS" (Reg.trkStatus 0) 8 16 0#64 [fRc 44 32, fRo 28 16, fRo 12 0],
  regN "LEG_CTL" (Reg.legCtl 0) 0x100 256 0x14#64 [fRw 11 8, fRw 4 4, fRw 3 3, fRw 2 2, fEnum 1 0 [(0, 1)]],
  regN "LEG_STATUS" (Reg.legStatus 0) 0x100 256 0#64 [fRo 58 56, fRo 49 48, fRo 42 32, fRo 26 16, fRo 9 0],
  regN "FLAG_BASE_0" (Reg.flagBase 0 0) 0x100 256 0#64 [fRw 51 6],
  regN "FLAG_LIMIT_0" (Reg.flagLimit 0 0) 0x100 256 0#64 [fRw 51 6],
  regN "FLAG_BASE_1" (Reg.flagBase 0 1) 0x100 256 0#64 [fRw 51 6],
  regN "FLAG_LIMIT_1" (Reg.flagLimit 0 1) 0x100 256 0#64 [fRw 51 6],
  regN "FLAG_BASE_2" (Reg.flagBase 0 2) 0x100 256 0#64 [fRw 51 6],
  regN "FLAG_LIMIT_2" (Reg.flagLimit 0 2) 0x100 256 0#64 [fRw 51 6],
  regN "FLAG_BASE_3" (Reg.flagBase 0 3) 0x100 256 0#64 [fRw 51 6],
  regN "FLAG_LIMIT_3" (Reg.flagLimit 0 3) 0x100 256 0#64 [fRw 51 6]]

/-- The bridge error part of the RAS block, 05. -/
def regsBx : List RegDef := [
  reg1 "BXG_CTL" Reg.bxgCtl 0x0190006400C80500#64
    [fEnum 63 48 [(1, 65535)], fEnum 47 32 [(1, 65535)], fEnum 31 16 [(1, 65535)], fEnum 15 8 [(1, 255)], fRo 0 0],
  reg1 "BXG_EVENTS" Reg.bxgEvents 0#64 [fW1c 3 0],
  reg1 "BXG_EVENT_MASK" 0xA80010 0xF#64 [fRw 3 0],
  regN "INTX_AGG" (Reg.intxAgg 0) 8 4 0#64 [fRo 63 0],
  regN "LATE_TRK" (Reg.lateTrk 0) 8 16 0#64 [fRc 31 0],
  regN "INT_BASE" (Reg.intBase 0) 0x10 64 0#64 [fRo 51 2],
  regN "INT_LIMIT" (Reg.intLimit 0) 0x10 64 0#64 [fRo 51 2],
  regN "BXE_CTL" (Reg.bxeCtl 0) 0x100 256 0x000003E808000000#64
    [fEnum 47 32 [(1, 65535)], fRw 31 24, fW1s 3, fW1s 2, fRw 1 1],
  regN "BXE_STATUS" (Reg.bxeStatus 0) 0x100 256 0#64 [fRo 39 32, fRo 19 16, fRo 11 8, fRo 2 0],
  regN "BXE_EVENTS" (Reg.bxeEvents 0) 0x100 256 0#64 [fW1c 6 0],
  regN "BXE_EVENT_MASK" (Reg.bxePage 0 + 0x18) 0x100 256 0x7F#64 [fRw 6 0],
  regN "LATE_COMPLETION" (Reg.lateCompletion 0) 0x100 256 0#64 [fRc 31 0],
  regN "CTO_COUNT" (Reg.ctoCount 0) 0x100 256 0#64 [fRc 31 0],
  regN "POUND_COUNT" (Reg.poundCount 0) 0x100 256 0#64 [fRc 31 0]]

/-- HOME, 06. -/
def regsHome : List RegDef := [
  reg1 "HOME_CTL" Reg.homeCtl 0x03E801F414041002#64
    [fEnum 63 48 [(1, 65535)], fEnum 47 32 [(1, 65535)], fEnum 31 24 [(1, 255)], fRw 23 16, fRw 15 8, fRw 1 1, fRo 0 0],
  reg1 "HOME_STATUS" Reg.homeStatus 0#64 [fRo 57 32, fRo 23 16, fRo 15 8, fRo 0 0],
  reg1 "HOME_EVENTS" Reg.homeEvents 0#64 [fW1c 9 0],
  reg1 "HOME_EVENT_MASK" 0xC00018 0x3BB#64 [fRw 9 0],
  regN "EVICT_REQ" (Reg.evictReq 0) 0x10 2 0#64 [],
  (regN "EVICT_RESP" (Reg.evictResp 0) 0x10 2 0#64 [fRw 63 63, fRw 55 48, fRw 3 0]).only,
  regN "CARVE" (Reg.carve 0) 8 8 0#64 [fRo 49 32, fRo 17 0],
  regN "HOST_COH" (Reg.hostCoh 0) 8 64 0#64 [fRo 63 62, fRo 55 48, fRo 45 20, fW1s 0],
  regN "CH_STATUS" (Reg.chStatus 0) 8 128 0#64 [fRo 63 62, fW1s 48, fRo 47 32, fRo 22 0]]

/-- TICK, 07. -/
def regsTick : List RegDef := [
  reg1 "TICK_CTL" Reg.tickCtl 0#64 [fRo 55 48, fRo 47 24, fRo 12 0],
  reg1 "BELL_CTL" Reg.bellCtl 0x400#64 [fEnum 15 8 [(1, 255)], fEnum 1 0 [(0, 1)]],
  reg1 "TICK_STATUS" Reg.tickStatus 0#64 [fRo 35 32, fRo 2 0],
  reg1 "TICK_EVENTS" Reg.tickEvents 0#64 [fW1c 10 0],
  reg1 "TICK_EVENT_MASK" 0xE00020 0x4FF#64 [fRw 10 0],
  reg1 "TICK_NUM" Reg.tickNum 0#64 [fRo 63 0],
  reg1 "TICK_PUBLISHED" Reg.tickPublished 0#64 [fRo 63 0],
  reg1 "NEXT_NOMINAL" Reg.nextNominal 0#64 [fRo 63 0],
  reg1 "BELL_STATUS" Reg.bellStatus 0#64 [fRc 63 48, fRc 47 32, fRo 31 0],
  reg1 "TALLY_STATUS" Reg.tallyStatus 0#64 [fRo 47 32, fRo 14 0],
  regN "TW_CFG" (Reg.twCfg 0) 8 64 0#64 [fRo 63 62, fRo 51 32, fRo 14 0],
  regN "CONTRIB" (Reg.contrib 0) 8 4096 0#64 [fRo 63 62, fRo 55 50, fRo 47 0],
  regN "TICK_REPORT" (Reg.tickReport 0) 8 4096 0#64 [fRo 63 0]]

/-- RING_ARB, 08. -/
def regsArb : List RegDef := [
  reg1 "ARB_CTL" Reg.arbCtl 2#64 [fRw 2 1],
  reg1 "ARB_STATUS" Reg.arbStatus 0#64 [fRo 47 24, fRo 14 8, fRo 0 0],
  reg1 "ARB_EVENTS" Reg.arbEvents 0#64 [fW1c 5 0],
  reg1 "ARB_EVENT_MASK" 0x1000018 0x1F#64 [fRw 5 0],
  reg1 "HBM_CAPACITY" Reg.hbmCapacity 0#64 [fRo 63 0],
  reg1 "FRAME_NUM" Reg.frameNum 0#64 [fRo 63 0],
  regN "HOST_ARB" (Reg.hostArb 0) 8 64 0x000000FA09C4007D#64
    [fEnum 47 32 [(1, 32767)], fEnum 31 16 [(1, 32767)], fEnum 15 0 [(1, 32767)]],
  regN "CONTRACT" (Reg.contract 0) 8 64 0#64 [fRo 63 63, fRo 60 38, fRo 31 0],
  regN "PLANE_STATUS" (Reg.planeStatus 0) 8 24 0#64 [fRo 42 32, fRc 15 0]]

/-- QUEUE, 09. -/
def regsQueue : List RegDef := [
  reg1 "QUEUE_CTL" Reg.queueCtl 0x0000006400000000#64 [fEnum 47 32 [(1, 65535)], fRo 1 0],
  reg1 "QUEUE_STATUS" Reg.queueStatus 0#64 [fRo 63 4, fRo 1 0],
  reg1 "QUEUE_EVENTS" Reg.queueEvents 0#64 [fW1c 8 0],
  reg1 "QUEUE_EVENT_MASK" 0x1400018 0x1F6#64 [fRw 8 0],
  reg1 "NOTICE_REQ" Reg.noticeReq 0#64 [],
  (reg1 "Q_RESET" Reg.qReset 0#64 [fW1s 63, fRw 17 0]).only,
  reg1 "NOTICE_LOST_COUNT" Reg.noticeLost 0#64 [fRc 31 0]]

/-- ENGINE, 10 and 11. -/
def regsMill : List RegDef := [
  regN "ENG_CTL" (Reg.engCtl 0) 0x10000 128 0#64 [fW1s 2, fRw 1 1],
  regN "ENG_STATUS" (Reg.engStatus 0) 0x10000 128 0#64 [fRo 63 61, fRo 59 32, fRo 17 0],
  regN "ENG_JOB" (Reg.engJob 0) 0x10000 128 0#64 [fRo 63 32, fRo 17 0],
  regN "ENG_PC" (Reg.engPc 0) 0x10000 128 0#64 [fRo 17 0],
  regN "SH_EPC" (Reg.engShadow 0 0) 0x10000 128 0#64 [fRo 63 0],
  regN "SH_STATUS" (Reg.engShadow 0 1) 0x10000 128 0#64 [fRo 63 0],
  regN "SH_CAUSE" (Reg.engShadow 0 2) 0x10000 128 0#64 [fRo 63 0],
  regN "SH_FAULT_ADDR" (Reg.engShadow 0 3) 0x10000 128 0#64 [fRo 63 0],
  regN "SH_LOOP_0" (Reg.engShadow 0 4) 0x10000 128 0#64 [fRo 63 0],
  regN "SH_LOOP_1" (Reg.engShadow 0 5) 0x10000 128 0#64 [fRo 63 0],
  regN "SH_G1" (Reg.engShadow 0 6) 0x10000 128 0#64 [fRo 63 0],
  regN "SH_G2" (Reg.engShadow 0 7) 0x10000 128 0#64 [fRo 63 0],
  regN "SH_G31" (Reg.engShadow 0 8) 0x10000 128 0#64 [fRo 63 0],
  regN "SH_MODE" (Reg.engShadow 0 9) 0x10000 128 0#64 [fRo 63 0],
  regN "SH_INFO" (Reg.engShadow 0 10) 0x10000 128 0#64 [fRo 63 62, fRo 55 20, fRo 17 0],
  regN "SH_DTB" (Reg.engShadow 0 11) 0x10000 128 0#64 [fRo 63 0],
  regN "SH_CTL" (Reg.shCtl 0) 0x10000 128 0#64 [fW1s 0],
  regN "DUMP_PTR" (Reg.dumpPtr 0) 0x10000 128 0#64 [fRw 19 3],
  regN "DUMP_DATA" (Reg.dumpData 0) 0x10000 128 0#64 [fRo 63 0],
  reg1 "MILL_CTL" Reg.millCtl 0x0000003200001000#64 [fEnum 47 32 [(1, 65535)], fEnum 14 8 [(1, 64)]],
  reg1 "MILL_STATUS" Reg.millStatus 0#64 [fRo 63 48, fRo 39 32, fRo 17 0],
  reg1 "MILL_EVENTS" Reg.millEvents 0#64 [fW1c 9 0],
  reg1 "MILL_EVENT_MASK" 0x2800018 0x3FF#64 [fRw 9 0],
  regN "DISPATCH_REQ" (Reg.dispatchReq 0) 0x10 2 0#64 [],
  (regN "DISPATCH_RESP" (Reg.dispatchResp 0) 0x10 2 0#64 [fRw 63 62, fRw 55 48, fRw 6 0]).only,
  reg1 "LIB_QUERY" Reg.libQuery 0#64 [fRw 59 48, fRo 47 29, fRo 15 0]]

end Sys2Proof.Machine
end

