-- ==== Sys2Proof/Machine/Parts.lean ====
section
/-! DEFINITION. The parts of the device's state as plain data, one structure a unit of the spec, and what the device sends.
Times are master DTB values in ns (R393). -/
namespace Sys2Proof.Machine

/-! ## Error records, 15 -/

/-- Severity codes of an error record. -/
inductive Sev where
  | corrected | deferred | contained | fatalUnit | fatalDevice
  deriving DecidableEq, Repr

/-- Source unit codes 0x01-0x13. -/
inductive UnitKind where
  | port | pipeline | legacy | xlate | channel | home | host | tick | ring | queue | engine | cluster | domain
  | almanac | pair | slot | steward | ras | counters
  deriving DecidableEq, Repr

/-- An error record, R472. `CHECK` is computed when the record is read. -/
structure ErrRec where
  dtb : Nat
  seq : Nat
  cls : Nat
  sev : Sev
  clsSev : Sev
  lastResort : Bool
  unit : UnitKind
  inst : Nat
  host : Option Nat
  port : Option Nat
  /-- ADDR_KIND and ADDRESS -/
  addr : Option (Nat × Nat)
  /-- the 16 information bytes, byte 0 lowest -/
  info : Nat
  prevSeq : Nat
  deriving DecidableEq, Repr

/-- One of the five record rings, R475. -/
structure Ring where
  recs : Tbl ErrRec
  prod : Nat
  cons : Nat
  ovf : Nat
  deriving DecidableEq, Repr

/-- An open handling window, R482. -/
structure HWindow where
  unit : UnitKind
  inst : Nat
  sev : Sev
  seq : Nat
  start : Nat
  deadline : Nat
  /-- the record's count in its ring; none where the record was lost -/
  pos : Option Nat
  deriving DecidableEq, Repr

/-- A violation log entry, R495. -/
structure VioRec where
  dtb : Nat
  typ : Nat
  addrKind : Nat
  addr : Nat
  reqKind : Nat
  host : Nat
  port : Nat
  engine : Nat
  reqId : Nat
  contrib : Nat
  vseq : Nat
  op : Nat
  object : Nat
  deriving DecidableEq, Repr

/-- An open escalation window, R488. -/
structure EscWin where
  tag : Nat
  er : ErrRec
  deadline : Nat
  deriving DecidableEq, Repr

/-- A record that waits for a ring lock, R480. -/
structure LockWait where
  er : ErrRec
  since : Nat
  deriving DecidableEq, Repr

/-- The RAS state, 15. -/
structure Ras where
  /-- records on their way to EL_W, in the order written -/
  inbox : List ErrRec
  /-- records that a steward has still to write, R480 -/
  stwInbox : List ErrRec
  /-- records that wait at EL_W for a held ring lock, R480 -/
  waiting : List LockWait
  nextSeq : Nat
  rings : Tbl Ring
  windows : List HWindow
  slots : Tbl ErrRec
  slotUsed : Nat
  slotLost : Nat
  /-- ring -> steward that holds its lock -/
  locks : Tbl Nat
  vlog : Tbl VioRec
  vprod : Nat
  vcons : Nat
  vovf : Nat
  vseq : Nat
  haltRec : Option ErrRec
  escPosts : List Word
  escTag : Nat
  escOpen : List EscWin
  isoPorts : List Nat
  isoClusters : List Nat
  isoStewards : Nat
  /-- isolated queues, hosts and slots, R487 -/
  isoOther : List (UnitKind × Nat)
  wdog : Tbl Nat
  restarts : Tbl Nat
  lastOverrunRec : Option Nat
  deriving DecidableEq, Repr

/-! ## Clocks, 12 -/

/-- How a follower advances, R395, R396. -/
inductive FollowRate where
  | nominal | fast | slow | stopped
  deriving DecidableEq, Repr

/-- A DTB follower: how far it lies behind the master, in 1/16 ns. -/
structure Follower where
  loaded : Bool
  lag16 : Int
  /-- DTB of the sync that measured the lag -/
  since : Nat
  rate : FollowRate
  deriving DecidableEq, Repr

/-- A scheduled instant and the domains that have still to act on it. -/
structure Instant where
  at_ : Nat
  use : InstantUse
  /-- a domain has acted on it -/
  begun : Bool
  left : List Nat
  deriving DecidableEq, Repr

/-- Clocks, resets and the time base, 12. -/
structure Clk where
  dtb : Nat
  auxOsc : Bool
  /-- bit d: domain d has its clock running and is out of reset -/
  running : BitVec 18
  /-- bit d: the PLL of domain d is locked -/
  locked : BitVec 18
  followers : Tbl Follower
  /-- largest lag since the last clear, 1/16 ns -/
  maxLag : Nat
  errDom : BitVec 18
  /-- scheduled instants, oldest first -/
  instants : List Instant
  /-- pulse crossings (source, destination) whose acknowledgement is outstanding -/
  pulses : List (Nat × Nat)
  deriving DecidableEq, Repr

/-! ## Modes and the almanac, 13 -/

/-- The twelve modes, R414. -/
inductive Mode where
  | off | aux | load | train | solo | paired | takeover | degraded | swap | drain | test | halt
  deriving DecidableEq, Repr

/-- Where LOAD stands, R423, R429. -/
inductive LoadStep where
  /-- no LOAD in progress -/
  | idle
  /-- reading image A (false) or B (true); `second` when the other has failed -/
  | reading (img second : Bool)
  /-- checks 9-11 of the image -/
  | checking (img second : Bool)
  /-- the image passed; HBM or the tables are not done -/
  | building (img : Bool)
  deriving DecidableEq, Repr

/-- A steward exchange in progress, R439-R441. -/
inductive SwapStep where
  | idle
  | checking
  | library
  | gap (start : Nat) (reverting : Bool)
  deriving DecidableEq, Repr

/-- A 48-byte key slot, R426. -/
structure KeySlot where
  digest : Option (BitVec 384)
  revoked : Bool
  deriving DecidableEq, Repr

/-- Modes, the image and the exchanges, 13. -/
structure Alm where
  mode : Mode
  entry : Nat
  prev : Mode
  degCauses : BitVec 4
  load : LoadStep
  image : RawImage
  hbmTrained : Bool
  shadowBuf : RawImage
  /-- the shadow set that passed its checks, R431 -/
  armed : Option RawImage
  splitPending : Option (Nat × Bool)
  swap : SwapStep
  swapFw : Bool
  swapLib : Bool
  /-- accesses that a steward gap holds, oldest first, R441 -/
  held : List CsrAcc
  /-- a DRAIN request that waits for TAKEOVER or SWAP to end, R415 -/
  drainPending : Bool
  /-- DRAIN takes its boundary at once, R422 step 3 -/
  drainBoundary : Bool
  /-- DRAIN was asked for by OFF_GO (R501) -/
  drainByGo : Bool
  prevFw : Word
  runFw : Word
  newFw : Word
  keys : List KeySlot
  deriving DecidableEq, Repr

/-! ## Power and slots, 16 -/

/-- The steps of power-up, R503. -/
inductive PwrStep where
  | none | u1 | u2 | u3 | u4
  deriving DecidableEq, Repr

/-- An off request that waits for its power-up step to end, R503. -/
inductive OffReq where
  | none | byPin | byGo
  deriving DecidableEq, Repr

/-- Pins and power sequencing, 16. -/
structure Pwr where
  auxGood : Bool
  pwrGood : Bool
  sysRst : Bool
  offReq : Bool
  pwrEn : Bool
  pwrEnFell : Option Nat
  pwrGoodFell : Option Nat
  pgDeadline : Option Nat
  pgFails : Nat
  /-- 0 none, 1 MGMT_OFF, 2 LOAD_FAIL, 3 PG_TIMEOUT -/
  holdCause : Nat
  step : PwrStep
  offPending : OffReq
  haltOutN : Bool
  deriving DecidableEq, Repr

/-- SLOT_STATUS.STATE. -/
inductive SlotState where
  | empty | debounce | off | powering | on | retryWait | lockedOff | fetShort
  deriving DecidableEq, Repr

/-- One board slot, R507-R525. -/
structure Slot where
  state : SlotState
  cfg : Word
  limits : Word
  retries : Nat
  tripCause : Nat
  badWords : Nat
  /-- heat account in 1/1024 A²·ms -/
  heat : Nat
  inWord : BitVec 32
  noData : Nat
  attnWas : Bool
  echoWas : Bool
  absentRun : Nat
  absentFrom : Nat
  absent : Bool
  presentRun : Nat
  /-- commanded outputs -/
  en : Bool
  cutoff : Bool
  attnInd : Nat
  pwrInd : Nat
  perstN : Bool
  /-- the word last shifted into the controller's register -/
  shifted : BitVec 32
  /-- EN as it was commanded before the running frame (R520) -/
  enWas : Bool
  /-- EN and the boundary at which the controller last applied it -/
  enApplied : Bool
  enAt : Nat
  heatZeroAt : Nat
  tripped : Bool
  lockAfter : Bool
  onTime : Nat
  retryFrom : Option Nat
  retryNeed : Nat
  shortFrom : Option Nat
  failDeadline : Option Nat
  perstDeadline : Option Nat
  /-- a power-off: PERST_N is asserted, and has been shifted out (R523) -/
  offNext : Bool
  perstSent : Bool
  /-- the power-on in progress is sequenced by hardware (R523, R525) -/
  hwSeq : Bool
  /-- RETRIES has returned to 0 in an absence: the next attempt is a fresh one (R516) -/
  freshNext : Bool
  want : Bool
  cmdPending : Bool
  /-- the virtual bridge's Slot Control: Power Controller Control on, indicators (attention, power) -/
  pccOn : Bool
  vbAttn : Nat
  vbPwr : Nat
  attnPressed : Bool
  powerFault : Bool
  deriving DecidableEq, Repr

/-- The slot chain, R507-R512. -/
structure Chain where
  nSlots : Nat
  slots : Tbl Slot
  frames : Nat
  frameAt : Nat
  /-- step of the running frame: none, waiting for SC_IN since, or shifting -/
  waitSince : Option Nat
  shifting : Bool
  startedHigh : Bool
  applyNext : Bool
  marker : BitVec 32
  aborts : Nat
  markerErrs : Nat
  lastChainRec : Option Nat
  /-- a SLOTS program that waits for a frame boundary, R512 -/
  newProgram : Option (List (Word × Word))
  hpPosts : List Word
  /-- what a steward gap holds of hot-plug sequencing (R441): kind as in HP_REQ, slot, data, DTB -/
  gapNotes : List (Nat × Nat × Nat × Nat)
  deriving DecidableEq, Repr

/-! ## Temperature, 19 -/

/-- One temperature sensor, R572-R577. Samples are in quarter degrees. -/
structure Sensor where
  prev : Option Int
  bad : Nat
  failed : Bool
  deriving DecidableEq, Repr

/-- Throttling and pacing, 19. -/
structure Thermal where
  sensors : Tbl Sensor
  /-- stack -> level 0 FULL, 1 HALF, 2 QUARTER -/
  levels : Tbl Nat
  pacedWest : Bool
  pacedEast : Bool
  lastRec : Tbl Nat
  deriving DecidableEq, Repr

/-! ## Counters, 17 -/

/-- The counters and their snapshots, 17. A counter is named by its offset in the COUNTERS block's live view. -/
structure Cnt where
  live : Tbl Nat
  /-- queue words: DELIVERED and PASSED of each queue -/
  qDelivered : Tbl Nat
  qPassed : Tbl Nat
  frozen : Bool
  /-- every domain has acted on the freeze (COUNT_STATUS.FROZEN) -/
  frozenAll : Bool
  clearing : Bool
  front : Tbl Nat
  back : Option (Tbl Nat × Nat × Nat × Bool)
  snapTick : Nat
  snapDtb : Nat
  snapFrozen : Bool
  skipped : Nat
  skipEv : Bool
  lastSkipRec : Option Nat
  /-- retired slots that a freeze keeps from moving to TD_WASTED, R534: engine and count -/
  pendingMoves : Tbl Nat
  deriving DecidableEq, Repr

/-! ## JTAG and TEST, 18 -/

/-- The test port and the TEST block's work, 18. -/
structure Jtag where
  /-- the instruction that acts: BYPASS for one that acts as it in this mode -/
  ir : Nat
  accData : Word
  accOff : Nat
  accErr : Bool
  /-- BIST_SEL of the run in progress, R559 -/
  bistBusy : Option Nat
  /-- the key slot being written: its digest, or none for a revoke (R560) -/
  keyBusy : Option (Nat × Option (BitVec 384))
  /-- boundary-scan register as last sampled or driven -/
  scan : Nat
  deriving DecidableEq, Repr

/-! ## Link ports, 02 -/

/-- What a port's training and link logic hold beside the port's registers, 02. -/
structure Link where
  /-- an attempt (or, with LINK_UP = 1, a Recovery) is in progress since `attemptAt` -/
  attempting : Bool
  attemptAt : Nat
  /-- failed attempts in a row -/
  fails : Nat
  /-- the wait before the next attempt -/
  waitUntil : Option Nat
  /-- the 1 ms drain of a port whose ENABLE was cleared, R62 -/
  drainUntil : Option Nat
  /-- the 50 ms limit of ENABLE cleared during training, R62 -/
  trainOffUntil : Option Nat
  /-- highest rate left to this attempt after failed equalisations, R58 -/
  maxRate : Nat
  partner : PartnerKind
  /-- the partner completes 10-bit tags -/
  tag10 : Bool
  /-- the partner is bound: served to its host, or used as backing (R37, R41) -/
  bound : Bool
  /-- flits are dropped until the link is retrained, R48 -/
  ideDrop : Bool
  /-- the 8 ms answer window of an equalisation post, R56 -/
  eqUntil : Option Nat
  eqRate : Nat
  eqMargins : List Nat
  /-- the hardware's choice for the open measurement, as EQ_CTL stood when it was made (R55, R56) -/
  eqHw : Nat
  /-- EQ_CTL.BYPASS_EN as it stood when the attempt started (R54) -/
  bypassEn : Bool
  /-- the last rate at which this attempt has equalised, and whether it went there by equalisation bypass (R54) -/
  eqDone : Option Nat
  bypassed : Bool
  /-- an attempt on a link in service has failed below RATE_MIN: the link is to go down (R58, R61) -/
  lost : Bool
  /-- the port is contained, R154 -/
  contained : Bool
  deriving DecidableEq, Repr

/-! ## The tables of the almanac, 03 and 13 -/

/-- A window entry, 03. -/
structure Win where
  gen : Nat
  hbase : Nat
  host : Nat
  rw : Bool
  extCount : Nat
  extFirst : Nat
  dynamic : Bool
  iw : Nat
  ig : Nat
  tick : Bool
  shared : Bool
  mirror : Bool
  home : Nat
  devDma : Bool
  engine : Bool
  bswap : Nat
  dcRegion : Nat
  rbase : Nat
  tickId : Nat
  deriving DecidableEq, Repr

/-- The state of an extent entry. -/
inductive ExtSt where
  | absent | present | migrating
  deriving DecidableEq, Repr

/-- An extent entry, 03. -/
structure Ext where
  st : ExtSt
  gen : Nat
  pool : Nat
  newPool : Nat
  window : Nat
  deriving DecidableEq, Repr

/-- A backing entry, 03. TYPE 0 HBM, 1 LEGACY, 2 FABRIC, 3 ISL. -/
structure Backing where
  typ : Nat
  pbase : Nat
  plen : Nat
  ld : Nat
  dbase : Nat
  port : Nat
  pbr : Nat
  deriving DecidableEq, Repr

/-- A program version of the library, R357, 13: its code as 32-bit words. -/
structure Version where
  program : Nat
  version : Nat
  current : Bool
  withdraw : Bool
  code : List (BitVec 32)
  entry : Nat
  evec : Nat
  deriving DecidableEq, Repr

/-- The tables of the image as they stand: typed where the device itself changes them, else the entries' words by entry
index. -/
structure Tables where
  ttabMib : Nat
  granaryMib : Nat
  tallyMib : Nat
  reserve : Nat
  ports : Tbl (List Word)
  backings : Tbl Backing
  windows : Tbl Win
  extents : Tbl Ext
  contracts : Tbl (List Word)
  qCount : Nat
  qReserve : Nat
  queues : Tbl (List Word)
  versions : List Version
  dispatch : List Nat
  tickCtl : Word
  bellCtl : Word
  contribs : Tbl (List Word)
  pair : Option (List Word)
  twins : Tbl (List Word)
  nSlots : Nat
  slots : Tbl (List Word)
  security : Word
  split : Nat
  patch : List (List Word)
  counterAccess : Word
  engineAccess : Word
  snapEn : Bool
  fwVersion : Word
  deriving DecidableEq, Repr

/-! ## Twin pairs, 14 -/

/-- PAIR_STATUS.STATE. -/
inductive PairState where
  | none | waiting | syncing | formed | linkLost | partnerLost | dissolved
  deriving DecidableEq, Repr

/-- This member's copy of a set. -/
inductive CopyState where
  | current | syncing | stale
  deriving DecidableEq, Repr

/-- What a heartbeat last reported and what the pair logic holds, 14. `present` is false with no PAIR section. -/
structure Pair where
  present : Bool
  pairId : Nat
  member : Nat
  pairSerial : Word
  /-- (PBR, TWIN_PBR) of the PAIR section's entries -/
  twins : List (Nat × Nat)
  digest : BitVec 384
  state : PairState
  formCause : Nat
  /-- holder of each set: 0, 1, or 2 for none -/
  holder : List Nat
  copy : List CopyState
  claimed : List Bool
  peerStale : List Bool
  offline : List Bool
  missRun : Nat
  lastBeat : Nat
  /-- the end of the interval of the last miss (R455) -/
  missAt : Nat
  /-- when this member last sent a heartbeat, and last toggled its pin -/
  beatAt : Nat
  toggleAt : Nat
  dtbOffset : Int
  partnerMode : Option Nat
  partnerLinks : Nat
  aliveIn : Bool
  aliveOut : Bool
  pinSuspect : Bool
  waitUntil : Option Nat
  syncMib : Nat
  syncSet : Option Nat
  takeTick : Option (Nat × Nat)
  tkPost : Option Word
  tkTag : Nat
  tkOpen : Option (Nat × Nat)
  tkSets : Nat
  tkOffline : Nat
  tkDecided : Nat
  tkReady : Option Nat
  tkUntil : Option Nat
  decideNs : Nat
  readyNs : Nat
  /-- the set that MOVE_GO moves, and the tick that was open when it was written (R467) -/
  moveSet : Option (Nat × Nat)
  /-- what the partner applies at this boundary: the SHADOW_TARGET and digest of its armed set (R449) -/
  partnerSet : Option (Nat × BitVec 384)
  /-- the tick that was open when DISSOLVE was written (R468) -/
  dissolving : Option Nat
  deriving DecidableEq, Repr

/-! ## Messages out -/

/-- What the device sends, in order. -/
inductive Msg where
  /-- an EVENT message, R550 -/
  | event (off bit dtb : Nat)
  /-- a RECORD message, R477 -/
  | record (r : ErrRec)
  /-- an access of a path completed: read data, a write, or an error (R545) -/
  | readDone (p : Path) (off : Nat) (v : Word)
  | writeDone (p : Path) (off : Nat)
  | accessError (p : Path) (off : Nat) (code : Nat)
  /-- an MCTP response: tag, command, completion code, data -/
  | mctp (p : Path) (tag cmd code : Nat) (data : List Word)
  /-- a completion of a host's BAR access: data, or none for status UR -/
  | barCpl (port : Nat) (data : Option Word)
  /-- a PLDM sensor reading in quarter degrees -/
  | pldm (sensor : Nat) (value : Int)
  /-- a S2M answer to a host or to another device on an ISL link -/
  | memRsp (port tag : Nat) (m : S2M) (g : Grant)
  /-- a back-invalidate snoop for a host at a HOST port -/
  | biSnp (port tag host line : Nat) (t : SnpType)
  | biAck (port line : Nat)
  /-- a M2S request toward a partner: logical device, destination edge port of a tree (0: none) -/
  | memReq (port ld pbr : Nat) (r : MemReq)
  /-- a TLP on a link -/
  | tlp (port : Nat) (t : Tlp)
  /-- the message of R138: tag and kind of a failed write -/
  | islError (port tag : Nat) (k : ErrKind)
  /-- the takeover notice of R463: pair, failed member, sets taken, sets offline -/
  | takeoverNotice (port vendor pairId failed taken offline : Nat)
  /-- a partner's event record sent to the fabric manager (R168), and the notice of R169 -/
  | partnerEvent (port : Nat) (r : EvRec)
  /-- a backing partner's event interrupt is programmed to the device (R168) -/
  | eventProgram (port : Nat)
  /-- Get Event Records, or Clear Event Records, to a backing partner (R168) -/
  | eventRecords (port : Nat) (clear : Bool)
  /-- the interrupt that announces a record of a pool view's event log, on a HOST port (R137) -/
  | viewInterrupt (port : Nat) (sev : EvSev)
  /-- HDM decoder 0 of a partner's logical device is programmed: base 0, its size (R69) -/
  | decoderProgram (port ld size : Nat)
  /-- lines that the device writes of a pool extent behind a port: of a migration's copy, those that are not 0; an extent
  scrubbed is all 0 (R91, R92; assumption 34) -/
  | extentWrite (port ext : Nat) (lines : List (Nat × Line × Bool))
  | eventNotice (port : Nat)
  /-- a failed write of a PBR switch that is no Sirjo: the record of R137 in the fabric manager's event log (R138) -/
  | mediaEvent (port : Nat) (r : ViewRec)
  /-- messages on the twin link -/
  | twinLine (id line : Nat) (d : Line) (poison : Bool) (journal : Option (Nat × Nat)) (deadline : Nat)
  | twinAck (id : Nat)
  | twinSf (line : Nat) (e : Option Sf)
  | twinStage (id : Nat) (r : Rec) (tick : Nat)
  | twinMask (tick : Nat) (absent : List Nat)
  | twinCommitted (tick : Nat)
  | twinEvict (set : Nat)
  /-- a BISnp that the partner sends on its lowest-numbered port of the host (R451) -/
  | twinSnp (tag host line : Nat) (t : SnpType)
  | twinForward (id : Nat) (a : LAcc)
  | twinQueue (id q : Nat) (op : QOp)
  | twinQueueOp (id q : Nat) (op : QMirOp)
  | twinQueueAns (id : Nat) (a : QAns)
  | twinAnswer (id : Nat) (r : Answer)
  | twinHeartbeat (h : Heartbeat)
  | twinForm (m : FormMsg)
  | twinBoundary (instant : Nat)
  | twinMove (set : Nat)
  | twinDissolve
  | twinCopy (set : Nat) (c : SetCopy)
  /-- the DPC interrupt to the owning host: host port, legacy port, cause (R155) -/
  | dpcSignal (hostPort port cause : Nat)
  /-- what a Capture-DR of the JTAG port gives -/
  | jtagCapture (dr : Nat)
  /-- vendor steward behaviour at a slot: attention, power fault (R522, R523) -/
  | slotNotice (slot kind : Nat)
  deriving DecidableEq, Repr

end Sys2Proof.Machine
end

