-- ==== Sys2Proof/Machine/Fresh.lean ====
section
/-! DEFINITION. The units of the device as auxiliary power and LOAD leave them: what State.reset and LOAD put into State. Where
the spec names no reset value the value is 0, none or empty (assumption 8). -/
namespace Sys2Proof.Machine

/-- Data cells before the first: cell 0, the gap cells and the two record areas. -/
def firstDataCell : Nat := 1 + 262144 + 16384 + 16384

/-- The tables of no image. -/
def noTables : Tables :=
  { ttabMib := 16, granaryMib := 0, tallyMib := 0, reserve := 0, ports := [], backings := [], windows := [],
    extents := [], contracts := [], qCount := 0, qReserve := 0, queues := [], versions := [], dispatch := [],
    tickCtl := 0x000A0186A0000000#64, bellCtl := 0x400#64, contribs := [], pair := none, twins := [], nSlots := 0, slots := [],
    security := 0#64, split := 0, patch := [], counterAccess := 0#64, engineAccess := 0#64, snapEn := true,
    fwVersion := 0#64 }

/-- A port as the PORTS section creates it. -/
def newLink : Link :=
  { attempting := false, attemptAt := 0, fails := 0, waitUntil := none, drainUntil := none, trainOffUntil := none,
    maxRate := 6, partner := .host, tag10 := false, bound := false, ideDrop := false, eqUntil := none, eqRate := 0,
    eqMargins := [], eqHw := 0, bypassEn := false, eqDone := none, bypassed := false, lost := false, contained := false }

/-- A virtual bridge as LOAD leaves it (assumption 62). -/
def newLeg : Leg :=
  { tag10 := false, serr := false, dpcEn := 0, dpcUr := false, block := false, errCor := false, errNf := false, errF := false, uncorMask := 0x18, dpcInt := false, dpcErrCor := false, mps := 0, atomics := 0,
    aer := [], dpcStatus := false, dpcReason := 0, cause := 0, ctoRun := 0, pounding := false, intx := 0, intxOut := 0,
    tags := [], quar := [], egress := [], signal := none, deassert := none, hostWait := none, lastPound := none,
    lastLate := none, evtAt := none, lastCollect := 0, releasing := false }

/-- The translation state as LOAD leaves it. -/
def newXl : Xl :=
  { cache := [], walks := [], queue := [], fills := [], fillPosts := [], fillTag := 0, curGen := 0, migs := [], scrubs := [],
    dcAdd := [], dcDrop := [], dcOffer := [], dcRel := [], dcPosts := [], dcTag := 0, short := [], migBack := [], failed := [] }

/-- A channel as LOAD leaves it. -/
def newChan : Chan :=
  { st := 0, readQ := [], wbuf := [], reading := [], turn := 0, ptr := 0, owner := none, hints := [], refreshes := 0, paced := (0, 0), ceSecond := 0,
    ceCount := 0, ceRate := 0, lastCe := none, copied := 0 }

/-- A host as LOAD leaves it. -/
def newCoh : Coh := { st := .up, failRun := 0, everUp := false, goneAt := none, readmit := false, walking := false }

/-- An empty account. -/
def newAcct : TickAcct :=
  { dups := 0, violations := 0, absent := [], overrun := [], bell := false, bellMiss := false, late := false,
    takeover := false, fpNan := false, err := false }

/-- The queue unit as LOAD leaves it (R284, R423). -/
def newQUnit : QUnit :=
  { queues := [], prods := [], opens := [], freed := [], nextCell := firstDataCell, busy := [], waits := [], rounds := [],
    notices := [], noticeLost := false, lastLost := none, lastNoCell := none, fwd := [] }

/-- The mill as LOAD leaves it. -/
def newMill : Mill :=
  { engs := [], caches := [], ptrs := [], selections := [], asks := 0, answers := [], holds := [], windows := [], posts := [],
    tag := 0, lastFallback := [] }

/-- A member as a LOAD without a PAIR section leaves it; the alive pins are of D0. -/
def newPair : Pair :=
  { present := false, pairId := 0, member := 0, pairSerial := 0#64, twins := [], digest := 0#384, state := .none, formCause := 0,
    holder := [2, 2], copy := [.current, .current], claimed := [false, false], peerStale := [false, false],
    offline := [false, false], missRun := 0, lastBeat := 0, missAt := 0, beatAt := 0, toggleAt := 0, dtbOffset := 0, partnerMode := none,
    partnerLinks := 0, aliveIn := false, aliveOut := false, pinSuspect := false, waitUntil := none, syncMib := 0,
    syncSet := none, takeTick := none, tkPost := none, tkTag := 0, tkOpen := none, tkSets := 0, tkOffline := 0, tkDecided := 0,
    tkReady := none, tkUntil := none, decideNs := 0, readyNs := 0, moveSet := none, partnerSet := none, dissolving := none }

/-- No throttling, every sensor without a sample. -/
def newThermal : Thermal := { sensors := [], levels := [], pacedWest := false, pacedEast := false, lastRec := [] }

/-- The counters as LOAD leaves them. -/
def newCnt : Cnt :=
  { live := [], qDelivered := [], qPassed := [], frozen := false, frozenAll := false, clearing := false, front := [], back := none,
    snapTick := 0, snapDtb := 0, snapFrozen := false, skipped := 0, skipEv := false, lastSkipRec := none, pendingMoves := [] }

/-- The RAS state without a record: SEQ and VSEQ start at 1 (R473, R496). -/
def newRas : Ras :=
  { inbox := [], stwInbox := [], waiting := [], nextSeq := 1, rings := [], windows := [], slots := [], slotUsed := 0, slotLost := 0,
    locks := [], vlog := [], vprod := 0, vcons := 0, vovf := 0, vseq := 1, haltRec := none, escPosts := [],
    escTag := 0, escOpen := [], isoPorts := [], isoClusters := [], isoStewards := 0, isoOther := [], wdog := [], restarts := [],
    lastOverrunRec := none }

/-- Clocks with D0 alone running (R393, R407). -/
def newClk : Clk :=
  { dtb := 0, auxOsc := false, running := 1#18, locked := 1#18, followers := [], maxLag := 0, errDom := 0#18, instants := [],
    pulses := [] }

/-- A key slot that is not programmed. -/
def newKey : KeySlot := { digest := none, revoked := false }

/-- AUX after OFF, with no image and no key. -/
def newAlm : Alm :=
  { mode := .aux, entry := 0, prev := .off, degCauses := 0#4, load := .idle, image := [], hbmTrained := false, shadowBuf := [],
    armed := none, splitPending := none, swap := .idle, swapFw := false, swapLib := false, held := [],
    drainPending := false, drainBoundary := false, drainByGo := false, prevFw := 0#64, runFw := 0#64, newFw := 0#64,
    keys := [newKey, newKey, newKey, newKey] }

/-- The pins when auxiliary power has just arrived: no main power, no reset and no off request (assumption 9). -/
def newPwr : Pwr :=
  { auxGood := true, pwrGood := false, sysRst := false, offReq := false, pwrEn := false, pwrEnFell := none, pwrGoodFell := none,
    pgDeadline := none, pgFails := 0, holdCause := 0, step := .none, offPending := .none, haltOutN := true }

/-- A slot chain without slots. -/
def newChain : Chain :=
  { nSlots := 0, slots := [], frames := 0, frameAt := 0, waitSince := none, shifting := false, startedHigh := false,
    applyNext := false, marker := 0#32, aborts := 0, markerErrs := 0, lastChainRec := none, newProgram := none, hpPosts := [], gapNotes := [] }

/-- The test port with IDCODE selected. -/
def newJtag : Jtag := { ir := 1, accData := 0#64, accOff := 0, accErr := false, bistBusy := none, keyBusy := none, scan := 0 }

/-- A bridge without trackers. -/
def newBridge : Bridge :=
  { trks := [], waiting := [], items := [], nextItem := 0, ctxs := [], legs := [], egress := [], seqs := [], high := [],
    lastLateTrk := [], views := [], viewOvf := [], viewSignal := [], viewAer := [], islDone := [], wires := [], intxPort := [], secBus := [], rwd := [] }

/-- Empty rings; `ctl` is ARB_CTL as in effect. -/
def newRings : Rings :=
  { wait := [], flight := [], arrived := [], own := [], pool := [], back := [], arbs := [], planes := [], drops := [], frame := 0,
    rsv := [], eff := [], next := none, dirty := false, engAns := [], ctl := 2#64 }

/-- HBM of zeros and a home without entries (R423 step 2). -/
def newHome : Home :=
  { mem := [], poisoned := [], entries := [], waiting := [], chWait := [], sf := [], cached := [], setReads := [], dirty := [], snoops := [],
    snpTag := 0, cohs := [], evicts := [], evictPosts := [], evictTag := 0, lateBi := 0, asked := [], askedBy := [], chans := [], moved := [],
    mirWaits := [], mirPoison := [], mirTag := 0, journal := [], patrol := 0 }

/-- A tick unit that has not started. -/
def newTick : Tick :=
  { running := false, bellCtl := 0x400#64, num := 0, published := 0, lastBoundary := 0, nextNominal := 0, contribs := [], open_ := [],
    closed := [], openAcct := newAcct, closedAcct := newAcct, openDups := [], committing := false, defer := .none,
    tags := [], baseTag := [], slot1 := [], slot1Poison := [], reports := [], edge := none, missRun := 0, noWait := false,
    lastOffset := 0, bellOutUntil := none, inbox := [], mirrorOwed := false, maskIn := [], reported := false, early := [], walkAt := 0 }

end Sys2Proof.Machine
end

