-- ==== Sys2Proof/Machine/State.lean ====
section
/-! DEFINITION. The state of the device: its parts, the waiting commands and what it has sent. -/
namespace Sys2Proof.Machine

/-- Why the machine stops. No rule of the spec stops the device's own behaviour: a halt is a mode (R420). -/
inductive Fault where
  /-- Raised by no meaning: the type is kept for the host's interface. Safe. -/
  | none
  deriving DecidableEq, Repr

/-- Why a command has no meaning. -/
inductive Refusal where
  /-- Raised by the dispatch for a command that has no meaning yet. Safe. -/
  | notModelled (mnemonic : String)
  deriving DecidableEq, Repr

/-! ## The whole device -/

/-- The state of the device. -/
structure State where
  /-- commands that wait, first in first out -/
  pending : List Instr
  /-- what the device has sent, oldest first -/
  out : List Msg
  /-- messages that a steward gap holds, R441 -/
  gapHeld : List Msg
  /-- how many free values the run has taken -/
  fresh : Nat
  /-- the register bank: registers whose value is not their reset value, by control-space offset -/
  regs : Tbl Word
  clk : Clk
  alm : Alm
  pwr : Pwr
  chain : Chain
  ras : Ras
  therm : Thermal
  cnt : Cnt
  jtag : Jtag
  tabs : Tables
  links : Tbl Link
  pair : Pair
  bridge : Bridge
  xl : Xl
  rings : Rings
  home : Home
  tick : Tick
  qu : QUnit
  mill : Mill
  deriving DecidableEq, Repr

/-- The machine right after auxiliary power has arrived: AUX, with the core partition in reset (R414, R425). -/
def State.reset : State :=
  { pending := [], out := [], gapHeld := [], fresh := 0, regs := [], clk := newClk, alm := newAlm, pwr := newPwr, chain := newChain,
    ras := newRas, therm := newThermal, cnt := newCnt, jtag := newJtag, tabs := noTables, links := [], pair := newPair,
    bridge := newBridge, xl := newXl, rings := newRings, home := newHome, tick := newTick, qu := newQUnit, mill := newMill }

end Sys2Proof.Machine
end

