-- ==== Sys2Proof/Machine/Table.lean ====
section
/-! DEFINITION. Operations over sparse tables: keys strictly rising, so that equal tables are equal data. -/
namespace Sys2Proof.Machine

/-- The value at a key, if the key is listed. -/
def tget {α : Type} : Tbl α → Nat → Option α
  | [], _ => none
  | (k', v) :: r, k => if k' = k then some v else tget r k

/-- The value at a key, or a default. -/
def tgetD {α : Type} (t : Tbl α) (k : Nat) (d : α) : α := (tget t k).getD d

/-- Store a value at a key. -/
def tset {α : Type} : Tbl α → Nat → α → Tbl α
  | [], k, v => [(k, v)]
  | (k', v') :: r, k, v =>
    if k < k' then (k, v) :: (k', v') :: r
    else if k = k' then (k, v) :: r
    else (k', v') :: tset r k v

/-- Remove a key. -/
def terase {α : Type} : Tbl α → Nat → Tbl α
  | [], _ => []
  | (k', v) :: r, k => if k' = k then terase r k else (k', v) :: terase r k

/-- Store a value, or remove the key when the value is the one an unlisted key reads as. -/
def tput {α : Type} [DecidableEq α] (d : α) (t : Tbl α) (k : Nat) (v : α) : Tbl α :=
  if v = d then terase t k else tset t k v

/-- Change the value at a listed key; an unlisted key is left unlisted. -/
def tmod {α : Type} (t : Tbl α) (k : Nat) (f : α → α) : Tbl α :=
  match tget t k with
  | some v => tset t k (f v)
  | none => t

/-- The keys of a table are strictly rising and above `lo`. -/
def tsortedFrom {α : Type} : Nat → Tbl α → Bool
  | _, [] => true
  | lo, (k, _) :: r => decide (lo ≤ k) && tsortedFrom (k + 1) r

/-- The keys of a table are strictly rising. -/
def tsorted {α : Type} (t : Tbl α) : Bool := tsortedFrom 0 t

/-- Table with `d` as the value of an unlisted key: strictly rising keys and no entry equal to `d`. -/
def tcanon {α : Type} [DecidableEq α] (d : α) (t : Tbl α) : Bool :=
  tsorted t && t.all (fun p => decide (p.2 ≠ d))

/-- The lowest number from `lo` up, below `lo + n`, that is not a key. -/
def tfree {α : Type} (t : Tbl α) (lo : Nat) : Nat → Option Nat
  | 0 => none
  | n + 1 => if (tget t lo).isNone then some lo else tfree t (lo + 1) n

/-- Keep the entries that meet a test. -/
def tfilter {α : Type} (p : Nat → α → Bool) (t : Tbl α) : Tbl α := t.filter (fun e => p e.1 e.2)

/-- Change every entry. -/
def tmap {α : Type} (f : Nat → α → α) (t : Tbl α) : Tbl α := t.map (fun e => (e.1, f e.1 e.2))

/-- Remove the element at a place of a list. -/
def dropAt {α : Type} : List α → Nat → List α
  | [], _ => []
  | _ :: r, 0 => r
  | a :: r, n + 1 => a :: dropAt r n

/-- Replace the element at a place of a list. -/
def setAt {α : Type} : List α → Nat → α → List α
  | [], _, _ => []
  | _ :: r, 0, b => b :: r
  | a :: r, n + 1, b => a :: setAt r n b

end Sys2Proof.Machine
end

