-- ==== Sys2Proof/Machine/Ops.lean ====
section
/-! DEFINITION. The named operations that every chapter's meanings are made of: reading and writing the register
bank, events and messages, error records, the violation log, time, counters, free values. -/
namespace Sys2Proof.Machine

/-- Every register of the device (the register index, 18). -/
def allRegs : List RegDef :=
  regsGlobal ++ regsClock ++ regsPort ++ regsXlate ++ regsRas ++ regsPair ++ regsPower ++ regsCount ++ regsAlmanac
    ++ regsTest ++ regsBridge ++ regsBx ++ regsHome ++ regsTick ++ regsArb ++ regsQueue ++ regsMill

/-- Does the register (or register array) lie at this 64-bit aligned offset? -/
def RegDef.holds (d : RegDef) (off : Nat) : Bool :=
  decide (d.base ≤ off) && decide ((off - d.base) % d.stride = 0) && decide ((off - d.base) / d.stride < d.count)

/-- The register at an offset. -/
def regAt (off : Nat) : Option RegDef := allRegs.find? (·.holds off)

/-- The reset value of the register at an offset; 0 where there is none (R17). -/
def resetValue (off : Nat) : Word := ((regAt off).map RegDef.reset).getD 0#64

namespace State

/-- The stored value of a register. -/
def rd (s : State) (off : Nat) : Word := (tget s.regs off).getD (resetValue off)

/-- Store a register. -/
def wr (off : Nat) (v : Word) (s : State) : State := { s with regs := tput (resetValue off) s.regs off v }

/-- A field of a stored register. -/
def rf (s : State) (off hi lo : Nat) : Nat := fld (s.rd off) hi lo

/-- A bit of a stored register. -/
def rb (s : State) (off i : Nat) : Bool := bitAt (s.rd off) i

/-- Store a field of a register. -/
def wf (off hi lo v : Nat) (s : State) : State := s.wr off (setFld (s.rd off) hi lo v)

/-- Store a bit of a register. -/
def wb (off i : Nat) (b : Bool) (s : State) : State := s.wr off (putBit (s.rd off) i b)

/-- Send something. -/
def emit (m : Msg) (s : State) : State := { s with out := s.out ++ [m] }

/-- Send several things in order. -/
def emits (ms : List Msg) (s : State) : State := { s with out := s.out ++ ms }

/-- The master DTB: the time at which the current command acts (assumption 2). -/
def now (s : State) : Nat := s.clk.dtb

/-- Time has reached `t`: the DTB is at least `t`. It never steps back (R393). Assumption 2 (assumption 2). -/
def reach (t : Nat) (s : State) : State := { s with clk.dtb := max s.clk.dtb t }

/-- Take the next free value of the run (assumption 4). -/
def free (s : State) : Word × State := (Config.freeValue s.fresh, { s with fresh := s.fresh + 1 })

/-- Take the next free line of the run (assumption 4). -/
def freeLine (s : State) : Line × State := (Config.freeLine s.fresh, { s with fresh := s.fresh + 1 })

/-- The operating mode. -/
def mode (s : State) : Mode := s.alm.mode

end State

/-- The mode codes of R414. -/
def Mode.code : Mode → Nat
  | .off => 0 | .aux => 1 | .load => 2 | .train => 3 | .solo => 4 | .paired => 5 | .takeover => 6 | .degraded => 7
  | .swap => 8 | .drain => 9 | .test => 10 | .halt => 11

/-- SOLO, PAIRED, TAKEOVER, DEGRADED and SWAP: the modes of full service. -/
def Mode.serves : Mode → Bool
  | .solo | .paired | .takeover | .degraded | .swap => true
  | .off | .aux | .load | .train | .drain | .test | .halt => false

/-- The modes in which a port trains (R52). -/
def Mode.trains : Mode → Bool
  | .train => true
  | m => m.serves

/-- The modes in which traffic of links in service is carried: TRAIN (R25) to DRAIN. -/
def Mode.carries : Mode → Bool
  | .drain => true
  | m => m.trains

/-- The modes from LOAD to HALT, TEST apart (R419). -/
def Mode.loadToHalt : Mode → Bool
  | .load | .halt => true
  | m => m.carries

/-- SOLO, PAIRED and DEGRADED: the modes that take shadow sets, exchanges, handovers and DRAIN (R431, R437, R439). -/
def Mode.steady : Mode → Bool
  | .solo | .paired | .degraded => true
  | _ => false

/-- Is function `f` (1-10) of the function split host-assisted (R436)? SPLIT_STATUS.HOST_ASSIST is its one home. -/
def State.assist (s : State) (f : Nat) : Bool := s.rb Reg.splitStatus (f - 1)

/-! ## Events and messages, R550 -/

/-- Is a steward gap in progress (R441)? -/
def State.inGap (s : State) : Bool := match s.alm.swap with | .gap _ _ => true | _ => false

/-- Has FM_ROUTE a usable link (R550, R556)? A bus that gives no acknowledgement is not modelled (assumption 7). -/
def State.fmUsable (s : State) : Bool :=
  s.rb Reg.fmRoute 63 &&
    (s.rf Reg.fmRoute 57 56 == 1 ||
      (s.rf Reg.fmRoute 57 56 == 2 &&
        (let p := s.rf Reg.fmRoute 40 32
         s.rf (Reg.portCfg p) 2 0 == 1 && s.rb (Reg.portCfg p) 31 && s.rb (Reg.linkStatus p) 9)))

/-- Count an EVENT or RECORD message that is not sent (EVT_MSG_STATUS.DROPPED, R7). -/
def State.dropMsg (s : State) : State := s.wf Reg.evtMsgStatus 63 32 (satAdd 32 (s.rf Reg.evtMsgStatus 63 32) 1)

/-- Send an EVENT or RECORD message to the fabric manager: held in a steward gap, up to 256 (R441), and not sent with
no usable route (R550, R556). -/
def State.toFm (m : Msg) (s : State) : State :=
  if s.inGap then
    if s.gapHeld.length < 256 then { s with gapHeld := s.gapHeld ++ [m] }
    else (s.wb Reg.almEvents 9 true).dropMsg
  else if s.fmUsable then s.emit m else s.dropMsg

/-- Set a bit of an events register. When it rises with its DELIVER bit 1, an EVENT message goes out (R550). The mask
register lies 8 bytes above the events register in every block. -/
def State.setEvent (ev bit : Nat) (s : State) : State :=
  if s.rb ev bit then s
  else
    let s := s.wb ev bit true
    if s.rb (ev + 8) bit then s.toFm (.event ev bit s.now) else s

/-! ## Error records, R472 -/

/-- Severity codes. -/
def Sev.code : Sev → Nat
  | .corrected => 1 | .deferred => 2 | .contained => 3 | .fatalUnit => 4 | .fatalDevice => 5

/-- The severity of a code, capped at FATAL_DEVICE. -/
def Sev.ofCode : Nat → Sev
  | 0 | 1 => .corrected | 2 => .deferred | 3 => .contained | 4 => .fatalUnit | _ => .fatalDevice

/-- Source unit codes. -/
def UnitKind.code : UnitKind → Nat
  | .port => 1 | .pipeline => 2 | .legacy => 3 | .xlate => 4 | .channel => 5 | .home => 6 | .host => 7 | .tick => 8
  | .ring => 9 | .queue => 10 | .engine => 11 | .cluster => 12 | .domain => 13 | .almanac => 14 | .pair => 15
  | .slot => 16 | .steward => 17 | .ras => 18 | .counters => 19

/-- The notice classes of R485. -/
def isNotice (cls : Nat) : Bool :=
  [0x10, 0x11, 0x12, 0x27, 0x34, 0x41, 0x42, 0x43, 0x51, 0x52, 0x53, 0x74].contains cls
    || (decide (0x90 ≤ cls) && decide (cls ≤ 0x95)) || (decide (0xA0 ≤ cls) && decide (cls ≤ 0xA5))
    || (decide (0xB1 ≤ cls) && decide (cls ≤ 0xB4))

/-- A record as its unit writes it: the time, the class, its class's severity, the source, the information bytes. -/
def mkRec (s : State) (cls : Nat) (sev : Sev) (unit : UnitKind) (inst info : Nat) : ErrRec :=
  { dtb := s.now, seq := 0, cls, sev, clsSev := sev, lastResort := false, unit, inst, host := none, port := none,
    addr := none, info, prevSeq := 0 }

/-- A unit writes a record: it goes to the error logger EL_W (R473, R476). -/
def State.raiseRec (r : ErrRec) (s : State) : State := { s with ras.inbox := s.ras.inbox ++ [r] }

/-- A unit writes a record with information bytes only. -/
def State.raise (cls : Nat) (sev : Sev) (unit : UnitKind) (inst info : Nat) (s : State) : State :=
  s.raiseRec (mkRec s cls sev unit inst info)

/-- Set a bit of LINK_EVENTS, XLATE_EVENTS or BRIDGE_EVENTS: the event message, and the CORRECTED record of the class
that DELIVER calls for (0x10, 0x11, 0x12), the bit number in byte 0. -/
def State.setRecEvent (ev bit cls : Nat) (unit : UnitKind) (inst : Nat) (s : State) : State :=
  if s.rb ev bit then s
  else
    let s' := s.setEvent ev bit
    if s.rb (ev + 8) bit then s'.raise cls .corrected unit inst bit else s'

/-- Set a LINK_EVENTS bit of a port. -/
def State.linkEvent (p bit : Nat) (s : State) : State := s.setRecEvent (Reg.linkEvents p) bit 0x10 .port p

/-- Set an XLATE_EVENTS bit; `die` is the die on which it arose. -/
def State.xlateEvent (bit die : Nat) (s : State) : State := s.setRecEvent Reg.xlateEvents bit 0x11 .xlate die

/-! ## Counters, R526, R527 -/

/-- Add to a counter of `bits` bits unless the counters are frozen (R535); it saturates (R7, R527). -/
def State.count (off bits n : Nat) (s : State) : State :=
  if s.cnt.frozen then s
  else { s with cnt.live := tput 0 s.cnt.live off (satAdd bits (tgetD s.cnt.live off 0) n) }

/-- A counter that holds the longest or largest value seen. -/
def State.countMax (off n : Nat) (s : State) : State :=
  if s.cnt.frozen then s
  else { s with cnt.live := tput 0 s.cnt.live off (max (tgetD s.cnt.live off 0) (min n (2 ^ 32 - 1))) }

/-- The live offset of a port's counter set, R529 (its alias in the COUNTERS block). -/
def cntPort (p k : Nat) : Nat := 0x20000 + 0x100 * p + k
/-- The live offset of a host's account, R531. -/
def cntHost (h k : Nat) : Nat := 0x10000 + 0x80 * h + k

/-- A queue, host or slot is back in service, R487. -/
def State.unisolate (u : UnitKind) (i : Nat) (s : State) : State :=
  { s with ras.isoOther := s.ras.isoOther.filter (fun e => e != (u, i)) }

/-! ## The violation log, R495, R496 -/

/-- One violation: an entry, or a lost entry that still takes a VSEQ. -/
def State.violation (v : VioRec) (s : State) : State :=
  let v := { v with dtb := s.now, vseq := s.ras.vseq }
  let s := { s with ras.vseq := (s.ras.vseq + 1) % 2 ^ 32 }
  let s := s.count 0x10C8 48 1
  let s := s.count (cntHost v.host 0x58) 48 1
  if (s.ras.vprod + 2 ^ 32 - s.ras.vcons) % 2 ^ 32 ≥ 4096 then
    { s with ras.vovf := satAdd 32 s.ras.vovf 1 }.setEvent Reg.rasEvents 1
  else
    { s with ras.vlog := tset s.ras.vlog (s.ras.vprod % 4096) v,
             ras.vprod := (s.ras.vprod + 1) % 2 ^ 32 }.setEvent Reg.rasEvents 2

/-! ## Mailboxes, R82 -/

/-- A 64-bit read of a mailbox register: the oldest post, or 0, and the posts left. -/
def mailRead : List Word → Word × List Word
  | [] => (0#64, [])
  | w :: r => (w, r)

/-! ## Ports -/

/-- PORT_CFG.ROLE: 0 no port, 1 HOST, 2 FABRIC-DEVICE, 3 LEGACY-DEVICE, 4 ISL, 5 TWIN. -/
def State.role (s : State) (p : Nat) : Nat := s.rf (Reg.portCfg p) 2 0

/-- Is the port's link up? -/
def State.linkIsUp (s : State) (p : Nat) : Bool := s.rb (Reg.linkStatus p) 9

/-- The ports of the PORTS section, in ascending number. -/
def State.portList (s : State) : List Nat := s.links.map (·.1)

/-- The ports of a role. -/
def State.portsOf (s : State) (r : Nat) : List Nat := s.portList.filter (fun p => s.role p == r)

/-- The HOST ports of a host, in ascending number. -/
def State.hostPorts (s : State) (h : Nat) : List Nat :=
  (s.portsOf 1).filter (fun p => s.rf (Reg.portCfg p) 45 40 == h)

/-- A host's lowest-numbered HOST port with LINK_UP = 1. -/
def State.hostUpPort (s : State) (h : Nat) : Option Nat := (s.hostPorts h).find? s.linkIsUp

end Sys2Proof.Machine
end

