-- ==== Sys2Proof/Machine/Image.lean ====
section
/-! DEFINITION. The almanac image: its binary format, the checks of R429 and the tables it gives (13). -/
namespace Sys2Proof.Machine

/-! ## Bytes of an image -/

/-- The 64-bit word at byte offset `8 * i`. -/
def imgWord (img : RawImage) (i : Nat) : Word := tgetD img i 0#64

/-- The byte at an offset. -/
def imgByte (img : RawImage) (off : Nat) : Byte := byteOf (imgWord img (off / 8)) (off % 8)

/-- `n` bytes from an offset. -/
def imgBytes (img : RawImage) (off n : Nat) : List Byte := (List.range n).map (fun k => imgByte img (off + k))

/-- The little-endian number of `n` bytes at an offset (R4). -/
def imgNat (img : RawImage) (off n : Nat) : Nat := leNat (imgBytes img off n)

/-- A 384-bit number under R4. -/
def imgBig (img : RawImage) (off : Nat) : BitVec 384 := BitVec.ofNat 384 (imgNat img off 48)

/-- A section table entry. -/
structure Sect where
  typ : Nat
  flags : Nat
  off : Nat
  len : Nat
  crc : Nat
  deriving DecidableEq, Repr

def sectAt (img : RawImage) (i : Nat) : Sect :=
  let o := 0x200 + 32 * i
  { typ := imgNat img o 1, flags := imgNat img (o + 1) 1, off := imgNat img (o + 4) 4, len := imgNat img (o + 8) 4,
    crc := imgNat img (o + 12) 4 }

/-- SECTION_COUNT, and the used entries. -/
def sectCount (img : RawImage) : Nat := imgNat img 6 2
def sects (img : RawImage) : List Sect := (List.range (sectCount img)).map (sectAt img)

/-- The index of the section of a type, and the section. -/
def sectOf (img : RawImage) (typ : Nat) : Option (Nat × Sect) :=
  ((List.range (sectCount img)).map (fun i => (i, sectAt img i))).find? (fun e => e.2.typ == typ)

/-- ENTRY_SIZE and ENTRY_COUNT of a section. -/
def entrySize (img : RawImage) (x : Sect) : Nat := imgNat img x.off 2
def entryCount (img : RawImage) (x : Sect) : Nat := imgNat img (x.off + 4) 4

/-- PATCH. -/
def Sect.patch (x : Sect) : Bool := x.flags % 2 == 1

/-- Bytes 8.. of the preamble. -/
def preNat (img : RawImage) (x : Sect) (off n : Nat) : Nat := imgNat img (x.off + off) n
def preWord (img : RawImage) (x : Sect) (off : Nat) : Word := BitVec.ofNat 64 (preNat img x off 8)

/-- The entries of a section whose ENTRY_SIZE is a multiple of 8: index and words. With PATCH each entry carries its
index. -/
def entriesOf (img : RawImage) (x : Sect) : List (Nat × List Word) :=
  let n := entrySize img x
  let stride := if x.patch then n + 8 else n
  (List.range (entryCount img x)).map (fun i =>
    let o := x.off + 64 + i * stride
    let idx := if x.patch then imgNat img o 4 else i
    let o := if x.patch then o + 8 else o
    (idx, (List.range (n / 8)).map (fun k => BitVec.ofNat 64 (imgNat img (o + 8 * k) 8))))

/-- ENTRY_SIZE of each section type; 0 for a section without entries. -/
def wantEntrySize (typ : Nat) : Nat :=
  match typ with
  | 0x02 | 0x03 | 0x04 | 0x08 | 0x0B => 32
  | 0x05 | 0x07 => 16
  | 0x06 | 0x0E => 24
  | 0x09 | 0x0A => 8
  | 0x10 => 1
  | _ => 0

/-! ## Checks 1-8, R426, R429 -/

/-- Are the bytes from `lo` to `hi - 1`, whole words, zero? -/
def zeroWords (img : RawImage) (lo hi : Nat) : Bool :=
  img.all (fun e => !(decide (lo ≤ 8 * e.1) && decide (8 * e.1 < hi)) || e.2 == 0#64)

/-- IMAGE_LEN. -/
def imageLen (img : RawImage) : Nat := imgNat img 8 4

/-- Check 2: MAGIC is "KSAL" (R5). -/
def magicOk (img : RawImage) : Bool := imgBytes img 0 4 == [0x4B#8, 0x53#8, 0x41#8, 0x4C#8]

/-- Check 3: format, section count, reserved header bytes. -/
def formatOk (img : RawImage) : Bool :=
  imgNat img 4 1 == 1 && imgNat img 5 1 == 0 && decide (4 ≤ sectCount img) && decide (sectCount img ≤ 16)
    && zeroWords img 0x18 0x20 && zeroWords img 0x110 0x200 && zeroWords img 0x400 0x1000

/-- The same for a shadow set or an exchange image, which need not hold four sections. -/
def formatOkSet (img : RawImage) : Bool :=
  imgNat img 4 1 == 1 && imgNat img 5 1 == 0 && decide (1 ≤ sectCount img) && decide (sectCount img ≤ 16)
    && zeroWords img 0x18 0x20 && zeroWords img 0x110 0x200 && zeroWords img 0x400 0x1000

/-- Check 4, R426: slot KEY_INDEX is programmed, not revoked, and holds the digest of the public key. -/
def keyOk (keys : List KeySlot) (img : RawImage) : Bool :=
  match keys[imgNat img 0xC 4]? with
  | some k => !k.revoked && k.digest == some (Config.sha384 (imgBytes img 0xB0 96))
  | none => false

/-- Do two byte ranges overlap? -/
def overlap (a b : Nat × Nat) : Bool := decide (a.1 < b.1 + b.2) && decide (b.1 < a.1 + a.2)

/-- Does any pair of ranges in a list overlap? -/
def anyOverlap : List (Nat × Nat) → Bool
  | [] => false
  | r :: l => l.any (overlap r) || anyOverlap l

/-- Has a list no value twice? -/
def distinct {α : Type} [DecidableEq α] : List α → Bool
  | [] => true
  | a :: l => !l.contains a && distinct l

/-- Check 5: types once each, sections within the image, aligned, apart; unused entries zero. `patchOk` tells whether
PATCH may be 1; `need` and `ban` are the types that must and must not appear. -/
def tableOk (patchOk : Bool) (need ban : List Nat) (img : RawImage) : Bool :=
  let l := sects img
  l.all (fun x => decide (1 ≤ x.typ) && decide (x.typ ≤ 0x10) && decide (x.flags ≤ (if patchOk then 1 else 0))
      && decide (0x1000 ≤ x.off) && x.off % 64 == 0 && x.len % 64 == 0 && decide (64 ≤ x.len)
      && decide (x.off + x.len ≤ imageLen img) && !ban.contains x.typ)
    && distinct (l.map Sect.typ) && !anyOverlap (l.map (fun x => (x.off, x.len)))
    && need.all (fun t => (l.map Sect.typ).contains t)
    && zeroWords img (0x200 + 32 * sectCount img) 0x400

/-- Check 6: the first section whose CRC-32C differs. -/
def crcBad (img : RawImage) : Option Nat :=
  (List.range (sectCount img)).find? (fun i =>
    let x := sectAt img i
    (crc32c (imgBytes img x.off x.len)).toNat != x.crc)

/-- Check 7: DIGEST is the SHA-384 of bytes 0x000-0x01F, 0x110-0xFFF and 0x1000 to IMAGE_LEN - 1. -/
def digestOf (img : RawImage) : BitVec 384 :=
  Config.sha384 (imgBytes img 0 0x20 ++ imgBytes img 0x110 0xEF0 ++ imgBytes img 0x1000 (imageLen img - 0x1000))
def digestOk (img : RawImage) : Bool := digestOf img == imgBig img 0x20

/-- Check 8: the ECDSA P-384 signature over DIGEST. -/
def signatureOk (img : RawImage) : Bool :=
  Config.ecdsaP384 (imgBig img 0x20) (imgBig img 0x50) (imgBig img 0x80) (imgBig img 0xB0) (imgBig img 0xE0)

/-- R429, checks 1-8 of a flash image: the cause code and the section entry index (0xFF: none). -/
def readChecks (keys : List KeySlot) (answers : Bool) (img : RawImage) : Option (Nat × Nat) :=
  if !answers || decide (imageLen img < 4160) || decide (67108864 < imageLen img) then some (1, 0xFF)
  else if !magicOk img then some (2, 0xFF)
  else if !formatOk img then some (3, 0xFF)
  else if !keyOk keys img then some (4, 0xFF)
  else if !tableOk false [0x01, 0x02, 0x0C, 0x10] [] img then some (5, 0xFF)
  else match crcBad img with
    | some i => some (6, i)
    | none =>
      if !digestOk img then some (7, 0xFF)
      else if !signatureOk img then some (8, 0xFF)
      else none

/-! ## The tables of an image -/

/-- A window entry from its four words. -/
def winOf (w : List Word) : Win :=
  let a := w.getD 0 0#64; let b := w.getD 1 0#64; let c := w.getD 2 0#64; let d := w.getD 3 0#64
  { gen := fld a 55 52, hbase := fld a 51 28, host := fld a 13 8, rw := bitAt a 0, extCount := fld b 43 24,
    extFirst := fld b 18 0, dynamic := bitAt c 24, iw := fld c 23 20, ig := fld c 19 16, tick := bitAt c 15,
    shared := bitAt c 14, mirror := bitAt c 13, home := fld c 12 12, devDma := bitAt c 11, engine := bitAt c 10,
    bswap := fld c 9 8, dcRegion := fld c 2 0, rbase := fld d 51 28, tickId := fld d 5 0 }

/-- An extent entry from its two words. -/
def extOf (w : List Word) : Ext :=
  let a := w.getD 0 0#64; let b := w.getD 1 0#64
  { st := match fld a 63 62 with | 1 => .present | 2 => .migrating | _ => .absent, gen := fld a 59 56,
    pool := fld a 46 28, newPool := fld b 46 28, window := fld a 11 0 }

/-- A backing entry from its words. -/
def backingOf (w : List Word) : Backing :=
  let a := w.getD 0 0#64; let b := w.getD 1 0#64
  { typ := fld a 58 56, pbase := fld a 46 28, plen := fld a 19 0, ld := fld b 55 52, dbase := fld b 51 28,
    port := fld b 20 12, pbr := fld b 11 0 }

/-- R432: a section with PATCH = 0 replaces its table; with PATCH = 1 only the entries it names. -/
def overlay {α : Type} (old : Tbl α) (patch : Bool) (conv : List Word → Option α) (es : List (Nat × List Word)) : Tbl α :=
  es.foldl (fun t e => match conv e.2 with | some v => tset t e.1 v | none => terase t e.1) (if patch then old else [])

/-- The sections of one type laid over a table; no such section leaves it. -/
def overSect {α : Type} (img : RawImage) (typ : Nat) (old : Tbl α) (conv : List Word → Option α) : Tbl α :=
  match sectOf img typ with
  | some (_, x) => overlay old x.patch conv (entriesOf img x)
  | none => old

/-- The code words of a version descriptor. -/
def codeOf (img : RawImage) (x : Sect) (off len : Nat) : List (BitVec 32) :=
  (List.range (len / 4)).map (fun k => BitVec.ofNat 32 (imgNat img (x.off + off + 4 * k) 4))

/-- A version descriptor. -/
def versionOf (img : RawImage) (x : Sect) (w : List Word) : Version :=
  let a := w.getD 0 0#64; let b := w.getD 1 0#64; let c := w.getD 2 0#64
  { program := fld a 15 0, version := fld a 31 16, current := bitAt a 32, withdraw := bitAt a 33,
    code := codeOf img x (fld b 31 0) (fld b 63 32), entry := fld c 31 0, evec := fld c 63 32 }

/-- Queue configuration records and producer records keep their section index; `qCount` tells them apart. A valid bit
never unlists a record: VALID is the record's own field. -/
def rawEntry (w : List Word) : Option (List Word) := some w

/-- The tables as they stand once an image's sections are laid over `t` (R423 step 3, R431, R432). -/
def laidOver (img : RawImage) (t : Tables) : Tables :=
  let t := match sectOf img 0x01 with
    | some (_, x) => { t with ttabMib := preNat img x 8 2, granaryMib := preNat img x 10 2, tallyMib := preNat img x 12 2,
                              reserve := preNat img x 14 1 }
    | none => t
  let t := { t with
    ports := overSect img 0x02 t.ports rawEntry,
    backings := overSect img 0x03 t.backings (fun w => if bitAt (w.getD 0 0#64) 63 then some (backingOf w) else none),
    windows := overSect img 0x04 t.windows (fun w => if bitAt (w.getD 0 0#64) 63 then some (winOf w) else none),
    extents := overSect img 0x05 t.extents (fun w => some (extOf w)),
    contracts := overSect img 0x06 t.contracts rawEntry,
    queues := overSect img 0x07 t.queues rawEntry,
    contribs := overSect img 0x09 t.contribs rawEntry,
    twins := overSect img 0x0A t.twins rawEntry,
    slots := overSect img 0x0B t.slots rawEntry }
  let t := match sectOf img 0x07 with
    | some (_, x) => { t with qCount := preNat img x 8 4, qReserve := preNat img x 12 2 } | none => t
  let t := match sectOf img 0x08 with
    | some (_, x) =>
      { t with versions := (entriesOf img x).map (fun (e : Nat × List Word) => versionOf img x e.2),
               dispatch := (List.range (preNat img x 8 4)).map (fun i => imgNat img (x.off + preNat img x 12 4 + 4 * i) 4) }
    | none => t
  let t := match sectOf img 0x09 with
    | some (_, x) => { t with tickCtl := preWord img x 8, bellCtl := preWord img x 16 } | none => t
  let t := match sectOf img 0x0A with
    | some (_, x) => { t with pair := some ((List.range 8).map (fun k => preWord img x (8 * k))) } | none => t
  let t := match sectOf img 0x0B with
    | some (_, x) => { t with nSlots := preNat img x 8 2 } | none => t
  let t := match sectOf img 0x0C with
    | some (_, x) => { t with security := preWord img x 8 } | none => t
  let t := match sectOf img 0x0D with
    | some (_, x) => { t with split := preNat img x 8 2 } | none => t
  let t := match sectOf img 0x0E with
    | some (_, x) => { t with patch := (entriesOf img x).map (fun (e : Nat × List Word) => e.2) } | none => { t with patch := [] }
  let t := match sectOf img 0x0F with
    | some (_, x) => { t with counterAccess := preWord img x 8, engineAccess := preWord img x 16,
                              snapEn := preNat img x 24 1 % 2 == 1 }
    | none => t
  match sectOf img 0x10 with
  | some (_, x) => { t with fwVersion := preWord img x 8 }
  | none => t

/-! ## The ports and hosts of the PORTS section -/

/-- A port entry (bits [63:56] of its last word 0), a host entry (1). -/
def isPortEnt (w : List Word) : Bool := fld (w.getD 3 0#64) 63 56 == 0
def isHostEnt (w : List Word) : Bool := fld (w.getD 3 0#64) 63 56 == 1

/-- A port as the section gives it. -/
structure PortEnt where
  cfg : Word
  id : Word
  eq : Word
  rateCap : Nat
  deriving DecidableEq, Repr

def portEntOf (w : List Word) : PortEnt :=
  { cfg := w.getD 0 0#64, id := w.getD 1 0#64, eq := w.getD 2 0#64, rateCap := fld (w.getD 3 0#64) 11 9 }

/-- The ports of the tables, in entry order. -/
def Tables.portEnts (t : Tables) : List PortEnt := (t.ports.filter (fun e => isPortEnt e.2)).map (fun e => portEntOf e.2)
/-- The host entries: host index, INT_BASE word, INT_LIMIT word. -/
def Tables.hostEnts (t : Tables) : List (Nat × Word × Word) :=
  (t.ports.filter (fun e => isHostEnt e.2)).map (fun e => (fld (e.2.getD 2 0#64) 5 0, e.2.getD 0 0#64, e.2.getD 1 0#64))

def PortEnt.num (p : PortEnt) : Nat := fld p.id 8 0
def PortEnt.role (p : PortEnt) : Nat := fld p.cfg 2 0
def PortEnt.width (p : PortEnt) : Nat := fld p.cfg 10 8
def PortEnt.owner (p : PortEnt) : Nat := fld p.cfg 45 40
def PortEnt.owned (p : PortEnt) : Bool := bitAt p.cfg 46
def PortEnt.mgmt (p : PortEnt) : Bool := bitAt p.cfg 31
def PortEnt.pbr (p : PortEnt) : Nat := fld p.id 43 32
def PortEnt.legacyIndex (p : PortEnt) : Nat := fld p.cfg 55 48
def PortEnt.lanes (p : PortEnt) : Nat := 2 ^ p.width

/-- R580: a port entry agrees with itself. -/
def portEntOk (p : PortEnt) : Bool :=
  let r := p.role
  let n := p.num
  decide (1 ≤ r) && decide (r ≤ 5) && decide (p.width ≤ 4)
    && fld p.id 11 9 == n / 64 && fld p.id 19 16 == 2 * (n / 64) + (n % 64) / 32
    && (r == 1 || r == 2 || r == 4 || p.pbr == 0)
    && (r == 3 || (p.legacyIndex == 0 && !p.owned))
    && (r == 1 || (r == 3 && p.owned) || p.owner == 0)
    && (r == 1 || !p.mgmt)
    && decide (fld p.cfg 23 21 ≤ 6) && decide (fld p.cfg 20 18 ≤ 6)

/-- R31 and R40: the port limits. -/
def portLimitsOk (t : Tables) : Bool :=
  let ps := t.portEnts
  let role := fun r => ps.filter (fun p => p.role == r)
  let hosts := role 1
  let leg := role 3
  let mg := hosts.filter PortEnt.mgmt
  ps.all (fun p => p.num % p.lanes == 0 && decide (p.num + p.lanes ≤ 512))
    && !anyOverlap (ps.map (fun p => (p.num, p.lanes)))
    && decide (hosts.length ≤ 256)
    && hosts.all (fun p => decide ((hosts.filter (fun q => q.owner == p.owner)).length ≤ 4))
    && decide (1 ≤ mg.length) && decide (mg.length ≤ 4) && mg.all (fun p => mg.all (fun q => q.owner == p.owner))
    && decide (leg.length ≤ 256) && distinct (leg.map PortEnt.legacyIndex)
    && decide ((role 2).length ≤ 128) && decide ((role 4).length ≤ 64) && (role 4).all (fun p => decide (2 ≤ p.width))
    && ((role 5).length == 0 || (role 5).length == 2) && (role 5).all (fun p => p.width == 4)
    && (t.pair.isNone || (role 5).length == 2)
    && ps.all (fun p => match p.role with
        | 1 | 2 | 4 => decide (4 ≤ fld p.cfg 20 18)
        | 5 => decide (5 ≤ fld p.cfg 20 18)
        | _ => decide (fld p.cfg 23 21 ≤ 4))
    && distinct ((ps.filter (fun p => p.role == 1 || p.role == 2 || p.role == 4)).map PortEnt.pbr)
    && (ps.filter (fun p => p.role == 1 || p.role == 2 || p.role == 4)).all (fun p => t.twins.all (fun e =>
        let w := e.2.getD 0 0#64
        decide (fld w 11 0 ≠ p.pbr) && decide (fld w 27 16 ≠ p.pbr)))
    && distinct (t.hostEnts.map (·.1))
    && (List.range 64).all (fun h => decide ((leg.filter (fun p => p.owned && p.owner == h)).length ≤ 32))

/-! ## R72-R76: the translation limits -/

/-- The number of ways of an IW encoding; 0 for a reserved one. -/
def waysOf (iw : Nat) : Nat :=
  match iw with
  | 0 => 1 | 1 => 2 | 2 => 4 | 3 => 8 | 4 => 16 | 8 => 3 | 9 => 6 | 10 => 12 | _ => 0

/-- The host-side ranges a window covers: plain alias, and reduce alias when TICK is 1 (R71). -/
def Win.ranges (w : Win) : List (Nat × Nat) :=
  (w.hbase * 2 ^ 28, w.extCount * 2 ^ 28)
    :: (if w.tick then [(w.rbase * 2 ^ 28, 16 * w.extCount * 2 ^ 28)] else [])

/-- The pool extents an extent entry names (R74). -/
def Ext.names (e : Ext) : List Nat :=
  match e.st with | .absent => [] | .present => [e.pool] | .migrating => [e.pool, e.newPool]

/-- Does a backing hold a pool extent? -/
def Backing.holds (b : Backing) (x : Nat) : Bool := decide (b.pbase ≤ x) && decide (x < b.pbase + b.plen)

/-- The extent entries of a window's run, slot by slot. An index with no entry is ABSENT. -/
def Tables.run (t : Tables) (w : Win) : List (Option Ext) :=
  (List.range w.extCount).map (fun x => tget t.extents (w.extFirst + x))

/-- Is a run left unused by this member (R443)? -/
def unusedRun (t : Tables) (w : Win) : Bool :=
  match t.pair with
  | some p => !w.mirror && w.home != fld (p.getD 1 0#64) 39 32
  | none => false

/-- R76: backings. -/
def backingLimitsOk (t : Tables) (hbmExtents : Nat) : Bool :=
  let bs := t.backings.map (·.2)
  let ports := t.portEnts
  let target := fun (b : Backing) => match b.typ with
    | 0 => (0, 0, 0)
    | 3 => (3, b.pbr, 0)
    | k => (k, b.port, b.ld)
  decide (bs.length ≤ 1024)
    && bs.all (fun b => decide (b.typ ≤ 3) && decide (1 ≤ b.plen) && decide (b.pbase + b.plen ≤ 524288))
    && !anyOverlap (bs.map (fun b => (b.pbase, b.plen)))
    && bs.all (fun b => !anyOverlap ((bs.filter (fun c => decide (target c = target b))).map (fun c => (c.dbase, c.plen))))
    && decide (((bs.filter (fun b => b.typ == 0)).map Backing.plen).sum ≤ hbmExtents)
    && (bs.filter (fun b => b.typ == 0)).all (fun b => decide (b.dbase + b.plen ≤ hbmExtents))
    && decide (((bs.filter (fun b => b.typ == 1 || b.typ == 2)).map Backing.plen).sum ≤ 262144)
    && bs.all (fun b => match b.typ with
        | 0 => true
        | 1 => ports.any (fun p => p.num == b.port && p.role == 3 && !p.owned)
        | 2 => b.ld == 0 && ports.any (fun p => p.num == b.port && p.role == 2)
        | _ => b.ld == 0 && ports.any (fun p => p.num == b.port && p.role == 4))

/-- R76: the limits on windows, with R72, R75 and R443. -/
def windowLimitsOk (t : Tables) : Bool :=
  let ws := t.windows
  let byHost := fun h => ws.filter (fun w => w.2.host == h)
  let used := ws.filter (fun w => !unusedRun t w.2)
  let inHbm := fun x => t.backings.any (fun b => b.2.typ == 0 && b.2.holds x)
  decide (ws.length ≤ 4096)
    && ws.all (fun w => w.1 < 4096)
    && (List.range 64).all (fun h => decide ((byHost h).length ≤ 64) && !anyOverlap ((byHost h).flatMap (fun w => w.2.ranges)))
    && ws.all (fun w => w.2.ranges.all (fun r => decide (r.1 + r.2 ≤ 2 ^ 52)))
    && ws.all (fun w => decide (waysOf w.2.iw ≠ 0) && decide (w.2.ig ≤ 6) && decide (1 ≤ w.2.extCount)
        && w.2.extCount % waysOf w.2.iw == 0)
    && used.all (fun w => (t.run w.2).all (fun o => match o with
        | some e => e.st == .absent || ((!w.2.shared || e.names.all inHbm) && (!w.2.tick || (e.st == .present && e.names.all inHbm)))
        | none => true))
    && ws.all (fun w => !w.2.tick || (w.2.iw == 0 && !w.2.dynamic))
    && (List.range 64).all (fun h =>
        let d := (byHost h).filter (fun w => w.2.dynamic)
        decide (d.length ≤ 8) && distinct (d.map (fun w => w.2.dcRegion)))
    && ws.all (fun w => !w.2.tick || ws.all (fun v => !(v.2.tick && v.2.tickId == w.2.tickId)
        || (v.2.extCount == w.2.extCount && (t.run v.2).map (fun o => o.map Ext.pool) == (t.run w.2).map (fun o => o.map Ext.pool)
            && v.2.mirror == w.2.mirror && v.2.home == w.2.home)))

/-- R76: the limits on extent runs and extents, with R74 and R443. -/
def extentLimitsOk (t : Tables) : Bool :=
  let ws := t.windows
  let used := ws.filter (fun w => !unusedRun t w.2)
  let inAny := fun x => t.backings.any (fun b => b.2.holds x)
  let namers := fun x => used.filter (fun w => (t.run w.2).any (fun o => match o with
    | some e => e.names.contains x | none => false))
  let count := fun x => ((used.map (fun w => ((t.run w.2).map (fun o => match o with
    | some e => (e.names.filter (· == x)).length | none => 0)).sum))).sum
  ws.all (fun w => decide (w.2.extFirst + w.2.extCount ≤ 524288))
    && !anyOverlap (ws.map (fun w => (w.2.extFirst, w.2.extCount)))
    && ws.all (fun w => (t.run w.2).all (fun o => match o with | some e => e.window == w.1 | none => true))
    && used.all (fun w => (t.run w.2).all (fun o => match o with
        | some e => (match e.st with
            | .absent => w.2.dynamic
            | _ => e.names.all inAny)
        | none => w.2.dynamic))
    && used.all (fun w => (t.run w.2).all (fun o => match o with
        | some e => e.names.all (fun x =>
            decide (count x ≤ 64) &&
            (decide (count x ≤ 1) ||
              (let n := namers x
               n.all (fun v => v.2.tick && v.2.tickId == w.2.tickId) || n.all (fun v => v.2.shared)
                || n.all (fun v => !v.2.rw))))
        | none => true))
    && used.all (fun w => (t.run w.2).all (fun o => match o with
        | some e => e.names.all (fun x => (namers x).all (fun v => v.2.mirror == w.2.mirror && v.2.home == w.2.home))
        | none => true))
    && t.extents.all (fun e => e.2.st == .absent
        || ws.any (fun w => decide (w.2.extFirst ≤ e.1) && decide (e.1 < w.2.extFirst + w.2.extCount)))
    && decide ((t.extents.filter (fun e => e.2.st == .migrating)).length ≤ 16)

/-- The PAIR section's limit: KIND 0x01, and no PBR value in two entries. -/
def pairLimitsOk (t : Tables) : Bool :=
  decide (t.twins.length ≤ 128) && distinct (t.twins.map (fun e => fld (e.2.getD 0 0#64) 11 0))

end Sys2Proof.Machine
end

