-- ==== Sys2Proof/Machine/Clock.lean ====
section
/-! DEFINITION. Clock domains, the device time base, shared instants and crossings: chapter 12.
Assumption 56. -/
namespace Sys2Proof.Machine

/-- The lag a follower aims at: 2 ns, in 1/16 ns (R395). -/
def followAim : Int := 32

/-- The bound of R394 and R396: 4 ns, in 1/16 ns. -/
def followBound : Int := 64

/-- One follower at a sync (R395, R396, R411): not yet loaded, it loads the master less 2 ns; more than 4 ns behind, it
steps to the aim; more than 4 ns ahead, it stops; otherwise it advances fast or slow toward the aim. -/
def followSync (now : Nat) (off : Int) (f : Follower) : Follower :=
  if !f.loaded || decide (off > followBound) then { loaded := true, lag16 := followAim, since := now, rate := .nominal }
  else
    { f with
      lag16 := off, since := now,
      rate := if off < -followBound then .stopped else if off > followAim then .fast else if off < followAim then .slow
        else .nominal }

/-- The lag of a follower between syncs (R395, R396): until it reaches the aim, it gains 1/16 of its period a cycle, loses 1/16, or
stands still. -/
def lagNow (now : Nat) (f : Follower) : Int :=
  let e : Int := (now - f.since : Nat)
  match f.rate with
  | .nominal => f.lag16
  | .fast => max followAim (f.lag16 - e)
  | .slow => min followAim (f.lag16 + e)
  | .stopped => min followAim (f.lag16 + 16 * e)

/-- Does a sync find this follower out of bounds (R396)? -/
def followBad (off : Int) (f : Follower) : Bool := f.loaded && (decide (off > followBound) || decide (off < -followBound))

/-- The next DTB that is a multiple of `n`, the present one included. -/
def nextMultiple (n t : Nat) : Nat := ((t + n - 1) / n) * n

/-- The sync of one domain, with the offset it measured. -/
def syncDomain (lags : List (Nat × Int)) (s : State) (d : Nat) : State :=
  if !s.clk.running.getLsbD d then s else
  let f := tgetD s.clk.followers d { loaded := false, lag16 := 0, since := 0, rate := .nominal }
  let off := match lags.find? (fun p => p.1 == d) with | some p => p.2 | none => lagNow s.now f
  let s := { s with clk.followers := tset s.clk.followers d (followSync s.now off f),
                    clk.maxLag := if f.loaded then max s.clk.maxLag (min 255 off.toNat) else s.clk.maxLag }
  if followBad off f then
    ({ s with clk.errDom := s.clk.errDom ||| (1#18 <<< d) }.setEvent Reg.clkEvents 4).raise 0x82 .corrected .domain d
      (d + 256 * 0xFF)
  else s

/-- R395: at a master DTB that is a multiple of 1,000 D0 sends a sync pulse to every follower. By then every pulse
crossing has had its acknowledgement returned (R404). -/
def dtbSync (lags : List (Nat × Int)) (s : State) : State :=
  if !s.pwr.auxGood then s else
  let s := s.reach (nextMultiple 1000 s.now)
  let s := { s with clk.pulses := [] }
  ((List.range 17).map (· + 1)).foldl (syncDomain lags) s

/-- DTB_SYNC. -/
def execDtbSync (lags : List (Nat × Int)) (s : State) : Host.Outcome State Fault Refusal := .next (dtbSync lags s)

/-- The D1 follower's reading in whole ns (R394, R397): what a read of DTB returns. -/
def readDtb (s : State) : Nat :=
  match tget s.clk.followers 1 with
  | some f => if f.loaded then (((s.clk.dtb * 16 : Nat) : Int) - lagNow s.now f).toNat / 16 else 0
  | none => 0

/-- The domains that receive a scheduled instant: every domain out of reset but D0 (R398, R399). -/
def instantDomains (s : State) : List Nat :=
  ((List.range 17).map (· + 1)).filter (fun d => s.clk.running.getLsbD d)

/-- R398: D0 schedules a shared instant, 20 ns after the D0 cycle in which it sends it. -/
def scheduleInstant (u : InstantUse) (s : State) : State :=
  { s with clk.instants := s.clk.instants ++
      [{ at_ := s.now + 20, use := u, begun := false, left := instantDomains s }] }

/-- INSTANT_REQUEST: a unit asks D0 for an instant and D0 schedules it. -/
def execInstantRequest (u : InstantUse) (s : State) : Host.Outcome State Fault Refusal :=
  .next (if s.pwr.auxGood then scheduleInstant u s else s)

/-- R404: domain `src` raises a pulse to domain `dst`; a second pulse before the first is acknowledged is merged and
recorded, with at most one record in each 1 ms. -/
def raisePulse (src : Nat) (s : State) (dst : Nat) : State :=
  if s.clk.pulses.contains (src, dst) then
    let s := s.wb Reg.cdcOvrDst dst true
    let s := s.wb Reg.cdcOvrSrc src true
    let s := s.setEvent Reg.clkEvents 3
    let recent := match s.ras.lastOverrunRec with | some t => decide (s.now < t + 1000000) | none => false
    if recent then s
    else { s with ras.lastOverrunRec := some s.now }.raise 0x81 .corrected .domain dst (dst + 256 * src)
  else { s with clk.pulses := s.clk.pulses ++ [(src, dst)] }

/-- What the instant itself does to the counters (R535, R537). -/
def instantFirst (u : InstantUse) (s : State) : State :=
  match u with
  | .freeze on => { s with cnt.frozen := on }
  | .clear =>
    { s with
        cnt.live := [], cnt.qDelivered := [], cnt.qPassed := [], cnt.pendingMoves := [],
        mill.engs := tmap (fun _ g => { g with counted := [] }) s.mill.engs }
  | .boundary => s

/-- R534: `n` slots of engine `e` move from TD_RETIRED to TD_WASTED; a move due while the counters are frozen waits for
the end of the freeze. -/
def moveWasted (e n : Nat) (s : State) : State :=
  if s.cnt.frozen then { s with cnt.pendingMoves := tput 0 s.cnt.pendingMoves e (tgetD s.cnt.pendingMoves e 0 + n) }
  else
    let at_ := 0x2000 + 0x40 * e
    let n := min n (tgetD s.cnt.live (at_ + 8) 0)
    { s with cnt.live := tput 0 (tput 0 s.cnt.live (at_ + 8) (tgetD s.cnt.live (at_ + 8) 0 - n)) (at_ + 0x10)
               (satAdd 64 (tgetD s.cnt.live (at_ + 0x10) 0) n) }

/-- What follows when every domain has acted on an instant (R535, R537, R534). -/
def instantLast (u : InstantUse) (s : State) : State :=
  match u with
  | .freeze true => { s with cnt.frozenAll := true }
  | .freeze false =>
    s.cnt.pendingMoves.foldl (fun st m => moveWasted m.1 m.2 st) { s with cnt.frozenAll := false, cnt.pendingMoves := [] }
  | .clear => { s with cnt.clearing := false }.wb Reg.countCtl 2 false
  | .boundary => s

/-- A domain acts on the oldest instant that waits for it. -/
def actOnInstant (d : Nat) (s : State) : State :=
  match s.clk.instants.findIdx? (fun i => i.left.contains d) with
  | none => s
  | some k =>
    match s.clk.instants[k]? with
    | none => s
    | some i =>
      let s := s.reach i.at_
      let s := if i.begun then s else instantFirst i.use s
      let left := i.left.filter (· ≠ d)
      if left.isEmpty then
        instantLast i.use { s with clk.instants := dropAt s.clk.instants k }
      else { s with clk.instants := setAt s.clk.instants k { i with left := left, begun := true } }

/-- SHARED_INSTANT: domain `d` reaches its oldest scheduled instant and acts, raising the pulses named (R398, R404). -/
def execSharedInstant (d : Nat) (pulses : List Nat) (s : State) : Host.Outcome State Fault Refusal :=
  .next (pulses.foldl (raisePulse d) (actOnInstant d s))

/-- Is a domain's partition held in reset apart from the core reset (R407: a steward's, a chiplet's or a cluster's reset
leaves its domain running)? -/
def domainHeld (s : State) (d : Nat) : Bool :=
  match s.mode with
  | .off | .aux => decide (d ≠ 0)
  | .load => decide (6 ≤ d) && decide (d ≤ 13)
  | _ => false

/-- DOMAIN_RESET_RELEASE (R408): with its clock stable and its partition released, the domain leaves reset. Its follower
reports no DTB until the next sync (R411). -/
def domainRelease (d : Nat) (s : State) : State :=
  if s.pwr.auxGood && s.clk.locked.getLsbD d && !s.clk.running.getLsbD d && !domainHeld s d then
    { s with clk.running := s.clk.running ||| (1#18 <<< d),
             clk.followers := tset s.clk.followers d { loaded := false, lag16 := 0, since := 0, rate := .nominal } }
  else s

/-- DOMAIN_RESET_RELEASE. -/
def execDomainResetRelease (d : Nat) (s : State) : Host.Outcome State Fault Refusal := .next (domainRelease d s)

/-- AUX_REFCLK_RETURN (R413): D0 goes back to REFCLK_AUX and clears AUX_OSC; nothing more is recorded. -/
def execAuxRefclkReturn (s : State) : Host.Outcome State Fault Refusal :=
  .next (if s.pwr.auxGood then { s with clk.auxOsc := false, clk.locked := s.clk.locked ||| 1#18 } else s)

/-- GPIO_EDGE (R406): an edge on GPIO_nn is latched in D0. -/
def execGpioEdge (n : Nat) (s : State) : Host.Outcome State Fault Refusal :=
  .next (if s.pwr.auxGood && decide (n < 16) then s.wb Reg.pendEdges n true else s)

/-- CLK_STATUS (12). -/
def readClkStatus (s : State) : Word :=
  putBit (mkFld 49 32 s.clk.running.toNat ||| mkFld 17 0 s.clk.locked.toNat) 63 s.clk.auxOsc

/-- FOLLOW_STATUS (12). -/
def readFollowStatus (s : State) : Word := mkFld 39 32 s.clk.maxLag ||| mkFld 17 0 s.clk.errDom.toNat

/-- DOM_00-DOM_17 (12): frequency, source, die. -/
def domWord (d : Nat) : Word :=
  let mhz := if d = 0 then 100 else if d = 1 then 1200 else if d = 2 then 2400 else if d ≤ 4 then 1600
    else if d = 5 then 1800 else if d ≤ 13 then 2000 else 1000
  let src := if d = 0 then 0 else if d = 2 then 2 else if 6 ≤ d ∧ d ≤ 13 then 3 else 1
  let die := if d ≤ 2 ∨ d = 5 then 3 else if d = 3 ∨ d = 14 ∨ d = 15 then 1 else if d = 4 ∨ d = 16 ∨ d = 17 then 2 else 0
  mkFld 47 32 mhz ||| mkFld 19 16 src ||| mkFld 9 8 die

end Sys2Proof.Machine
end

