-- ==== Sys2Proof/Machine/Link.lean ====
section
/-! DEFINITION. Training, equalisation and the link registers: chapter 02. What a link's going up or down does to the
traffic is in LinkEvents.
Assumption 56. -/
namespace Sys2Proof.Machine

/-- The port on which a waiting request arrived; none for one that the partner forwards. -/
def Ingress.port : Ingress → Option Nat
  | .mem p _ | .legWrite p _ | .legRead p _ | .legAtom p _ _ | .legZero p _ | .legWire p _ _ _ | .legMsg p _ _ | .io p _ _ => some p
  | .fwd .. => none

/-- A port's link state. -/
def State.link? (s : State) (p : Nat) : Option Link := tget s.links p

/-- Change a port's link state. -/
def State.modLink (p : Nat) (f : Link → Link) (s : State) : State := { s with links := tmod s.links p f }

/-- PORT_CTL.ENABLE. -/
def State.portEnabled (s : State) (p : Nat) : Bool := s.rb (Reg.portCtl p) 0

/-- The chiplet of a port. -/
def chipletOf (p : Nat) : Nat := p / 64

/-- R33: the home pipeline of a port. -/
def homeBp (p : Nat) : Nat := 2 * (p / 64) + (p % 64) / 32

/-- The highest rate the port may train to: RATE_CAP and RATE_MAX (R52). -/
def rateLimit (s : State) (p : Nat) : Nat := min (s.rf (Reg.portCtl p) 11 9) (s.rf (Reg.portCfg p) 23 21)

/-- R52, R61: may the port train? Not contained (R154), not isolated (R487), its chiplet's PLL locked (R412), no TWIN port in TAKEOVER (R461). -/
def mayTrain (s : State) (p : Nat) : Bool :=
  match s.link? p with
  | none => false
  | some l => s.portEnabled p && s.mode.trains && !l.contained && !s.ras.isoPorts.contains p
      && !(s.role p == 5 && decide (s.mode = .takeover))
      && s.clk.locked.getLsbD (6 + chipletOf p)

/-- LINK_STATUS.STATE. -/
def State.setLtssm (p st : Nat) (s : State) : State := s.wf (Reg.linkStatus p) 3 0 st

/-- An attempt, or with the link up a retrain through Recovery, starts; a RETRAIN that waited is taken by it (R53, R63). -/
def startAttempt (p : Nat) (s : State) : State :=
  if !mayTrain s p then s else
  let up := s.linkIsUp p
  let s := s.modLink p (fun l =>
    { l with attempting := true, attemptAt := s.now, waitUntil := none, maxRate := rateLimit s p, ideDrop := false,
             bypassEn := s.rb (Reg.eqCtl p) 8, eqDone := none, bypassed := false })
  (s.wb (Reg.portCtl p) 1 false).setLtssm p (if up then 4 else 1)

/-- TRAIN_ATTEMPT_START (R53): the LTSSM leaves Detect.Quiet on an enabled port whose link is down. -/
def attemptStart (p : Nat) (s : State) : State :=
  match s.link? p with
  | some l => if l.attempting || l.waitUntil.isSome || s.linkIsUp p then s else startAttempt p s
  | none => s

/-- TRAIN_ATTEMPT_START. -/
def execTrainAttemptStart (p : Nat) (s : State) : Host.Outcome State Fault Refusal := .next (attemptStart p s)

/-- R62: the LTSSM of a port whose ENABLE was cleared during an attempt enters Disabled. -/
def enterDisabled (p : Nat) (s : State) : State :=
  ((s.modLink p (fun l => { l with trainOffUntil := none, attempting := false, waitUntil := none, eqUntil := none })).setLtssm p 0).wb
    (Reg.eqReq p) 63 false

/-- A state transition of the LTSSM during an attempt: to `st`, or to Disabled where ENABLE was cleared (R62). -/
def ltssmTo (p st : Nat) (s : State) : State :=
  if ((s.link? p).bind Link.trainOffUntil).isSome then enterDisabled p s else s.setLtssm p st

/-- R53: a failed attempt: a wait of 10 ms, or after three failures in a row TRAIN_FAIL and one attempt every 1 s counted
from the start of this one. With the link in service the link goes down instead (R58, R61). -/
def attemptFails (p : Nat) (s : State) : State :=
  match s.link? p with
  | none => s
  | some l =>
    if s.linkIsUp p then s.modLink p (fun l => { l with lost := true })
    else if l.trainOffUntil.isSome then enterDisabled p s else
    let n := l.fails + 1
    let s := s.modLink p (fun l =>
      { l with attempting := false, fails := n, eqUntil := none,
               waitUntil := some (if n < 3 then s.now + 10000000 else max s.now (l.attemptAt + 1000000000)) })
    let s := (s.setLtssm p 9).wb (Reg.eqReq p) 63 false
    if n = 3 then s.linkEvent p 3 else s

/-- TRAIN_ATTEMPT_TIMEOUT (R53): 400 ms without L0. -/
def attemptTimeout (p : Nat) (s : State) : State :=
  match s.link? p with
  | some l => if l.attempting && !s.linkIsUp p then attemptFails p (s.reach (l.attemptAt + 400000000)) else s
  | none => s

/-- TRAIN_ATTEMPT_TIMEOUT. -/
def execTrainAttemptTimeout (p : Nat) (s : State) : Host.Outcome State Fault Refusal := .next (attemptTimeout p s)

/-- TRAIN_RETRY_TIMER (R53): the wait ends and a new attempt starts. -/
def retryAttempt (p : Nat) (s : State) : State :=
  match s.link? p with
  | some l =>
    match l.waitUntil with
    | some t => startAttempt p ((s.reach t).modLink p (fun l => { l with waitUntil := none }))
    | none => s
  | none => s

/-- TRAIN_RETRY_TIMER. -/
def execTrainRetryTimer (p : Nat) (s : State) : Host.Outcome State Fault Refusal := .next (retryAttempt p s)

/-! ## Equalisation, R55-R58 -/

/-- The preset mask of EQ_CTL for a rate: MASK_PAM4 at 64 and 128 GT/s, MASK_NRZ at 8 to 32. -/
def presetMask (s : State) (p rate : Nat) : Nat :=
  if rate ≥ 5 then s.rf (Reg.eqCtl p) 42 32 else s.rf (Reg.eqCtl p) 26 16

/-- R58: the minimum worst-lane margin at a rate. -/
def minMargin (rate : Nat) : Nat := if rate = 6 then 52 else if rate = 5 then 72 else 102

/-- R55: the permitted preset with the largest margin, the lower number on a tie. -/
def bestPreset (mask : Nat) (margins : List Nat) : Nat :=
  ((List.range 11).foldl (fun (b : Option (Nat × Nat)) i =>
    if mask.testBit i then
      let m := margins.getD i 0
      match b with
      | some (_, bm) => if m > bm then some (i, m) else b
      | none => some (i, m)
    else b) none).elim 0 (·.1)

/-- The preset is applied: EQ_STATUS is written; below the minimum margin the equalisation fails at this rate and the
port retrains one rate lower, or fails its attempt below RATE_MIN (R58). -/
def applyPreset (p preset margin : Nat) (assisted : Bool) (s : State) : State :=
  match s.link? p with
  | none => s
  | some l =>
    let s := s.wf (Reg.eqStatus p) 47 32 margin
    let s := s.wf (Reg.eqStatus p) 23 20 preset
    let s := s.wb (Reg.eqStatus p) 16 assisted
    let s := (s.wb (Reg.eqReq p) 63 false).modLink p (fun l => { l with eqUntil := none })
    if margin < minMargin l.eqRate then
      if l.eqRate = 0 ∨ l.eqRate - 1 < s.rf (Reg.portCfg p) 20 18 then attemptFails p s
      else ltssmTo p 4 (s.modLink p (fun l => { l with maxRate := l.eqRate - 1, eqDone := none, bypassed := false }))
    else ltssmTo p 4 s

/-- The hardware's choice for a port's last measurement: FIXED_PRESET when FIXED_EN is 1, else R55's (assumption 64). -/
def hwPreset (s : State) (p : Nat) (l : Link) : Nat :=
  if s.rb (Reg.eqCtl p) 3 then s.rf (Reg.eqCtl p) 7 4 else bestPreset (presetMask s p l.eqRate) l.eqMargins

/-- R54: may the attempt equalise next at a rate? At each rate from 8 GT/s up; with equalisation bypass once, at the target rate
alone (assumption 69). -/
def eqNext (l : Link) (rate : Nat) : Bool :=
  match l.eqDone with
  | none => rate == 2 || l.bypassEn
  | some r => !l.bypassed && rate == r + 1

/-- EQ_MEASURE_COMPLETE (R54, R55, R56): every permitted preset is measured; hardware selects one, or the margins are posted to
the fabric manager. -/
def eqMeasured (p rate : Nat) (margins : List Nat) (localPreset : Nat) (s : State) : State :=
  match s.link? p with
  | none => s
  | some l =>
    if !l.attempting || l.eqUntil.isSome || rate < 2 || rate > l.maxRate || !eqNext l rate then s
    else if l.trainOffUntil.isSome then enterDisabled p s else
    let mask := presetMask s p rate
    let margins := (List.range 11).map (fun i => margins.getD i 0 % 65536)
    let hw := hwPreset s p { l with eqRate := rate, eqMargins := margins }
    let s := s.modLink p (fun l =>
      { l with eqRate := rate, eqMargins := margins, eqHw := hw, eqDone := some rate,
               bypassed := l.eqDone.isNone && decide (2 < rate) })
    let s := s.wf (Reg.eqStatus p) 27 24 localPreset
    let s := s.wf (Reg.eqStatus p) 19 17 rate
    let s := s.wf (Reg.eqStatus p) 15 8 (satAdd 8 (s.rf (Reg.eqStatus p) 15 8) 1)
    let s := s.setLtssm p 5
    if s.assist 9 then
      let pack := fun k => (List.range 4).foldl (fun w j => w ||| 
        mkFld (16 * j + 15) (16 * j) (if mask.testBit (4 * k + j) then margins.getD (4 * k + j) 0 else 0)) 0#64
      let s := ((s.wr (Reg.eqMargin p 0) (pack 0)).wr (Reg.eqMargin p 1) (pack 1)).wr (Reg.eqMargin p 2) (pack 2)
      let tag := (s.rf (Reg.eqReq p) 62 55 + 1) % 256
      let s := s.wr (Reg.eqReq p) (mkFld 63 63 1 ||| mkFld 62 55 tag ||| mkFld 54 52 rate
        ||| mkFld 51 51 (b2n (s.rb (Reg.portCfg p) 28)) ||| mkFld 42 32 mask)
      (s.modLink p (fun l => { l with eqUntil := some (s.now + 8000000) })).linkEvent p 12
    else applyPreset p hw (margins.getD hw 0) false s

/-- R56: the fallback: the preset that the hardware had selected is applied; EQ_FALLBACK unless the function was handed over
(R438). -/
def eqFallback (ev : Bool) (p : Nat) (s : State) : State :=
  match s.link? p with
  | none => s
  | some l =>
    let s := applyPreset p l.eqHw (l.eqMargins.getD l.eqHw 0) false s
    if ev then s.linkEvent p 10 else s

/-- EQ_RESP (R56, R57): the answer is stored; with VALID = 1 and the open post's TAG its preset is applied; a preset that
the mask does not permit is no answer; any other answer is late. -/
def eqAnswer (p : Nat) (data : Word) (s : State) : State :=
  if !bitAt data 63 then s else
  match s.link? p with
  | none => s
  | some l =>
    if l.eqUntil.isSome && fld data 55 48 == s.rf (Reg.eqReq p) 62 55 then
      let k := fld data 3 0
      if k < 11 ∧ (s.rf (Reg.eqReq p) 42 32).testBit k then applyPreset p k (l.eqMargins.getD k 0) true s
      else eqFallback true p s
    else s.linkEvent p 11

/-- EQ_ANSWER_TIMEOUT (R56): 8 ms without an answer. -/
def eqTimeout (p : Nat) (s : State) : State :=
  match (s.link? p).bind Link.eqUntil with
  | some t => eqFallback true p (s.reach t)
  | none => s

/-! ## The link in service -/

/-- The number of lanes of a width encoding. -/
def lanesOf (w : Nat) : Nat := 2 ^ w

/-- R37, R41, R42: is a legacy port's partner bound? A switch never; a partner of an owned port always, over its CXL.io or
PCIe function; the partner of a port that belongs to the device only as CXL.mem backing. -/
def bindable (s : State) (p : Nat) (k : PartnerKind) : Bool :=
  match k with
  | .switch => false
  | .cxl mem _ _ => s.rb (Reg.portCfg p) 46 || mem
  | _ => s.rb (Reg.portCfg p) 46

/-- PROTO of a partner on a port. -/
def protoOf (s : State) (p : Nat) (k : PartnerKind) : Nat :=
  if s.role p = 3 then (match k with | .cxl _ _ _ => 2 | _ => 1) else 3

/-- L0 with the role's protocol active: LINK_STATUS is written and LINK_UP_EV set when LINK_UP rises (R53). The rate and
width never exceed what the port may use (R52). A RETRAIN that waited starts its one retrain (R63). -/
def linkComesUp (p : Nat) (r : LinkReport) (s : State) : State :=
  let was := s.linkIsUp p
  let rate := min r.rate (min (rateLimit s p) (((s.link? p).map Link.maxRate).getD 6))
  let width := min r.width (s.rf (Reg.portCfg p) 10 8)
  let bound := if s.role p = 3 then bindable s p r.partner else true
  let s := s.modLink p (fun l =>
    { l with attempting := false, fails := 0, waitUntil := none, partner := r.partner, tag10 := r.tag10,
             bound := bound, eqUntil := none, ideDrop := false, lost := false })
  let s := s.wr (Reg.linkStatus p) (mkFld 47 32 (r.lanes % 2 ^ lanesOf (s.rf (Reg.portCfg p) 10 8))
    ||| mkFld 25 24 (protoOf s p r.partner) ||| mkFld 23 23 (b2n (r.ideActive && s.role p != 3))
    ||| mkFld 22 22 (b2n (r.bypassUsed && ((s.link? p).map Link.bypassEn).getD false)) ||| mkFld 21 20 (min 2 r.retimers) ||| mkFld 19 19 (b2n r.reversed)
    ||| mkFld 15 13 rate ||| mkFld 12 10 width ||| mkFld 9 9 1 ||| mkFld 3 0 6)
  let s := if was then s else s.linkEvent p 1
  let s := if s.role p = 3 && !bound then s.linkEvent p 9 else s
  if s.rb (Reg.portCtl p) 1 then startAttempt p s else s

/-- The link leaves service: LINK_UP, the current rate and width and an open post clear; LINK_DOWN is set; what the port
has not yet accepted is accepted no more (R61). `st` is the LTSSM state it goes to. -/
def linkLeaves (p st : Nat) (s : State) : State :=
  let s := s.modLink p (fun l => { l with attempting := false, eqUntil := none, drainUntil := none, lost := false })
  let s := { s with bridge.waiting := s.bridge.waiting.filter (fun b => b.2.port != some p) }
  let s := (s.wr (Reg.linkStatus p) (mkFld 3 0 st)).wb (Reg.eqReq p) 63 false
  let s := s.wf (Reg.eqStatus p) 15 8 0
  (s.linkEvent p 2).count (cntPort p 0x48) 48 1

/-- R59, R60: the link runs on at another rate and width. WIDTH_DOWN and RATE_DOWN mark a reduction. -/
def setCapacity (p rate width lanes : Nat) (l0p : Bool) (s : State) : State :=
  let r0 := s.rf (Reg.linkStatus p) 15 13
  let w0 := s.rf (Reg.linkStatus p) 12 10
  let s := s.wf (Reg.linkStatus p) 15 13 rate
  let s := s.wf (Reg.linkStatus p) 12 10 width
  let s := (s.wf (Reg.linkStatus p) 47 32 lanes).wb (Reg.linkStatus p) 8 l0p
  let s := if width < w0 then s.linkEvent p 4 else s
  let s := if rate < r0 then s.linkEvent p 5 else s
  if width < w0 ∨ rate < r0 then s.count (cntPort p 0x50) 48 1 else s

/-- R62: ENABLE is cleared: with the link up, credit return stops and the 1 ms drain of owed responses starts; during an
attempt the LTSSM goes to Disabled at its next transition or 50 ms later; during a wait it is Disabled at once. The run of failed attempts ends (R53). -/
def portOff (p : Nat) (s : State) : State :=
  match s.link? p with
  | none => s
  | some l =>
    let s := (s.wb (Reg.portCtl p) 0 false).modLink p (fun l => { l with fails := 0 })
    if s.linkIsUp p then s.modLink p (fun l => { l with drainUntil := some (s.now + 1000000) })
    else if l.attempting then s.modLink p (fun l => { l with trainOffUntil := some (s.now + 50000000) })
    else (s.modLink p (fun l => { l with waitUntil := none })).setLtssm p 0

/-- PORT_ENABLE (R139): ENABLE is set and the port may train again. -/
def portOn (p : Nat) (s : State) : State :=
  match s.link? p with
  | none => s
  | some _ => (s.wb (Reg.portCtl p) 0 true).modLink p (fun l => { l with trainOffUntil := none })

/-- DISABLE_DURING_TRAINING_TIMEOUT (R62): the LTSSM goes to Disabled. -/
def disableTimeout (p : Nat) (s : State) : State :=
  match (s.link? p).bind Link.trainOffUntil with
  | some t => enterDisabled p (s.reach t)
  | none => s

/-- DISABLE_DURING_TRAINING_TIMEOUT. -/
def execDisableDuringTrainingTimeout (p : Nat) (s : State) : Host.Outcome State Fault Refusal :=
  .next (disableTimeout p s)

/-- PORT_RETRAIN (R63): during an attempt or a Recovery RETRAIN waits for its end; otherwise the retrain starts now. -/
def portRetrain (p : Nat) (s : State) : State :=
  match s.link? p with
  | none => s
  | some l =>
    if l.attempting then s.wb (Reg.portCtl p) 1 true
    else startAttempt p (s.wb (Reg.portCtl p) 1 true)

/-- IDE_KEY_PROGRAM (R47): keys for the port's streams; IDE_STATUS and LINK_STATUS.IDE_ACTIVE. Absent on LEGACY-DEVICE
ports. -/
def ideProgram (p : Nat) (mem ioLink : Bool) (sel : Nat) (skid active : Bool) (s : State) : State :=
  if (s.link? p).isSome && s.role p != 3 && s.linkIsUp p then
    (s.wr (Reg.ideStatus p) (mkFld 11 8 (min sel 4) ||| mkFld 3 3 (b2n mem) ||| mkFld 2 2 (b2n ioLink)
      ||| mkFld 1 1 (b2n skid) ||| mkFld 0 0 1)).wb (Reg.linkStatus p) 23 active
  else s

/-- IDE_KEY_PROGRAM. -/
def execIdeKeyProgram (p : Nat) (mem ioLink : Bool) (sel : Nat) (skid active : Bool) (s : State) :
    Host.Outcome State Fault Refusal := .next (ideProgram p mem ioLink sel skid active s)

/-- R47: does the port carry traffic other than configuration and DOE? -/
def ideOk (s : State) (p : Nat) : Bool := !s.rb (Reg.portCfg p) 30 || s.rb (Reg.linkStatus p) 23

/-- Does the port take requests: its link is up, and its request credits have not stopped, for the drain of the port (R61, R62) or in
DRAIN on a HOST or ISL port (R422)? -/
def portTakes (s : State) (p : Nat) : Bool :=
  s.linkIsUp p && ((s.link? p).bind Link.drainUntil).isNone && !(decide (s.mode = .drain) && (s.role p == 1 || s.role p == 4))

/-- Request-with-data credits by a port's role and width: 16 × width on HOST and ISL ports (R49). -/
def rwdLimit (s : State) (p : Nat) : Nat := 16 * lanesOf (s.rf (Reg.linkStatus p) 12 10)

/-- Request-with-data credits that a port advertises now: as many as both its pipelines have filled with trackers (R264). -/
def rwdCredits (s : State) (p : Nat) : Nat :=
  min (rwdLimit s p) (min (tgetD s.bridge.rwd (2 * p) 0) (tgetD s.bridge.rwd (2 * p + 1) 0))

/-- CREDIT_STATUS: the credit table by role; 0 with the link down (R49). -/
def readCreditStatus (s : State) (p : Nat) : Word :=
  if !s.linkIsUp p then 0#64 else
  let lanes := lanesOf (s.rf (Reg.linkStatus p) 12 10)
  let l := s.link? p
  match s.role p with
  | 1 => mkFld 58 48 256 ||| mkFld 40 32 64 ||| mkFld 25 16 (rwdCredits s p) ||| mkFld 8 0 (16 * lanes)
  | 2 => mkFld 58 48 1024
  | 3 => mkFld 58 48 (if s.rf (Reg.linkStatus p) 25 24 = 2 then 1024
      else if (l.map Link.tag10).getD false && ((tget s.bridge.legs p).map Leg.tag10).getD false then 768 else 256)
  | 4 => mkFld 58 48 1024 ||| mkFld 40 32 64 ||| mkFld 25 16 (rwdCredits s p) ||| mkFld 8 0 (16 * lanes)
  | 5 => mkFld 58 48 1024 ||| mkFld 25 16 512
  | _ => 0#64

end Sys2Proof.Machine
end

