-- ==== Sys2Proof/Machine/Xlate.lean ====
section
/-! DEFINITION. Address translation: windows, interleave, extents, backings and the HBM address map (03, R65-R77,
R172-R176, R250). -/
namespace Sys2Proof.Machine

/-! ## The HBM map, R172-R176 -/

/-- First MiB of the pool-data region. -/
def poolBaseMib (t : Tables) : Nat := 512 + t.ttabMib + 16 + 256 + t.granaryMib + t.tallyMib

/-- Extents of the pool-data region. -/
def poolExtents (t : Tables) : Nat := (196608 - poolBaseMib t) / 256

/-- Region `k` (0-6) of the carve-out, then the retirement reserve (7): base and size in MiB. -/
def carveOf (t : Tables) (k : Nat) : Nat × Nat :=
  match k with
  | 0 => (0, 512)
  | 1 => (512, t.ttabMib)
  | 2 => (512 + t.ttabMib, 16)
  | 3 => (528 + t.ttabMib, 256)
  | 4 => (784 + t.ttabMib, t.granaryMib)
  | 5 => (784 + t.ttabMib + t.granaryMib, t.tallyMib)
  | 6 => (poolBaseMib t, poolExtents t * 256)
  | _ => if t.reserve = 0 then (0, 0)
         else (poolBaseMib t + (poolExtents t - 7 * t.reserve) * 256, 7 * t.reserve * 256)

/-- The channel of an HBM address, R175. -/
def chanOf (h : Nat) : Nat :=
  let g := h / 256
  let q := g / 128
  ((g % 128) ^^^ (q % 128)) ^^^ (((q / 128) % 128) ^^^ ((q / 16384) % 128))

/-- The HBM address of a pool-data offset, R176: a moved granule lies at its new place. -/
def hbmAddr (s : State) (d : Nat) : Nat :=
  let h := poolBaseMib s.tabs * 2 ^ 20 + d
  match tget s.home.moved (h / 256) with
  | some g => g * 256 + h % 256
  | none => h

/-- The ring stop of a channel's memory stop (stops of every ring plane, 08). -/
def memStop (ch : Nat) : Nat :=
  match ch / 32 with | 0 => 2 | 1 => 22 | 2 => 26 | _ => 46

/-- The ring stop of a pipeline. -/
def bpStop (bp : Nat) : Nat :=
  let k := bp % 8
  (if bp < 8 then 0 else 24) + (if k < 4 then 14 + 2 * k else 3 + 2 * (k - 4))

/-- The ring stop of a cluster: the one after its pipeline. -/
def clusterStop (c : Nat) : Nat := bpStop c + 1

/-- The tick unit's stop, and the pair logic's, on the die of a channel. -/
def tickStop (ch : Nat) : Nat := if ch < 64 then 12 else 36
def pairStop (ch : Nat) : Nat := if ch < 64 then 23 else 47

/-- The plane of a line address L, R250. -/
def planeOf (l : Nat) : Nat :=
  ((((l % 512) ^^^ ((l / 2 ^ 9) % 512)) ^^^ ((l / 2 ^ 18) % 512)) ^^^
    (((l / 2 ^ 27) % 512) ^^^ ((l / 2 ^ 36) % 32))) % 24

/-! ## Accesses at a channel, R180 -/

/-- The HBM line (before moved granules) of a pool-data offset, R176. -/
def hlineOf (s : State) (dpa : Nat) : Nat := (poolBaseMib s.tabs * 2 ^ 20 + dpa) / 64

/-- The channel of an HBM line, moved granules taken into account (R175, R176). -/
def chanOfLine (s : State) (hl : Nat) : Nat := chanOf (((tget s.home.moved (hl / 4)).getD (hl / 4)) * 256)

/-- R266: DEADLINE of a request accepted now with a budget in 4 ns units. -/
def deadlineOf (s : State) (b : Nat) : Nat := (s.now / 4 + b) % 65536

/-- R453: a deadline converted to the partner's DTB, in 4 ns units. -/
def toPartner4 (s : State) (d : Nat) : Nat := (((d : Int) + s.pair.dtbOffset / 4) % 65536).toNat

/-- The channel. -/
def State.chan (s : State) (c : Nat) : Chan := tgetD s.home.chans c newChan

/-- Change a channel. -/
def State.modChan (c : Nat) (f : Chan → Chan) (s : State) : State :=
  { s with home.chans := tput newChan s.home.chans c (f (s.chan c)) }

/-- May an access be taken by its channel: room in the read queue, or in the write buffer, or a line to merge with
(R180)? -/
def chRoom (s : State) (hl : Nat) (write : Bool) : Bool :=
  let c := s.chan (chanOfLine s hl)
  if write then decide (c.wbuf.length < 64) || c.wbuf.any (fun e => e.hline == hl)
  else decide (c.readQ.length < 64) || c.wbuf.any (fun e => e.hline == hl)

/-- The channel takes a read: into its queue, or served at once from the write buffer that holds the line (R180). -/
def takeReadQ (a : ChAcc) (s : State) : State :=
  s.modChan (chanOfLine s a.hline) (fun c =>
    let a := { a with since := s.now }
    if c.wbuf.any (fun e => e.hline == a.hline) then { c with reading := c.reading ++ [{ a with buffered := true }] }
    else { c with readQ := c.readQ ++ [a] })

/-- The access of the device's own reads and copies. -/
def ownAcc (deadline : Nat) : LAcc :=
  { who := .own, host := 0, cached := false, op := .read .noOp, addr := 0, pool := 0, dpa := 0, win := 0, shared := false,
    mirror := false, rw := false, deadline, slice := none, contrib := none, second := false }

/-- A read goes to its channel's queue, or waits for room in it. -/
def queueRead (c : ChAcc) (s : State) : State :=
  if chRoom s c.hline false then takeReadQ c s else { s with home.chWait := s.home.chWait ++ [{ c with since := s.now }] }

/-- The device's own read of an HBM line. -/
def ownRead (job : ChJob) (hl stop deadline : Nat) : ChAcc :=
  { acc := ownAcc deadline, hline := hl, stop, plane := 0, since := 0, entry := false, write := false, background := false,
    priv := none, job }

/-- The read that a channel has issued for a job: channel, place, access. -/
def readingJob (s : State) (j : ChJob) : Option (Nat × Nat × ChAcc) :=
  s.home.chans.findSome? (fun e =>
    (e.2.reading.zipIdx.find? (fun x => decide (x.1.job = j))).map (fun x => (e.1, x.2, x.1)))

/-- The issued read of a channel is over. -/
def dropReading (c k : Nat) (s : State) : State := s.modChan c (fun x => { x with reading := dropAt x.reading k })

/-- What the issued read of a job returns is discarded. -/
def forsake (j : ChJob) (s : State) : State :=
  { s with home.chans := tmap (fun _ x =>
      { x with reading := x.reading.map (fun a => if a.job = j then { a with job := .access } else a) }) s.home.chans }

/-- The first TAG, from a place on, that is not in use. -/
def freeFrom (start : Nat) (used : List Nat) : Option Nat :=
  ((List.range 256).map (fun i => (start + i) % 256)).find? (fun g => !used.contains g)

/-! ## Windows and extents, R65-R77 -/

/-- The window that a host's address matches, and the reduce-alias slice it lies in (R65, R71, R72, R215). -/
def matchWindow (s : State) (h addr : Nat) : Option (Nat × Win × Option Nat × Nat) :=
  (s.tabs.windows.findSome? (fun (e : Nat × Win) =>
    let w := e.2
    let size := w.extCount * 2 ^ 28
    if w.host ≠ h then none
    else if w.hbase * 2 ^ 28 ≤ addr ∧ addr < w.hbase * 2 ^ 28 + size then
      some (e.1, w, none, addr - w.hbase * 2 ^ 28)
    else if w.tick ∧ w.rbase * 2 ^ 28 ≤ addr ∧ addr < w.rbase * 2 ^ 28 + 16 * size then
      some (e.1, w, some ((addr - w.rbase * 2 ^ 28) / size), (addr - w.rbase * 2 ^ 28) % size)
    else none))

/-- Extent slot and offset in the extent of a window offset, R77. -/
def slotOf (w : Win) (o : Nat) : Nat × Nat :=
  let ways := waysOf w.iw
  let g := 256 * 2 ^ w.ig
  let x := o / (ways * 2 ^ 28)
  let r := o % (ways * 2 ^ 28)
  let c := r / g
  (x * ways + c % ways, (c / ways) * g + r % g)

/-- The range of a host's pool-view decoder, R67: base and end. -/
def decoderRange (t : Tables) (h : Nat) : Nat × Nat :=
  let rs := ((t.windows.filter (fun e => e.2.host == h)).map (fun e => e.2.ranges)).flatten
  match rs with
  | [] => (0, 0)
  | r :: rest => rest.foldl (fun a b => (min a.1 b.1, max a.2 (b.1 + b.2))) (r.1, r.1 + r.2)

/-- The device physical address a pool view reports for a host-side address (R67, R137). -/
def viewDpa (t : Tables) (h addr : Nat) : Nat := addr - (decoderRange t h).1

/-- The backing that holds a pool extent, R68. -/
def backingFor (t : Tables) (ext : Nat) : Option Backing := (t.backings.find? (fun e => e.2.holds ext)).map (·.2)

/-- The device physical address of a pool address in its backing, R68. -/
def dpaOf (b : Backing) (pool : Nat) : Nat := (b.dbase + pool / 2 ^ 28 - b.pbase) * 2 ^ 28 + pool % 2 ^ 28

/-- The target of a pool address: its kind and its device physical address, R68, R145. -/
def targetOf (t : Tables) (tick : Bool) (pool : Nat) : Option (Target × Nat) :=
  (backingFor t (pool / 2 ^ 28)).map (fun b =>
    (match b.typ with
      | 0 => if tick then .tick else .hbm
      | 1 => .legacy b.port
      | 2 => .fabric b.port
      | _ => .isl b.port b.pbr, dpaOf b pool))

/-- Check 6 of R87 for a target: its port is up, or is a contained legacy port, and the extent is within capacity. -/
def reachable (s : State) (pool : Nat) : Target → Bool
  | .hbm | .tick | .hostLink _ | .partner => true
  | .legacy p => (s.linkIsUp p || ((tget s.links p).map (·.contained)).getD false) && !s.xl.short.contains (pool / 2 ^ 28)
  | .fabric p => s.linkIsUp p && !s.xl.short.contains (pool / 2 ^ 28)
  | .isl p _ => s.linkIsUp p

/-! ## Who serves a window, R450, R459, R466 -/

/-- Where a set or an unmirrored home of `m` is served: `none` offline, `some true` at the partner, `some false` here. -/
def homeServed (s : State) (mirror : Bool) (m : Nat) : Option Bool :=
  let p := s.pair
  if !p.present then some false
  else
    let here := if mirror then p.holder.getD m 2 == p.member else m == p.member
    if mirror && p.offline.getD m false then none
    else if here then some false
    else if p.waitUntil.isSome || p.tkOpen.isSome then some true
    else match p.state with
      | .syncing | .formed => some true
      | .none | .waiting | .linkLost | .partnerLost | .dissolved => none

/-- Is the window served, and where? -/
def winServed (s : State) (w : Win) : Option Bool := homeServed s w.mirror w.home

/-! ## The checks of R87 up to the extent entry -/

/-- What translation gives before the extent entry is read. -/
inductive Pre where
  /-- ends with a kind; a violation names its type -/
  | fail (k : ErrKind) (vio : Nat) (win : Option Nat)
  | go (win : Nat) (w : Win) (slot off : Nat) (slice : Option Nat) (remote : Bool)
  deriving DecidableEq, Repr

/-- Checks 1 to 3 of R87. -/
def preCheck (s : State) (h addr : Nat) (write : Bool) : Pre :=
  if addr ≥ 2 ^ 52 then .fail .violation 1 none
  else match matchWindow s h addr with
    | none => .fail .violation 1 none
    | some (n, w, slice, o) =>
      match winServed s w with
      | none => .fail .offline 0 (some n)
      | some remote =>
        if write && !w.rw then .fail .violation 2 (some n)
        else .go n w (slotOf w o).1 (slotOf w o).2 slice remote

/-- What the extent entry gives: checks 4 and 6 of R87, and the targets (R73, R93). -/
inductive Post where
  | fail (k : ErrKind) (vio : Nat)
  | go (pool : Nat) (target : Target) (dpa : Nat) (also : Option (Nat × Target × Nat))
  deriving DecidableEq, Repr

/-- Checks 4 and 6 for extent slot `slot` of window `w`. -/
def postCheck (s : State) (w : Win) (slot off : Nat) (write : Bool) : Post :=
  match tget s.tabs.extents (w.extFirst + slot) with
  | none => .fail .violation 1
  | some e =>
    if e.st = .absent then .fail .violation 1
    else
      let pool := e.pool * 2 ^ 28 + off
      match targetOf s.tabs w.tick pool with
      | none => .fail .unreachable 0
      | some (t, d) =>
        if !reachable s pool t then .fail .unreachable 0
        else if e.st = .migrating ∧ write then
          let pool2 := e.newPool * 2 ^ 28 + off
          match targetOf s.tabs w.tick pool2 with
          | none => .fail .unreachable 0
          | some (t2, d2) =>
            if !reachable s pool2 t2 then .fail .unreachable 0
            else .go (pool / 64) t d (some (pool2 / 64, t2, d2))
        else .go (pool / 64) t d none

/-- R70: an access to an extent beyond its backing's capacity sets BACKING_SHORT. -/
def noteShort (win slot die : Nat) (s : State) : State :=
  match (tget s.tabs.windows win).bind (fun w => tget s.tabs.extents (w.extFirst + slot)) with
  | some e =>
    if s.xl.short.contains e.pool || (decide (e.st = .migrating) && s.xl.short.contains e.newPool) then s.xlateEvent 8 die
    else s
  | none => s

/-! ## The translation cache, R78 -/

/-- Is the slot in the die's cache? -/
def cacheHit (s : State) (die win slot : Nat) : Bool := s.xl.cache.contains (die, win, slot)

/-- Install a slot: a full set of 16 ways gives up one entry (pseudo-LRU, assumption 3). -/
def cacheInstall (die win slot : Nat) (s : State) : State :=
  if cacheHit s die win slot then s
  else
    let set := Config.xlatSet win slot % 4096
    let same := s.xl.cache.filter (fun e => e.1 == die && Config.xlatSet e.2.1 e.2.2 % 4096 == set)
    let cache :=
      if same.length < 16 then s.xl.cache
      else match same[Config.xlatVictim s.fresh % 16]? with
        | some v => s.xl.cache.filter (fun e => e != v)
        | none => s.xl.cache
    { s with
      xl.cache := cache ++ [(die, win, slot)],
      fresh := s.fresh + 1 }

/-- Is the fill function host-assisted (function 1)? -/
def fillAssist (s : State) : Bool := s.assist 1

/-- The line of the translation-table region that holds an extent entry; entry 0 lies at the region's base (assumption 75). -/
def extHline (i : Nat) : Nat := 512 * 2 ^ 14 + i / 4

/-- The extent entry of a window's slot. -/
def slotEntry (s : State) (win slot : Nat) : Option Ext :=
  (tget s.tabs.windows win).bind (fun w => tget s.tabs.extents (w.extFirst + slot))

/-- The deadline of a request that has missed. -/
def whoDeadline (s : State) : Who → Nat
  | .trk k => ((tget s.bridge.trks k).map Trk.deadline).getD (deadlineOf s 32767)
  | .eng e g => (((tget s.mill.engs e).bind (fun x => tget x.acc g)).map FarAcc.deadline).getD (deadlineOf s 32767)
  | .own => deadlineOf s 32767

/-- The walker's read of an extent entry, from its stop XW_W or XW_E, with the deadline of the request that missed (R78, R248). -/
def readEntry (die win slot deadline : Nat) (s : State) : State :=
  queueRead (ownRead (.walk die win slot) (extHline (((tget s.tabs.windows win).map Win.extFirst).getD 0 + slot))
    (if die = 0 then 13 else 37) deadline) s

/-- A walk for requests that have missed: they join the one in progress, start one, or wait for one of the die's 256 (R78). -/
def beginWalk (die win slot : Nat) (ws : List Who) (s : State) : State :=
  if s.xl.walks.any (fun w => w.die == die && w.win == win && w.slot == slot) then
    { s with
      xl.walks := s.xl.walks.map (fun w =>
        if w.die == die && w.win == win && w.slot == slot then { w with waiters := w.waiters ++ ws } else w) }
  else if (s.xl.walks.filter (fun w => w.die == die)).length < 256 then
    readEntry die win slot ((ws.head?.map (whoDeadline s)).getD (deadlineOf s 32767))
      { s.count 0x1020 48 1 with
        xl.walks := s.xl.walks ++ [{ die, win, slot, waiters := ws }] }
  else
    { s with
      xl.queue := s.xl.queue ++ ws.map (fun who => (die, win, slot, who)) }

/-- Register a miss: join the fill window that is open for the slot, or a walk (R78, R81). -/
def startMiss (die win slot : Nat) (who : Who) (s : State) : State :=
  let s := s.count (0x1010 + 8 * die) 48 1
  if s.xl.fills.any (fun f => f.die == die && f.win == win && f.slot == slot) then
    { s with
      xl.fills := s.xl.fills.map (fun f =>
        if f.die == die && f.win == win && f.slot == slot then { f with waiters := f.waiters ++ [who] } else f) }
  else beginWalk die win slot [who] s

/-- TRANSLATION_WALK_START: the oldest miss that waits for a walk of the die starts it, with every waiting miss on the
same slot (R78). -/
def walkStart (die : Nat) (s : State) : State :=
  match s.xl.queue.find? (fun q => q.1 == die) with
  | none => s
  | some (_, win, slot, _) =>
    if (s.xl.walks.filter (fun w => w.die == die)).length < 256 then
      let mine := s.xl.queue.filter (fun q => q.1 == die && q.2.1 == win && q.2.2.1 == slot)
      let rest := s.xl.queue.filter (fun q => !(q.1 == die && q.2.1 == win && q.2.2.1 == slot))
      beginWalk die win slot (mine.map (·.2.2.2)) { s with xl.queue := rest }
    else s

/-- R79: the walks of a window that a switch has changed discard what they read and start again; a read that the channel has not
issued yet reads the new entry. -/
def restartWalks (changed : Nat → Bool) (s : State) : State :=
  (s.xl.walks.filter (fun w => changed w.win)).foldl (fun s w =>
    match readingJob s (.walk w.die w.win w.slot) with
    | some (_, _, c) => readEntry w.die w.win w.slot c.acc.deadline ((forsake (.walk w.die w.win w.slot) s).count 0x1020 48 1)
    | none => s) s

/-- R78: TRANSLATION_WALK_START. -/
def execTranslationWalkStart (die : Nat) (s : State) : Host.Outcome State Fault Refusal := .next (walkStart die s)

/-! ## Registers -/

/-- XLATE_STATUS. -/
def readXlateStatus (s : State) : Word :=
  let pend := fun d => (s.xl.walks.filter (fun w => w.die == d)).length
  mkFld 56 48 (pend 1) ||| mkFld 40 32 (pend 0)
    ||| mkFld 20 16 (s.tabs.extents.filter (fun e => decide (e.2.st = .migrating))).length
    ||| mkFld 1 1 (b2n (s.assist 2)) ||| mkFld 0 0 (b2n (s.assist 1))

/-- Trackers, and accesses of engines to HBM, stamped with a generation (GEN_STATUS.LIVE, R90). -/
def genLive (s : State) (g : Nat) : Bool :=
  s.bridge.trks.any (fun e => e.2.gen == some g)
    || s.mill.engs.any (fun e => e.2.acc.any (fun a => a.2.gen == some g))

/-- GEN_STATUS. -/
def readGenStatus (s : State) : Word :=
  (List.range 16).foldl (fun w g => if genLive s g then setBit w (16 + g) else w) (mkFld 3 0 s.xl.curGen)

/-- MIG_STATUS_nn. -/
def readMigStatus (s : State) (n : Nat) : Word :=
  match tget s.xl.migs n with
  | some m => mkFld 63 62 m.st ||| mkFld 58 40 m.ext ||| mkFld 22 0 m.lines
  | none => 0#64

/-- CARVE_k. -/
def readCarve (s : State) (k : Nat) : Word :=
  let c := carveOf s.tabs k
  mkFld 49 32 c.2 ||| mkFld 17 0 c.1

end Sys2Proof.Machine
end

