-- ==== Sys2Proof/Machine/Bridge.lean ====
section
/-! DEFINITION. The fabric side of the bridge: trackers, deadlines, requests of hosts and their answers, walks and
fills (03, 04, 05). -/
namespace Sys2Proof.Machine

/-! ## Trackers, R104-R107 -/

/-- The tracker at a key. -/
def State.trk? (s : State) (k : Nat) : Option Trk := tget s.bridge.trks k

/-- Change a tracker. -/
def State.modTrk (k : Nat) (f : Trk → Trk) (s : State) : State := { s with bridge.trks := tmod s.bridge.trks k f }

/-- Trackers of a pipeline that are not FREE. -/
def trksOf (s : State) (bp : Nat) : List (Nat × Trk) := s.bridge.trks.filter (fun e => e.1 / 4096 == bp)

/-- BRIDGE_CTL.RSV_LEGACY and RSV_HOSTIO as they act. -/
def rsvLegacy (s : State) : Nat := min 1024 (s.rf Reg.bridgeCtl 27 16)
def rsvHostIo (s : State) : Nat := min 256 (s.rf Reg.bridgeCtl 11 0)

/-- Trackers that a pipeline holds for a HOST or ISL port's requests with data: 16 × width at most, 0 while its link is down,
and no more than it has filled (R264). -/
def rwdHeld (s : State) (bp p : Nat) : Nat :=
  if s.linkIsUp p && (s.role p == 1 || s.role p == 4) then min (rwdLimit s p) (tgetD s.bridge.rwd (2 * p + bp % 2) 0) else 0

/-- HOST and ISL ports of a pipeline's chiplet. -/
def rwdPorts (s : State) (bp : Nat) : List Nat :=
  s.portList.filter (fun p => p / 64 == bp / 2 && (s.role p == 1 || s.role p == 4))

/-- Trackers of a share that a pipeline holds. -/
def shareUsed (s : State) (bp : Nat) (x : Share) : Nat := ((trksOf s bp).filter (fun e => decide (e.2.share = x))).length

/-- The unused part of every reservation of a pipeline, the share `x` left out (R106, R264). -/
def rsvUnused (s : State) (bp : Nat) (x : Share) : Nat :=
  let part := fun (y : Share) (n : Nat) => if y = x then 0 else n - shareUsed s bp y
  part .legacy (rsvLegacy s) + part .hostIo (rsvHostIo s)
    + ((rwdPorts s bp).map (fun p => part (.rwd p) (rwdHeld s bp p))).sum

/-- The reservation of a share. -/
def rsvOf (s : State) (bp : Nat) : Share → Nat
  | .general => 0
  | .legacy => rsvLegacy s
  | .hostIo => rsvHostIo s
  | .rwd p => rwdHeld s bp p

/-- May `n` trackers be given to requests of share `x`? Inside the share's reservation always; with some beyond it, which come
from the general trackers, while the free trackers left still cover the unused part of the other reservations (R106). -/
def canAlloc (s : State) (bp : Nat) (x : Share) (n : Nat) : Bool :=
  let used := (trksOf s bp).length
  decide (used + n ≤ 4096) &&
    (decide (shareUsed s bp x + n ≤ rsvOf s bp x) || decide (rsvUnused s bp x ≤ 4096 - (used + n)))

/-- A pipeline fills the reservation of one of its ports from its free trackers, as far as the unused parts of the others leave
room, and lets go what a narrower or a downed link no longer needs (R264). -/
def fillRwdPort (bp p : Nat) (s : State) : State :=
  let want := if s.linkIsUp p then rwdLimit s p else 0
  let have_ := rwdHeld s bp p
  let spare := 4096 - (trksOf s bp).length - rsvUnused s bp .general
  { s with bridge.rwd := tput 0 s.bridge.rwd (2 * p + bp % 2) (min want (have_ + spare)) }

/-- Every pipeline does (R264). -/
def fillRwd (s : State) : State :=
  (s.portList.filter (fun p => s.role p == 1 || s.role p == 4)).foldl (fun s p =>
    fillRwdPort (2 * (p / 64) + 1) p (fillRwdPort (2 * (p / 64)) p s)) s

/-- TRK_STATUS.HIGH_WATER follows the trackers in use. -/
def noteHigh (bp : Nat) (s : State) : State :=
  { s with bridge.high := tput 0 s.bridge.high bp (max (tgetD s.bridge.high bp 0) (trksOf s bp).length) }

/-- Give a tracker of a pipeline: the lowest index that is FREE. -/
def allocTrk (bp : Nat) (t : Trk) (s : State) : Option Nat × State :=
  match tfree s.bridge.trks (bp * 4096) 4096 with
  | none => (none, s)
  | some k => (some k, noteHigh bp { s with bridge.trks := tset s.bridge.trks k { t with accepted := s.now } })

/-- A tracker returns to FREE; its response credit ends with it (R107, R151). -/
def freeTrk (k : Nat) (s : State) : State := { s with bridge.trks := terase s.bridge.trks k }

/-- R35: the pipeline of a fabric-side port that a line address goes to. -/
def pipeOf (p line : Nat) : Nat := 2 * (p / 64) + b2n (Config.pipeHash line)

/-- The queue in which a request waits (R50, R109): by pipeline for CXL.mem, by class for a legacy port's TLPs. -/
def Ingress.key : Ingress → Nat × Nat
  | .mem p r => (p, 4 + pipeOf p (r.addr / 64) % 2)
  | .legWrite p _ | .legWire p _ _ _ | .legMsg p _ _ => (p, 1)
  | .legRead p _ | .legAtom p _ _ | .legZero p _ => (p, 2)
  | .io p _ _ => (p, 3)
  | .fwd .. => (512, 4)

/-- Does the port on which a request arrived take requests now (R61, R62)? -/
def ingressOpen (s : State) (g : Ingress) : Bool := match g.port with | some p => portTakes s p | none => true

/-- May a request be taken at once: its port takes requests and nothing waits in its queue? -/
def firstIn (s : State) (g : Ingress) : Bool := ingressOpen s g && s.bridge.waiting.all (fun b => b.2.key != g.key)

/-- A request waits for room. -/
def waitIn (bp : Nat) (g : Ingress) (s : State) : State := { s with bridge.waiting := s.bridge.waiting ++ [(bp, g)] }

/-- The shape of a tracker before its translation. -/
def newTrk (src : Src) (host : Nat) (share : Share) (op : LineOp) (addr deadline : Nat) : Trk :=
  { st := .translate, src, host, share, op, addr, win := 0, slot := 0, slice := none, deadline, gen := none, pool := 0,
    target := .hbm, dpa := 0, also := none, owed := 0, tag := none, accepted := 0, issuedAt := 0, timer := 0,
    synth := false, heldAt := 0, ans := none, seq := 0, tlp := none, orphan := false, rsp := [], outRsp := [] }

/-- R278: a recomputation of the contracts is due. -/
def capacityChanged (s : State) : State := { s with rings.dirty := true }

/-! ## Egress and ring injection -/

/-- The legacy part of a port. -/
def State.leg? (s : State) (p : Nat) : Option Leg := tget s.bridge.legs p

/-- Change the legacy part of a port. -/
def State.modLeg (p : Nat) (f : Leg → Leg) (s : State) : State := { s with bridge.legs := tmod s.bridge.legs p f }

/-- PORT_CFG.LEGACY_INDEX. -/
def legIndex (s : State) (p : Nat) : Nat := s.rf (Reg.portCfg p) 55 48

/-- An item takes its place at the egress of a port (one queue a legacy port, one each other port). An answer for a
port whose link is down is discarded and counted (R61). -/
def toEgress (p : Nat) (e : Egr) (s : State) : State :=
  if (s.leg? p).isSome then s.modLeg p (fun l => { l with egress := l.egress ++ [e] })
  else if !s.linkIsUp p then s.count (cntPort p 0x38) 48 1
  else { s with bridge.egress := tset s.bridge.egress p (tgetD s.bridge.egress p [] ++ [e]) }

/-- R107: a target stop returns a tracker's response credit as the response leaves the stop. -/
def returnRsp (u : RUnit) (s : State) : State :=
  match u.body with
  | .rsp (.trk k) _ => s.modTrk k (fun t => { t with rsp := t.rsp.erase (u.plane, u.src) })
  | _ => s

/-- A unit waits for its injection; with source and destination at one stop it is there at once. -/
def injectUnit (u : RUnit) (s : State) : State :=
  let u := { u with since := s.now }
  if u.src = u.dst then returnRsp u { s with rings.flight := s.rings.flight ++ [u] }
  else { s with rings.wait := s.rings.wait ++ [u] }

/-- A unit with the fields every unit has. -/
def mkUnit (plane src dst cls deadline len : Nat) (host : Option Nat) (body : UBody) : RUnit :=
  { plane, src, dst, cls, deadline, len, poison := false, host, priv := none, since := 0, credit := 0, body }

/-- The stop to which an answer for `w` goes. -/
def whoStop : Who → Nat
  | .trk k => bpStop (k / 4096)
  | .eng e _ => clusterStop (e / 8)
  | .own => 23

/-- An answer leaves a target on the plane of its request (R250). -/
def sendAnswer (plane src deadline : Nat) (host : Option Nat) (w : Who) (a : Answer) (s : State) : State :=
  match w with
  | .own => s
  | w => injectUnit { mkUnit plane src (whoStop w) 1 deadline 1 host (.rsp w a) with poison := a.poison } s

/-- The answer of a request that ends without data or error. -/
def okAnswer : Answer := { kind := none, data := 0#512, poison := false, grant := .none, old := 0, second := false }

/-- The answer of a request that ends with a kind (R136: poisoned MemData has all bytes 0). -/
def errAnswer (k : ErrKind) : Answer := { okAnswer with kind := some k, poison := true }

/-! ## Records and events of the bridge, 05 -/

/-- The information bytes of the bridge's records: kind in byte 0, tag in bytes 2-3, legacy index in byte 4 and its
valid bit in byte 5. -/
def bxInfo (kind : Option ErrKind) (tag : Nat) (leg : Option Nat) : Nat :=
  ((kind.map ErrKind.code).getD 0) + (tag % 65536) * 2 ^ 16
    + (match leg with | some i => i * 2 ^ 32 + 2 ^ 40 | none => 0)

/-- A record of a legacy port. -/
def legRecord (cls : Nat) (sev : Sev) (p : Nat) (kind : Option ErrKind) (tag : Nat) (s : State) : State :=
  s.raise cls sev .legacy (legIndex s p) (bxInfo kind tag (some (legIndex s p)))

/-- A record of a pipeline. -/
def pipeRecord (cls : Nat) (sev : Sev) (bp : Nat) (kind : Option ErrKind) (tag : Nat) (s : State) : State :=
  s.raise cls sev .pipeline bp (bxInfo kind tag none)

/-- BRIDGE_EVENTS, with its record class 0x12. -/
def bridgeEvent (bit bp : Nat) (s : State) : State := s.setRecEvent Reg.bridgeEvents bit 0x12 .pipeline bp

/-- The number of an event log of a host's pool view. -/
def viewLog (h : Nat) (v : EvSev) : Nat :=
  4 * h + match v with | .info => 0 | .warning => 1 | .failure => 2 | .fatal => 3

/-- An event record of a pool view (R137, R168, R96, R97): a full log keeps its oldest records, and counts and indicates what it
loses (R170). A record is signalled where the host has made an interrupt announce its log (R137; assumption 70). -/
def viewEvent (r : ViewRec) (s : State) : State :=
  let n := (s.bridge.views.filter (fun v => v.host == r.host && decide (v.sev = r.sev))).length
  let log := viewLog r.host r.sev
  if n < Config.viewLogSize then
    let s := { s with bridge.views := s.bridge.views ++ [r] }
    if s.bridge.viewSignal.contains log then
      match s.hostUpPort r.host with
      | some q => s.emit (.viewInterrupt q r.sev)
      | none => s
    else s
  else { s with bridge.viewOvf := tput 0 s.bridge.viewOvf log (satAdd 16 (tgetD s.bridge.viewOvf log 0) 1) }.setEvent Reg.bxgEvents 1

/-- The General Media Event record of a failed write, R137. -/
def mediaRec (s : State) (h addr : Nat) (k : ErrKind) : ViewRec :=
  { host := h, sev := .failure, typ := match k with | .violation | .offline => 0 | _ => 1, dpas := [viewDpa s.tabs h addr] }

/-- The record in the requester's pool view, R137. -/
def mediaEvent (h addr : Nat) (k : ErrKind) (s : State) : State := viewEvent (mediaRec s h addr k) s

/-- Is the partner of an ISL port a PBR switch that is no Sirjo? -/
def islSwitch (s : State) (p : Nat) : Bool := ((tget s.links p).map (fun l => decide (l.partner = .switch))).getD false

/-- A write or invalidation of a host or of an ISL partner ends in an error: for a host the record of R137; for another Sirjo the
message of R138, which goes with the Cmp (`islErrOf`) and has its own pool view hold the record; for another PBR switch a record
in the fabric manager's event log only (assumption 66). -/
def writeFailed (p h addr : Nat) (k : ErrKind) (isl : Bool) (s : State) : State :=
  if !isl then mediaEvent h addr k s
  else if islSwitch s p then s.toFm (.mediaEvent p (mediaRec s h addr k))
  else s

/-- R138: the message that follows the Cmp of a failed write toward another Sirjo. -/
def islErrOf (s : State) (p tag : Nat) (k : ErrKind) (isl : Bool) : Option (Nat × ErrKind) :=
  if isl && !islSwitch s p then some (tag, k) else none

/-- The violation log entry of a tracker's request (R24, R495). -/
def trkViolation (typ : Nat) (win : Option Nat) (contrib : Nat) (t : Trk) (s : State) : State :=
  let port := match t.src with
    | .host p _ | .isl p _ | .io p _ _ => p
    | .eng _ _ _ | .twin _ _ _ => 0
    | .leg i _ => ((tget s.bridge.items i).map (·.port)).getD 0
  let kind := match t.src with
    | .host _ _ | .twin _ _ _ => 1 | .io _ _ _ => 2 | .leg _ _ => 3 | .eng _ _ _ => 4 | .isl _ _ => 5
  let engine := match t.src with | .eng e _ _ => e | _ => 0
  let op := match t.op with
    | .read _ | .specRd | .inv | .clnEvct => 0
    | .atom .. => 3
    | .write .. => if t.slice.isSome then 2 else 1
  let reqId := match t.src with
    | .leg i _ => ((tget s.bridge.items i).map (fun x =>
        match x.body with | .read r | .zlr r => r.reqId | .atom r _ => r.reqId | _ => x.reqId)).getD 0
    | .io _ r _ => r
    | _ => 0
  s.violation
    { dtb := 0, typ, addrKind := 1, addr := t.addr % 2 ^ 52, reqKind := kind, host := t.host, port, engine, reqId,
      contrib, vseq := 0, op, object := win.getD 0x3FFFF }

/-! ## Answers to hosts and ISL partners, R110, R136, R137 -/

/-- Is the operation a write of the CXL.mem channel? -/
def LineOp.isWrite : LineOp → Bool
  | .write .. | .atom .. => true
  | .read _ | .specRd | .inv | .clnEvct => false

/-- Does the operation return data? -/
def LineOp.isRead : LineOp → Bool
  | .read _ => true
  | .specRd | .inv | .clnEvct | .write .. | .atom .. => false

/-- How many bytes a byte mask names. -/
def maskBytes (m : BitVec 64) : Nat := ((List.range 64).filter (fun i => m.getLsbD i)).length

/-- BYTES_READ and BYTES_WRITTEN of a host's account step by what a line operation that ended without an error has returned
or written (R531). -/
def countBytes (h : Nat) (op : LineOp) (s : State) : State :=
  match op with
  | .read _ => s.count (cntHost h 0x18) 48 64
  | .write _ m _ _ _ => s.count (cntHost h 0x20) 48 (maskBytes m)
  | .atom op _ _ => s.count (cntHost h 0x20) 48 op.size
  | .specRd | .inv | .clnEvct => s

/-- The contained port whose CONTAINED answer a tracker's answer is (R156). -/
def oweOf (t : Trk) (k : Option ErrKind) : Option Nat :=
  match k, t.target with | some .contained, .legacy p => some p | _, _ => none

/-- Hand the answer of a CXL.mem request to the egress of the port it came in on. The answer of a request whose port went down
in the meantime is discarded and counted (R61). -/
def answerMem (p tag : Nat) (t : Trk) (a : Answer) (isl : Bool) (s : State) : State :=
  let toEgress := fun (p : Nat) (e : Egr) (s : State) => if t.orphan then s.count (cntPort p 0x38) 48 1 else toEgress p e s
  let egr := fun (m : S2M) (g : Grant) =>
    ({ kind := .mem, body := .rsp tag m g, deadline := t.deadline, from_ := none, tag := none, line := 0, read := none,
       since := s.now, group := 4, item := none, owe := oweOf t a.kind } : Egr)
  let failed := fun (k : ErrKind) (s : State) =>
    writeFailed p t.host t.addr k isl (toEgress p { egr .cmp .none with islErr := islErrOf s p tag k isl } s)
  match t.op with
  | .specRd => s
  | .read _ =>
    let s := if a.poison then s.count (cntHost t.host 0x50) 48 1 else s
    match a.kind with
    | none => countBytes t.host t.op s |> toEgress p (egr (.memData a.data a.poison) a.grant)
    | some _ => toEgress p (egr (.memData 0#512 true) .none) s
  | .write .. | .atom .. =>
    match a.kind with
    | none => countBytes t.host t.op s |> toEgress p (egr .cmp .none)
    | some k => failed k s
  | .inv | .clnEvct =>
    match a.kind with
    | none => toEgress p (egr .cmp a.grant) s
    | some k => failed k s

/-! ## What a partner-side access carries -/

/-- The line access of a tracker at a target. -/
def trkAcc (s : State) (k : Nat) (t : Trk) (second : Bool) (pool dpa : Nat) : LAcc :=
  let w := tget s.tabs.windows t.win
  { who := .trk k, host := t.host,
    cached := match t.src with | .host _ _ | .isl _ _ => true | .twin _ c _ => c | _ => false,
    op := t.op, addr := t.addr, pool, dpa, win := t.win, shared := (w.map (·.shared)).getD false, mirror := (w.map (·.mirror)).getD false,
    rw := (w.map (·.rw)).getD false, deadline := t.deadline, slice := t.slice,
    contrib := match t.src with | .eng _ _ c | .twin _ _ c => c | _ => none, second }

/-- R262: a host's write with MetaField Meta0-State to a window with SHARED = 1 travels as BI_RSP. -/
def accClass (a : LAcc) : Nat :=
  match a.op with
  | .write _ _ _ _ v => if a.shared && a.cached && decide (v ≠ .noOp) then 0 else 3
  | _ => 3

/-- R253: the units of an access's packet. -/
def accLen (a : LAcc) : Nat :=
  match a.op with
  | .write _ _ full _ _ => if full then 1 else 2
  | .atom .. => 2
  | .read _ | .specRd | .inv | .clnEvct => 1

/-- The M2S message that a line operation becomes on a legacy or fabric port, R110: none where it is not sent. -/
def m2sOf (op : LineOp) (addr tag bswap : Nat) : Option MemReq :=
  match op with
  | .read _ => some { op := .rd .noOp, addr, tag, data := 0#512, mask := fullMask, poison := false }
  | .specRd => some { op := .specRd, addr, tag, data := 0#512, mask := fullMask, poison := false }
  | .inv | .clnEvct | .atom .. => none
  | .write d m full poison _ =>
    some { op := if full then .wr .noOp else .wrPtl .noOp, addr, tag, data := swapLine bswap d, mask := swapMask bswap m,
           poison }

/-- BSWAP of a window. -/
def winSwap (s : State) (win : Nat) : Nat := ((tget s.tabs.windows win).map (·.bswap)).getD 0

/-- The logical device of the backing that holds a pool line. -/
def ldOf (s : State) (pool : Nat) : Nat := ((backingFor s.tabs (pool / 2 ^ 22)).map (·.ld)).getD 0

/-- A timer value of the decision-point table, in ns (R145). The table has no row for a request forwarded to the twin: the model
gives it HOME_TMO (assumption 69). -/
def timerOf (s : State) : Target → Nat
  | .hbm | .tick => s.rf Reg.bxgCtl 31 16 * 10000
  | .fabric _ | .hostLink _ => s.rf Reg.bxgCtl 47 32 * 10000
  | .isl _ _ => s.rf Reg.bxgCtl 63 48 * 10000
  | .partner => s.rf Reg.bxgCtl 31 16 * 10000
  | .legacy p => (s.rf (Reg.bxeCtl (legIndex s p)) 47 32 + s.rf Reg.bxgCtl 15 8) * 10000

/-! ## Legacy tags, R114 -/

/-- TAG_MODE of a legacy port: 0 CXL, 1 PCIe 8-bit, 2 PCIe 10-bit. -/
def tagMode (s : State) (p : Nat) (l : Leg) : Nat :=
  if s.rf (Reg.linkStatus p) 25 24 == 2 then 0
  else if l.tag10 && ((tget s.links p).map (·.tag10)).getD false then 2 else 1

/-- First tag and number of tags of a mode. -/
def tagRange (mode : Nat) : Nat × Nat := if mode = 0 then (0, 1024) else if mode = 1 then (0, 256) else (256, 768)

/-- The lowest-numbered tag that is free and not in quarantine. -/
def freeTag (s : State) (p : Nat) (l : Leg) : Option Nat :=
  let r := tagRange (tagMode s p l)
  ((List.range r.2).map (· + r.1)).find? (fun t => (tget l.tags t).isNone && (tget l.quar t).isNone)

end Sys2Proof.Machine
end

