-- ==== Sys2Proof/Machine/Streams.lean ====
section
/-! DEFINITION. Streams of a legacy partner: classes, holds, host links and the answers to the partner (R102-R119,
R124-R129, R152, R162-R166). -/
namespace Sys2Proof.Machine

/-! ## Owners and virtual bridges -/

/-- PORT_CFG.OWNED and OWNER_HOST of a legacy port. -/
def portOwned (s : State) (p : Nat) : Bool := s.rb (Reg.portCfg p) 46
def portOwner (s : State) (p : Nat) : Nat := s.rf (Reg.portCfg p) 45 40

/-- R37: the owned legacy ports of a host in ascending LEGACY_INDEX; virtual bridge n (from 1) is the n-th. -/
def bridgePorts (s : State) (h : Nat) : List Nat :=
  let ps := (s.portsOf 3).filter (fun p => portOwned s p && portOwner s p == h)
  ((List.range 256).filterMap (fun i => ps.find? (fun p => legIndex s p == i)))

/-- The legacy port behind virtual bridge `n` of a host. -/
def vbPort (s : State) (h n : Nat) : Option Nat := if n = 0 then none else (bridgePorts s h)[n - 1]?

/-- The number of the virtual bridge over a legacy port; 0 for a port with none. -/
def vbNumber (s : State) (p : Nat) : Nat :=
  if portOwned s p then (((bridgePorts s (portOwner s p)).findIdx? (· == p)).map (· + 1)).getD 0 else 0

/-- R116: the ID of the virtual bridge's downstream port: bus B, device n - 1, function 0, where B is the host's number for the
secondary bus of its virtual switch's upstream port. -/
def vbId (s : State) (p : Nat) : Nat :=
  tgetD s.bridge.secBus (portOwner s p) 0 * 256 + (vbNumber s p - 1) * 8

/-- Log an error in the virtual bridge's AER capability (codes of `Leg.aer`). -/
def aerLog (p code : Nat) (s : State) : State :=
  s.modLeg p (fun l => if l.aer.contains code then l else { l with aer := l.aer ++ [code] })

/-- The partner's MPS in bytes (LEG_STATUS.MPS). -/
def mpsOf (s : State) (p : Nat) : Nat := 128 * 2 ^ (((s.leg? p).map (·.mps)).getD 0)

/-! ## Items -/

/-- The item of a number. -/
def State.item? (s : State) (i : Nat) : Option Item := tget s.bridge.items i

/-- Change an item. -/
def State.modItem (i : Nat) (f : Item → Item) (s : State) : State := { s with bridge.items := tmod s.bridge.items i f }

/-- An item is acknowledged, delivered or completed. -/
def dropItem (i : Nat) (s : State) : State := { s with bridge.items := terase s.bridge.items i }

/-- Two line ranges meet. -/
def rangesMeet (a b c d : Nat) : Bool := decide (a ≤ d) && decide (c ≤ b)

/-- R126: does a later item wait for an earlier one that is still in progress? -/
def itemWaits (later earlier : Item) : Bool :=
  match later.cls, earlier.cls with
  | .w, .f => true
  | .f, .w | .f, .f => true
  | .i, .w | .i, .f | .i, .i => true
  | .r, .w => rangesMeet later.first later.last earlier.first earlier.last
  | .r, .f => true
  | .c, .w | .c, .f => true
  | .c, .c =>
    match later.body, earlier.body with
    | .cpl p (.cpl _ _ r t _ _ _ _), .cpl p' (.cpl _ _ r' t' _ _ _ _) => p == p' && r == r' && t == t'
    | _, _ => false
  | .z, .w | .z, .f | .z, .i => true
  | _, _ => false

/-- The earlier items of an item's stream for which it still waits. -/
def waitsOn (s : State) (i : Nat) (x : Item) : List Nat :=
  (s.bridge.items.filter (fun e => e.1 < i && e.2.port == x.port && e.2.stream == x.stream && itemWaits x e.2)).map (·.1)

/-- Has the item's hold ended? -/
def holdEnded (s : State) (i : Nat) (x : Item) : Bool := (waitsOn s i x).isEmpty

/-! ## The host link of a stream, R112 -/

/-- The context of a stream. -/
def ctxOf (s : State) (p stream : Nat) : Option Ctx := s.bridge.ctxs.find? (fun c => c.port == p && c.stream == stream)

/-- The stream's host link: the one fixed while it is up, else the owner's lowest-numbered HOST port that is up. -/
def hostLink (s : State) (p stream : Nat) : Option Nat :=
  match (ctxOf s p stream).bind (·.hostLink) with
  | some q => if s.linkIsUp q then some q else s.hostUpPort (portOwner s p)
  | none => s.hostUpPort (portOwner s p)

/-- R117: the lowest 14-bit tag that is unique on a host link. -/
def hostTag (s : State) (q : Nat) : Option Nat :=
  (List.range 16384).find? (fun g => !s.bridge.trks.any (fun e => e.2.target == .hostLink q && e.2.tag == some g))

/-- The link is fixed for the stream (R112). -/
def fixLink (p stream q : Nat) (s : State) : State :=
  { s with
    bridge.ctxs := s.bridge.ctxs.map (fun c =>
      if c.port == p && c.stream == stream then { c with hostLink := some q } else c) }

/-- R112: a HOST port's link has gone down: each stream fixed to it moves to the owner's lowest-numbered HOST port that is up at
this moment; where none is, to the first that comes up (R113). -/
def moveStreams (q : Nat) (s : State) : State :=
  { s with
    bridge.ctxs := s.bridge.ctxs.map (fun c =>
      if c.hostLink == some q then { c with hostLink := s.hostUpPort (portOwner s c.port) } else c) }

/-- An item finds no host link: the port's wait starts with the first, with FABRIC_TMO as it stands then (R113, R171). -/
def startHostWait (p : Nat) (s : State) : State :=
  s.modLeg p (fun l => match l.hostWait with
    | some _ => l
    | none => { l with hostWait := some (s.now + s.rf Reg.bxgCtl 47 32 * 10000) })

/-- A TLP takes its place at the egress of a HOST port. `conf`: it answers a configuration request; `owe`: the contained port
whose answer it is. -/
def tlpToHost (q group : Nat) (deadline : Nat) (item : Option Nat) (t : Tlp) (s : State) (conf : Bool := false)
    (owe : Option Nat := none) : State :=
  toEgress q
    { kind := match group with | 0 => .posted | 1 => .nonPosted | _ => .cpl, body := .tlp t, deadline, from_ := none,
      tag := none, line := 0, read := none, since := s.now, group, item, conf, owe } s

/-- A completion of the device's own to the partner (R117, R136): it carries the downstream port's ID. A contained or
downed port is owed nothing (R157). `from_`: the HOST port from which its data came, and that port's next sequence number, before
which it passes no posted request (R130); `owe`: the contained port whose answer it is. -/
def cplToPartner (p : Nat) (deadline : Nat) (st : CplStatus) (reqId tag byteCount lower : Nat) (data : List Byte)
    (ep : Bool) (read : Option (Nat × Nat)) (s : State) (from_ : Option (Nat × Nat) := none) (owe : Option Nat := none) : State :=
  if s.linkIsUp p then
    toEgress p
      { kind := .cpl, body := .tlp (.cpl st (vbId s p) reqId tag byteCount lower data ep), deadline, from_, tag := none,
        line := 0, read, since := s.now, group := 2, item := none, owe } s
  else s

/-! ## Upstream INTx wires, R163, R164 -/

/-- The wires of a host: the OR of its partners' wires, partner wire p of virtual bridge n on wire (p + n - 1) mod 4.
`f` picks the wires as received or as released. -/
def hostWires (f : Leg → Nat) (s : State) (h : Nat) : Nat :=
  (List.range 4).foldl (fun acc q =>
    if (bridgePorts s h).any (fun p =>
        ((s.leg? p).map (fun l =>
          (List.range 4).any (fun w => (w + vbNumber s p - 1) % 4 == q && f l / 2 ^ w % 2 == 1))).getD false)
    then acc + 2 ^ q else acc) 0

/-- R164: send the messages that a host's wires call for on its INTx port, for the inbound item `item`. With no port up nothing
is sent; the wires are sent when one comes up. -/
def sendWires (h : Nat) (s : State) (item : Option Nat := none) : State :=
  let new := hostWires (·.intxOut) s h
  let old := tgetD s.bridge.wires h 0
  match s.hostUpPort h with
  | none => s
  | some q =>
    let s := (List.range 4).foldl (fun s w =>
      let a := new / 2 ^ w % 2
      let b := old / 2 ^ w % 2
      if a = b then s
      else tlpToHost q 0 (deadlineOf s (s.rf (Reg.hostArb h) 47 32)) item
        (.msg (if a = 1 then .assertIntx w else .deassertIntx w) 0) s) s
    { s with bridge.wires := tput 0 s.bridge.wires h new }

/-- R164: the INTx port has changed: every asserted wire is sent on the new port. -/
def wiresOnPort (h : Nat) (s : State) : State :=
  let port := s.hostUpPort h
  if port = tget s.bridge.intxPort h then s
  else match port with
    | none => { s with bridge.intxPort := terase s.bridge.intxPort h, bridge.wires := terase s.bridge.wires h }
    | some q =>
      sendWires h { s with bridge.intxPort := tset s.bridge.intxPort h q, bridge.wires := terase s.bridge.wires h }

/-! ## Completions of a partner's read, R119, R143, R152 -/

/-- First and last byte enables give the bytes of a request: start byte and byte count. -/
def firstByte (fbe : Nat) : Nat :=
  if fbe % 2 = 1 then 0 else if fbe / 2 % 2 = 1 then 1 else if fbe / 4 % 2 = 1 then 2 else if fbe / 8 % 2 = 1 then 3 else 0
def lastByte (lbe : Nat) : Nat :=
  if lbe / 8 % 2 = 1 then 3 else if lbe / 4 % 2 = 1 then 2 else if lbe / 2 % 2 = 1 then 1 else 0

/-- The DW-aligned address and length in bytes of a read. -/
def readSpan (r : LegRead) : Nat × Nat := (r.addr / 4 * 4, 4 * r.dws)

/-- Byte Count of a whole read (PCI Express Base Specification). -/
def readBytes (r : LegRead) : Nat :=
  if r.dws = 1 then (if r.fbe = 0 then 1 else lastByte r.fbe + 1 - firstByte r.fbe)
  else 4 * r.dws - firstByte r.fbe - (3 - lastByte r.lbe)

/-- The end of the completion that starts at byte `a` of a span that ends at `e`: at most MPS bytes, and at a 64-byte
boundary unless it is the last. -/
def cplEnd (mps a e : Nat) : Nat := if e ≤ a + mps then e else (a + mps) / 64 * 64

/-- The bytes of a span from the lines of a read. -/
def spanBytes (x : Item) (base a n : Nat) : List Byte :=
  (List.range n).map (fun k =>
    let addr := a + k
    match tget x.got (addr / 64 - base / 64) with
    | some (l, _) => lineByte l (addr % 64)
    | none => 0#8)

/-- The end of what a read can still return: its own end, or the start of its lowest failed line (R152). -/
def readLimit (x : Item) (r : LegRead) : Nat :=
  let (base, len) := readSpan r
  match x.fails with
  | (l, _) :: _ => max base (min (base + len) (64 * (base / 64 + l)))
  | [] => base + len

/-- The next completion of a read that is owed and ready (R119): its start and end. -/
def nextCpl (s : State) (x : Item) (r : LegRead) : Option (Nat × Nat) :=
  let base := (readSpan r).1
  let a := base + x.sent
  let e := readLimit x r
  if a ≥ e then none
  else
    let b := cplEnd (mpsOf s x.port) a e
    if (List.range ((b - 1) / 64 - a / 64 + 1)).all (fun k => (tget x.got (a / 64 + k - base / 64)).isSome) then some (a, b)
    else none

/-- Status of the completion of the device's own for a kind toward a host or a partner (R136); `ur` is the virtual
bridge's DPC Completion Control. -/
def cplStatusOf (k : ErrKind) (toHost ur : Bool) : CplStatus :=
  match k with
  | .violation => if toHost then .ca else .ur
  | .targetUr => .ur
  | .contained => if toHost && ur then .ur else .ca
  | _ => .ca

/-- Byte Count of the completion that starts where `sent` bytes of the span have gone. -/
def readLeft (r : LegRead) (sent : Nat) : Nat :=
  if sent = 0 then readBytes r else readBytes r - (sent - firstByte r.fbe)

/-- Send every completion of a read that is ready, in ascending address order; after the lines below a failed line, the
Cpl of R136 ends the request (R152). The item ends with its last tracker. The fuel is the number of completions. -/
def pumpRead : Nat → Nat → State → State
  | 0, _, s => s
  | n + 1, i, s =>
    match s.item? i with
    | none => s
    | some x =>
      match x.body with
      | .read r =>
        let base := (readSpan r).1
        if x.closed then s
        else match nextCpl s x r with
          | some (a, b) =>
            let skip := if a = base then firstByte r.fbe else 0
            let ep := (List.range ((b - 1) / 64 - a / 64 + 1)).any (fun k =>
              ((tget x.got (a / 64 + k - base / 64)).map (·.2)).getD false)
            let s := cplToPartner x.port x.deadline .sc r.reqId r.tag (readLeft r x.sent) ((a + skip) % 128)
              (spanBytes x base a (b - a)) ep (some (i, a)) s
            let s := if ep then s.count (cntHost (portOwner s x.port) 0x50) 48 1 else s
            let s := s.modItem i (fun x => { x with sent := b - base, closed := decide (b ≥ base + 4 * r.dws) })
            pumpRead n i s
          | none =>
            match x.fails with
            | (_, (e, _, _)) :: _ =>
              if base + x.sent ≥ readLimit x r then
                cplToPartner x.port x.deadline (cplStatusOf e false false) r.reqId r.tag (readLeft r x.sent) 0 [] false
                  (some (i, base + x.sent)) (s.modItem i (fun x => { x with closed := true })) (owe := x.owe)
              else s
            | [] => s
      | _ => s

/-- R104: the trackers in RESPOND of a read's lines are free once the completion that holds their line has been handed to the
egress port, and all of them once the read has been answered. -/
def freeSent (i : Nat) (s : State) : State :=
  match s.item? i with
  | none => s
  | some x =>
    match x.body with
    | .read r =>
      let base := (readSpan r).1
      let done := x.trks.filter (fun k => match s.trk? k with
        | some t => decide (t.st = .respond) && (match t.src with
            | .leg _ l => x.closed || decide (64 * (base / 64 + l) < base + x.sent)
            | _ => false)
        | none => true)
      done.foldl (fun s k => (freeTrk k s).modItem i (fun x => { x with trks := x.trks.erase k })) s
    | _ => s

/-! ## Releasing held items, R126 -/

/-- The trackers of an item enter RESPOND: its TLP has been handed on, and none of its requests is owed an answer. -/
def respondTrks (x : Item) (s : State) : State := x.trks.foldl (fun s k => s.modTrk k (fun t => { t with st := .respond })) s

/-- Free the trackers of an item and end it. -/
def endItem (i : Nat) (s : State) : State :=
  match s.item? i with
  | none => s
  | some x => dropItem i (x.trks.foldl (fun s k => freeTrk k s) s)

/-- Hand an item of class I, C or Z whose hold has ended to its way out: an interrupt to the stream's host link (R112, R162), a
message or a wire change to the host's INTx port (R164, R166). An item with no host link waits (R113). -/
def releaseItem (i : Nat) (s : State) : State :=
  match s.item? i with
  | none => s
  | some x =>
    if x.released || !holdEnded s i x then s
    else
      let s' := s.modItem i (fun x => { x with released := true })
      match x.body with
      | .intr t =>
        (match hostLink s x.port x.stream with
        | some q => tlpToHost q 0 x.deadline (some i) t (respondTrks x (fixLink x.port x.stream q s'))
        | none => startHostWait x.port s)
      | .note t =>
        (match s.hostUpPort (portOwner s x.port) with
        | some q => tlpToHost q 0 x.deadline (some i) t s'
        | none => startHostWait x.port s)
      | .wire q on =>
        let s := s'.modLeg x.port (fun l =>
          { l with intxOut := if on then l.intxOut ||| 2 ^ q else l.intxOut &&& (15 - 2 ^ q) })
        let h := portOwner s x.port
        let n := hostWires (·.intxOut) s h
        if n = tgetD s.bridge.wires h 0 || (s.hostUpPort h).isNone then dropItem i (sendWires h s) else sendWires h s (some i)
      | .zlr r => endItem i (cplToPartner x.port x.deadline .sc r.reqId r.tag 1 (r.addr % 128) [0#8, 0#8, 0#8, 0#8] false none s')
      | .cpl hp t => tlpToHost hp 2 x.deadline (some i) t (x.trks.foldl (fun s k => freeTrk k s) s') (conf := x.conf)
      | .write _ | .read _ | .atom _ _ => s

/-- Release what can be released of a port's items, in stream order. -/
def releasePort (p : Nat) (s : State) : State :=
  ((s.bridge.items.filter (fun e => e.2.port == p)).map (·.1)).foldl (fun s i => releaseItem i s) s

/-- A new inbound item of a port's stream. -/
def addItem (p stream : Nat) (cls : ICls) (body : IBody) (first last : Nat) (toHost : Bool) (deadline : Nat) (s : State) :
    Nat × State :=
  let i := s.bridge.nextItem
  let x : Item :=
    { port := p, stream, cls, body, first, last, toHost, trks := [], got := [], sent := 0, fails := [], closed := false,
      released := false, flushing := false, deadline }
  (i, { s with bridge.items := tset s.bridge.items i x, bridge.nextItem := i + 1 })

/-- The items of a port that it accepted before a moment: all below the next number. -/
def itemsBefore (s : State) (p mark : Nat) : Bool := s.bridge.items.any (fun e => e.2.port == p && decide (e.1 < mark))

/-! ## The streams' contexts, R102, R103 -/

/-- The stream that a TLP of a requester falls in now. -/
def streamOf (s : State) (p reqId : Nat) (ido : Bool) : Nat :=
  let key := if ido || s.rb (Reg.legCtl (legIndex s p)) 3 then reqId else 0
  if key = 0 || (ctxOf s p key).isSome || decide ((s.bridge.ctxs.filter (fun c => homeBp c.port == homeBp p)).length < 512)
  then key else 0

/-- The stream of a TLP of a requester: keyed by the ID with IDO or STREAM_BY_ID, else requester 0. A TLP that finds no
free context joins the requester-0 stream and sets STREAM_MERGE. -/
def joinStream (p reqId : Nat) (ido : Bool) (s : State) : Nat × State :=
  let key := if ido || s.rb (Reg.legCtl (legIndex s p)) 3 then reqId else 0
  if key = 0 || (ctxOf s p key).isSome then (key, s)
  else
    let used := (s.bridge.ctxs.filter (fun c => homeBp c.port == homeBp p)).length
    if used < 512 then (key, { s with bridge.ctxs := s.bridge.ctxs ++ [{ port := p, stream := key, hostLink := none }] })
    else (0, bridgeEvent 0 (homeBp p) s)

/-- A context other than a port's requester-0 context is freed when its stream has no item left (R103). -/
def sweepCtxs (s : State) : State :=
  { s with
    bridge.ctxs := s.bridge.ctxs.filter (fun c =>
      c.stream == 0 || s.bridge.items.any (fun e => e.2.port == c.port && e.2.stream == c.stream)) }

end Sys2Proof.Machine
end

