-- ==== Sys2Proof/Machine/Requests.lean ====
section
/-! DEFINITION. Requests and their ends: answers to every requester, containment, translation of a tracker's request,
host memory requests, walks and fills (R35, R78-R87, R105, R129, R136, R150-R158). -/
namespace Sys2Proof.Machine

/-! ## The end of a tracker -/

/-- The completion of the device's own to a host for a CXL.io request (R136, R157). It follows the completions of the
request that were forwarded and are not delivered yet. -/
def cplToHost (p hp : Nat) (deadline : Nat) (st : CplStatus) (reqId tag byteCount lower : Nat) (data : List Byte)
    (conf : Bool) (owe : Option Nat) (s : State) : State :=
  let t : Tlp := .cpl st (vbId s p) reqId tag byteCount lower data false
  let mine := s.bridge.items.find? (fun e => e.2.port == p &&
    (match e.2.body with | .cpl q (.cpl _ _ r g _ _ _ _) => q == hp && r == reqId && g == tag | _ => false))
  match mine with
  | some e =>
    let (i, s) := addItem p e.2.stream .c (.cpl hp t) 0 0 true deadline s
    releaseItem i (s.modItem i (fun x => { x with conf }))
  | none => tlpToHost hp 2 deadline none t s (conf := conf) (owe := owe)

/-- The AER error of a partner's posted write that ends with a kind (R136): UR for VIOLATION, else CA. -/
def aerOf (k : ErrKind) : Nat := match k with | .violation => 0 | _ => 1

/-- Bytes of an AtomicOp's old value as the partner receives them (R123). -/
def atomBytes (size old : Nat) : List Byte := (List.range size).map (fun k => BitVec.ofNat 8 (old / 2 ^ (8 * k)))

/-- The held items of a stream that wait for a failed posted write (R129). -/
def heldBy (s : State) (i : Nat) : List Nat :=
  match s.item? i with
  | none => []
  | some x => (s.bridge.items.filter (fun e => e.1 > i && e.2.port == x.port && e.2.stream == x.stream &&
      !e.2.released && itemWaits e.2 x)).map (·.1)

/-- The completions of one request of a host that a port's items hold. -/
def cplItems (s : State) (p hp r g : Nat) : List Nat :=
  (s.bridge.items.filter (fun e => e.2.port == p &&
    (match e.2.body with | .cpl q (.cpl _ _ r' g' _ _ _ _) => q == hp && r' == r && g' == g | _ => false))).map (·.1)

/-- The trackers of one CXL.io request of a host. -/
def ioTrks (s : State) (p hp r g : Nat) : List Nat :=
  (s.bridge.trks.filter (fun e => decide (e.2.target = .legacy p) && decide (e.2.src = .io hp r g))).map (·.1)

/-- Discard one held item (R129): a held completion, with the later ones of its request, is replaced by one Cpl with status CA,
which ends the request; the trackers of a held request are freed. -/
def discardItem (i : Nat) (s : State) : State :=
  match s.item? i with
  | none => s
  | some x =>
    match x.body with
    | .cpl hp (.cpl _ _ r g bc _ _ _) =>
      let s := ((cplItems s x.port hp r g).filter (fun j => decide (i ≤ j))).foldl (fun s j => endItem j s) s
      let s := (ioTrks s x.port hp r g).foldl (fun s k => freeTrk k s) s
      tlpToHost hp 2 x.deadline none (.cpl .ca (vbId s x.port) r g bc 0 [] false) s
    | _ => endItem i s

/-- R129: the held items that wait for a failed write are discarded; the port is to be contained when there was one. -/
def discardHeld (i : Nat) (s : State) : State × List (Nat × Nat) :=
  match s.item? i with
  | none => (s, [])
  | some x =>
    match heldBy s i with
    | [] => (s, [])
    | hs =>
      let s := hs.foldl (fun s j => discardItem j s) s
      (bridgeEvent 1 (homeBp x.port) s, [(x.port, 5)])

/-- An uncorrectable error that the virtual bridge detects (R136, R144, R153, R582): logged; unmasked, it contains the port
(cause UNCORRECTABLE) where the host's DPC Trigger Enable is 0b01 or 0b10, and is otherwise signalled as the host has enabled, an
internal error as fatal, the others as non-fatal (assumption 63). -/
def vbError (p code : Nat) (s : State) : State × List (Nat × Nat) :=
  let s := aerLog p code s
  match s.leg? p with
  | none => (s, [])
  | some l =>
    if !portOwned s p || l.uncorMask.testBit code then (s, [])
    else if l.dpcEn = 1 ∨ l.dpcEn = 2 then (s, [(p, 8)])
    else match s.hostUpPort (portOwner s p) with
      | some q =>
        if (if code = 4 then l.errF else l.errNf) then
          (tlpToHost q 0 (deadlineOf s (s.rf (Reg.hostArb (portOwner s p)) 47 32)) none
            (.msg (if code = 4 then .errFatal else .errNonfatal) (vbId s p)) s, [])
        else (s, [])
      | none => (s, [])

/-- A posted write of a partner ends in error with the kind of its lowest failed line (R583): one violation log entry for
that line, the virtual bridge's AER error, its trackers freed, its held items discarded (R129) (assumption 63). -/
def failWrite (i : Nat) (s : State) : State × List (Nat × Nat) :=
  match s.item? i with
  | none => (s, [])
  | some x =>
    match x.fails with
    | [] => (s, [])
    | (l, (e, vio, win)) :: _ =>
      let t := newTrk (.leg i l) (portOwner s x.port) .general (.write 0#512 fullMask true false .noOp)
        (64 * (x.first + l)) x.deadline
      let s := if e = .violation then trkViolation vio win 0 t s else s
      let (s, qs) := vbError x.port (aerOf e) (x.trks.foldl (fun s k => freeTrk k s) s)
      let (s, ps) := discardHeld i s
      (releasePort x.port (dropItem i s), qs ++ ps)

/-- A line, TLP or AtomicOp of an inbound item has its answer: acknowledge, complete or fail the item. The ports to be
contained with cause HOLD_DISCARD come back. -/
def answerItem (i line k : Nat) (t : Trk) (a : Answer) (s : State) : State × List (Nat × Nat) :=
  match s.item? i with
  | none => (freeTrk k s, [])
  | some x =>
    let s := if a.kind.isSome || x.toHost then s else countBytes t.host t.op s
    match x.body with
    | .write _ =>
      match a.kind with
      | none => (s.modTrk k (fun t => { t with st := .respond, ans := some a }), [])
      | some e =>
        let s := (freeTrk k s).modItem i (fun x => { x with trks := x.trks.erase k, fails := tset x.fails line (e, 0, none) })
        if !((s.item? i).map Item.checked).getD true then (s, [])
        else if ((s.item? i).map (·.trks.isEmpty)).getD false then failWrite i s
        else
          let (s, qs) := vbError x.port (aerOf e) s
          let (s, ps) := discardHeld i s
          (s, qs ++ ps)
    | .read _ =>
      let d := swapLine (if x.toHost then 0 else winSwap s t.win) a.data
      let s := (s.modTrk k (fun t => { t with st := .respond })).modItem i (fun x =>
        match a.kind with
        | some e => { x with fails := tset x.fails line (e, 0, none), owe := x.owe <|> oweOf t a.kind }
        | none => { x with got := tset x.got line (d, a.poison) })
      let s := freeSent i (pumpRead 80 i s)
      match s.item? i with
      | some x => if x.trks.isEmpty && x.closed then (releasePort x.port (dropItem i s), []) else (s, [])
      | none => (s, [])
    | .atom r op =>
      let s := dropItem i (freeTrk k s)
      let s := match a.kind with
        | none =>
          cplToPartner x.port x.deadline .sc r.reqId r.tag op.size (r.addr % 128) (atomBytes op.size a.old) a.poison none s
        | some e =>
          cplToPartner x.port x.deadline (cplStatusOf e false false) r.reqId r.tag 4 0 [] false none s (owe := oweOf t a.kind)
      (releasePort x.port s, [])
    | .intr _ | .wire _ _ | .note _ | .cpl _ _ | .zlr _ => (freeTrk k s, [])

/-- Once the checks of a posted write's lines are all made (R583): with a failed line none is issued and the write ends;
otherwise its lines may be issued. -/
def settleWrite (i : Nat) (s : State) : State × List (Nat × Nat) :=
  match s.item? i with
  | none => (s, [])
  | some x =>
    match x.body with
    | .write _ =>
      if x.checked || x.trks.any (fun k => ((s.trk? k).map (fun t => decide (t.st = .translate))).getD false) then (s, [])
      else if x.fails.isEmpty then (s.modItem i (fun x => { x with checked := true }), [])
      else failWrite i s
    | _ => (s, [])

/-- Is the TLP a configuration request? -/
def isCfg : Option Tlp → Bool
  | some (.cfg ..) => true
  | _ => false

/-- The tracker's request ends with an answer (R136): it is handed to the requester and the tracker is freed, except a
line of a partner's posted write, which stays in RESPOND for LINE_WRITE_ACK, and a line of its read, which stays until the
completion that holds it has been handed on (R104). A host whose port went down is sent nothing (R61). -/
def completeTrk (k : Nat) (a : Answer) (s : State) : State × List (Nat × Nat) :=
  match s.trk? k with
  | none => (s, [])
  | some t =>
    match t.src with
    | .host p g => (freeTrk k (answerMem p g t a false s), [])
    | .isl p g => (freeTrk k (answerMem p g t a true s), [])
    | .leg i line => answerItem i line k t a s
    | .eng e g _ => ({ freeTrk k s with rings.engAns := s.rings.engAns ++ [(.eng e g, a)] }, [])
    | .twin id _ _ => ((freeTrk k s).emit (.twinAnswer id a), [])
    | .io hp r g =>
      let lp := match t.target with | .legacy p => p | _ => 0
      let s := freeTrk k s
      match t.tlp, a.kind with
      | some (.mwr ..), some .internal => vbError lp 4 s
      | some (.mwr ..), _ => (s, [])
      | some (.msg _ _), _ => (s, [])
      | _, some e =>
        if t.orphan then (s.count (cntPort hp 0x38) 48 1, [])
        else
          (cplToHost lp hp t.deadline (cplStatusOf e true (((s.leg? lp).map (·.dpcUr)).getD false)) r g t.owed 0 [] (isCfg t.tlp)
            (oweOf t a.kind) s, [])
      | _, none => (s, [])

/-- The synthesised end of a request at its tracker (R147, R151): the requester is answered, and a tracker that was
ISSUED stays held until its late answer. -/
def synthTrk (k : Nat) (e : ErrKind) (s : State) : State × List (Nat × Nat) :=
  match s.trk? k with
  | none => (s, [])
  | some t =>
    let (s, ps) := completeTrk k (errAnswer e) s
    (if t.st = .issued then
      { s with bridge.trks := tset s.bridge.trks k { t with st := .held, synth := true, heldAt := s.now } }
    else s, ps)

/-! ## Answers at trackers, R93, R95, R105 -/

/-- R95: a write that fails at the destination alone abandons the migration: its slot is free at once, and the entry
becomes PRESENT with its old pool extent at the next boundary. -/
def abandonMigration (t : Trk) (s : State) : State :=
  match tget s.tabs.windows t.win with
  | none => s
  | some w =>
    let x := w.extFirst + t.slot
    if s.xl.migBack.contains x then s
    else
      let s := { s with xl.migs := s.xl.migs.filter (fun e => e.2.ext != x), xl.migBack := s.xl.migBack ++ [x] }
      capacityChanged (s.xlateEvent 9 0)

/-- An answer is processed at a tracker. The first of the two answers of a write during a migration waits for the other; the
first error is the request's kind (R93, R95, R135). -/
def answerTrk (k : Nat) (a : Answer) (s : State) : State × List (Nat × Nat) :=
  match s.trk? k with
  | none => (s, [])
  | some t =>
    match t.also, t.ans with
    | some _, none => (s.modTrk k (fun t => { t with ans := some a }), [])
    | some _, some b =>
      let dst := if a.second then a else b
      let src := if a.second then b else a
      let s := if dst.kind.isSome && src.kind.isNone then abandonMigration t s else s
      completeTrk k (if b.kind.isSome then b else a) (s.modTrk k (fun t => { t with ans := none }))
    | none, _ => completeTrk k a s

/-- The targets of a tracker's request that are still owed an answer: whether the second of a migration's write, and the target
(R93). -/
def owedTargets (t : Trk) : List (Bool × Target) :=
  let answered := fun (second : Bool) => (t.ans.map (fun a => a.second == second)).getD false
  ([(false, t.target)] ++ (match t.also with | some (_, x, _) => [(true, x)] | none => [])).filter (fun e => !answered e.1)

/-- Is the answer of a tracker's request, or of one half of a migration's write, on its way to it on the rings? Its target's
decision has then been made (R145, R147). -/
def answerComing (s : State) (k : Nat) (second : Bool) : Bool :=
  (s.rings.wait ++ s.rings.flight ++ s.rings.arrived).any (fun u =>
    match u.body with | .rsp (.trk j) a => j == k && a.second == second | _ => false)

/-- R61: the answers of the requests that came in on a port whose link has gone down are to be discarded and counted
(assumption 74). -/
def orphanTrks (p : Nat) (s : State) : State :=
  { s with
    bridge.trks := tmap (fun _ t => match t.src with
      | .host q _ | .isl q _ | .io q _ _ => if q = p then { t with orphan := true } else t
      | .leg _ _ | .eng _ _ _ | .twin _ _ _ => t) s.bridge.trks }

/-! ## Containment, R153-R158 -/

/-- Does a tracker's request go toward the port? -/
def toward (p : Nat) (t : Trk) : Bool :=
  decide (t.target = .legacy p) || (match t.also with | some (_, .legacy q, _) => q == p | _ => false)

/-- A count of the bridge error region steps, unless the counters are frozen. -/
def bxCount (off : Nat) (s : State) : State :=
  if s.cnt.frozen then s else s.wr off (BitVec.ofNat 64 (satAdd 32 (s.rf off 31 0) 1))

/-- One error record of class BX_POUND in each 1 ms (R159). -/
def poundCounts (p : Nat) (s : State) : State :=
  let i := legIndex s p
  let s := bxCount (Reg.poundCount i) s
  let s := (s.setEvent (Reg.bxeEvents i) 4).modLeg p (fun l => { l with pounding := true })
  let due := match (s.leg? p).bind (·.lastPound) with | some t => decide (t + 1000000 ≤ s.now) | none => true
  if due then (legRecord 0x29 .deferred p (some .contained) 0 s).modLeg p (fun l => { l with lastPound := some s.now })
  else s

/-- The answer of the pound, R158: all ones, and no error. -/
def poundAnswer : Answer := { okAnswer with data := BitVec.allOnes 512 }

/-- The bytes of the completion with which the pound ends a host's CXL.io request: those still owed, all ones (R158). The spec
names no answer of a configuration request that the pound absorbs: the model completes it in the same way (assumption 71). -/
def poundBytes (t : Trk) : Option Nat :=
  match t.tlp with
  | some (.mrd ..) | some (.atom ..) => some t.owed
  | some (.cfg w _ _ _ _) => some (if w then 0 else 4)
  | some (.mwr ..) | some (.msg _ _) | some (.cpl ..) | none => none

/-- A request toward a contained port, or one half of a migration's write, ends: absorbed with POUND = 1, else with kind
CONTAINED (R154, R158). -/
def endContained (p k : Nat) (second : Bool) (s : State) : State × List (Nat × Nat) :=
  match s.trk? k with
  | none => (s, [])
  | some t =>
    if s.rb (Reg.bxeCtl (legIndex s p)) 1 then
      let s := poundCounts p s
      match t.src, poundBytes t with
      | .io hp r g, some n =>
        if t.orphan then (freeTrk k (s.count (cntPort hp 0x38) 48 1), [])
        else (freeTrk k (cplToHost p hp t.deadline .sc r g n 0 (List.replicate n 0xFF#8) (isCfg t.tlp) none s), [])
      | _, _ => answerTrk k { poundAnswer with second } s
    else answerTrk k { errAnswer .contained with second } s

/-- The request of a tracker ends for each target on a port whose answer is owed and not on its way. -/
def endContainedTrk (p k : Nat) (s : State) : State × List (Nat × Nat) :=
  match s.trk? k with
  | none => (s, [])
  | some t =>
    ((owedTargets t).filter (fun e => decide (e.2 = .legacy p) && !answerComing s k e.1)).foldl
      (fun (x : State × List (Nat × Nat)) e => let (s, ps) := endContained p k e.1 x.1; (s, x.2 ++ ps)) (s, [])

/-- Does a tracker wait, with its write, for the checks of the write's other lines (R583)? -/
def awaitsChecks (s : State) (t : Trk) : Bool :=
  match t.src with
  | .leg i _ => (match s.item? i with
    | some x => (match x.body with | .write _ => !x.checked | _ => false)
    | none => false)
  | _ => false

/-- One containment (R153, R154, R155, R165): state, cause, event and record; the link goes to Disabled; every request
outstanding toward the port ends, but for one whose answer or timeout the port has processed already (R135, R147); its tags are released (R115); its wires and its signal wait for the items accepted
before. -/
def containOne (p cause : Nat) (s : State) : State × List (Nat × Nat) :=
  match s.leg? p, tget s.links p with
  | some _, some k =>
    if k.contained then (s, [])
    else
      let i := legIndex s p
      let s := s.modLink p (fun l => { l with contained := true })
      let s := s.modLeg p (fun l =>
        { l with cause, dpcStatus := portOwned s p, dpcReason := cause, tags := [], quar := [], egress := [],
                 signal := some s.bridge.nextItem, intx := 0, deassert := some (s.bridge.nextItem, l.intx) })
      let s := s.setEvent (Reg.bxeEvents i) 3
      let s := s.raiseRec { mkRec s 0x27 .contained .legacy i (bxInfo (some .contained) 0 (some i)) with port := some p }
      let s := if s.linkIsUp p then linkLeaves p 0 s else s.setLtssm p 0
      let s := s.wb (Reg.bxeCtl i) 2 false
      let ks := (s.bridge.trks.filter (fun e => toward p e.2 && (decide (e.2.st = .issued) || decide (e.2.st = .wait))
        && !awaitsChecks s e.2)).map (·.1)
      ks.foldl (fun (x : State × List (Nat × Nat)) k => let (s, ps) := endContainedTrk p k x.1; (s, x.2 ++ ps)) (s, [])
  | _, _ => (s, [])

/-- Containment, and the containments with cause HOLD_DISCARD that its CONTAINED answers bring about. The fuel bounds the
ports. -/
def containLoop : Nat → List (Nat × Nat) → State → State
  | 0, _, s => s
  | _, [], s => s
  | n + 1, (p, c) :: r, s =>
    let (s, ps) := containOne p c s
    containLoop n (r ++ ps) s

/-- R153: contain a legacy port. -/
def contain (p cause : Nat) (s : State) : State := containLoop 257 [(p, cause)] s

/-- A step that ends requests, with the containments it brings about. -/
def withContain (x : State × List (Nat × Nat)) : State := containLoop 257 x.2 x.1

/-- End a tracker with an answer. -/
def finishTrk (k : Nat) (a : Answer) (s : State) : State := withContain (completeTrk k a s)

/-- Process an answer at a tracker. -/
def trkAnswer (k : Nat) (a : Answer) (s : State) : State := withContain (answerTrk k a s)

/-! ## Translation of a tracker's request, R78, R87, R90 -/

/-- A check of R87 fails: the request ends with the kind; a violation is logged (R24). A line of a posted write waits for
the checks of the others (R583); a read's entry is written for its first failed line. -/
def failXl (k : Nat) (e : ErrKind) (vio : Nat) (win : Option Nat) (s : State) : State :=
  match s.trk? k with
  | none => s
  | some t =>
    let plain := fun (s : State) =>
      finishTrk k (errAnswer e) (if e = .violation then trkViolation vio win 0 t s else s)
    match t.src with
    | .leg i line =>
      (match (s.item? i).map Item.body with
      | some (.write _) =>
        let s := (freeTrk k s).modItem i (fun x =>
          { x with trks := x.trks.erase k, fails := tset x.fails line (e, vio, win) })
        withContain (settleWrite i s)
      | some (.read _) =>
        if (((s.item? i).map Item.fails).getD []).isEmpty then plain s else finishTrk k (errAnswer e) s
      | _ => plain s)
    | _ => plain s

/-- A violation, error or contained target ends the request; else it waits to be issued with its generation. -/
def applyPost (k : Nat) (r : Post) (s : State) : State :=
  match s.trk? k with
  | none => s
  | some t =>
    match r with
    | .fail e vio => failXl k e vio (some t.win) (if e = .unreachable then noteShort t.win t.slot (k / 4096 / 8) s else s)
    | .go pool target dpa also =>
      let s := s.modTrk k (fun t =>
        { t with st := .wait, gen := some s.xl.curGen, pool, target, dpa, also, owed := if also.isSome then 2 else 1 })
      let s := match target with
        | .legacy p =>
          if ((tget s.links p).map (·.contained)).getD false && !awaitsChecks s t then withContain (endContainedTrk p k s) else s
        | _ => s
      match t.src with
      | .leg i _ => withContain (settleWrite i s)
      | _ => s

/-- Translate the request of a tracker in TRANSLATE: checks 1 to 3, then the cache, then checks 4 and 6. -/
def translateTrk (k : Nat) (s : State) : State :=
  match s.trk? k with
  | none => s
  | some t =>
    match preCheck s t.host t.addr t.op.isWrite with
    | .fail e vio win => failXl k e vio win s
    | .go n w slot off slice remote =>
      let s := s.modTrk k (fun t => { t with win := n, slot, slice })
      if remote then
        s.modTrk k (fun t =>
          { t with st := .wait, gen := some s.xl.curGen, target := .partner, pool := 0, dpa := t.addr, owed := 1 })
      else
        let die := k / 4096 / 8
        if cacheHit s die n slot then
          applyPost k (postCheck s w slot off t.op.isWrite) (s.count (0x1000 + 8 * die) 48 1)
        else startMiss die n slot (.trk k) s

/-- A waiting request proceeds once its slot is installed: it is looked up again, and a switch may have moved it to another
slot or to the partner meanwhile (R79, R89). -/
def resumeTrk (k : Nat) (s : State) : State :=
  match s.trk? k with
  | none => s
  | some t =>
    if t.st ≠ .translate then s
    else match preCheck s t.host t.addr t.op.isWrite with
      | .go n w slot off slice remote =>
        if remote || (!cacheHit s (k / 4096 / 8) n slot && !(n == t.win && slot == t.slot)) then translateTrk k s
        else applyPost k (postCheck s w slot off t.op.isWrite) (s.modTrk k (fun t => { t with win := n, slot, slice }))
      | .fail e vio win => failXl k e vio win s

/-- A walk or fill that ends well lets its waiters proceed: trackers now, an engine at its own next step. -/
def resumeAll (ws : List Who) (s : State) : State :=
  ws.foldl (fun s w => match w with | .trk k => resumeTrk k s | .eng _ _ | .own => s) s

/-- A walk or fill that ends in an error ends its waiters' requests with it. -/
def failAll (ws : List Who) (e : ErrKind) (s : State) : State :=
  ws.foldl (fun s w =>
    match w with
    | .trk k =>
      failXl k e 1 ((s.trk? k).map (·.win)) s
    | .own => s
    | .eng e' g => { s with xl.failed := s.xl.failed ++ [(.eng e' g, e)] }) s

/-! ## Fills, R81-R84 -/

/-- FILL_RESP written (R83): an answer with no open window is late; a stale GEN walks again; DENY is a violation. -/
def fillAnswer (die : Nat) (data : Word) (s : State) : State :=
  let s := s.wr (Reg.fillResp die) (data &&& (fldMask 63 62 ||| fldMask 59 48))
  if !bitAt data 63 then s
  else match s.xl.fills.find? (fun f => f.die == die && f.tag == fld data 55 48) with
    | none => s.xlateEvent 2 die
    | some f =>
      let s := { s with xl.fills := s.xl.fills.erase f }
      if ((slotEntry s f.win f.slot).map Ext.gen).getD 0 ≠ fld data 59 56 then
        beginWalk die f.win f.slot f.waiters (s.xlateEvent 3 die)
      else if bitAt data 62 then failAll f.waiters .violation s
      else resumeAll f.waiters (cacheInstall die f.win f.slot s)

/-- FILL_TIMEOUT (R84). -/
def fillTimeout (die tag : Nat) (s : State) : State :=
  match s.xl.fills.find? (fun f => f.die == die && f.tag == tag) with
  | none => s
  | some f =>
    let s := (s.reach f.deadline).xlateEvent 1 die
    failAll f.waiters .xlateTimeout
      { s with xl.fills := s.xl.fills.erase f }

/-- Mailbox FILL_REQ_n: a 64-bit read takes the oldest post (R82). -/
def fillReqTake (die : Nat) (s : State) : Word × State :=
  let (w, r) := mailRead (tgetD s.xl.fillPosts die [])
  (w, { s with xl.fillPosts := tput [] s.xl.fillPosts die r })

/-! ## CXL.mem requests of hosts and other devices, R35, R104, R105 -/

/-- The line operation of a CXL.mem request. -/
def opOf (r : MemReq) : LineOp :=
  match r.op with
  | .rd x | .rdData x => .read x
  | .specRd => .specRd
  | .inv | .invNT => .inv
  | .clnEvct => .clnEvct
  | .wr v => .write r.data fullMask true r.poison v
  | .wrPtl v => .write r.data r.mask false r.poison v

/-- Does the request carry data? -/
def hasData (r : MemReq) : Bool := match r.op with | .wr _ | .wrPtl _ => true | _ => false

/-- The host that a port's requests are checked for: its owning host. An ISL port names none, and the spec does not say as which
host's a request is served that arrives on one (assumption 11). -/
def portHost (s : State) (p : Nat) : Nat := if s.role p == 4 then (Config.islHost p).toNat else s.rf (Reg.portCfg p) 45 40

/-- Accept a request that has a tracker: stamp its deadline and translate it. A gone host's request to a shared window is
answered OFFLINE (R205). -/
def acceptMem (p : Nat) (r : MemReq) (s : State) : State :=
  let h := portHost s p
  let bp := pipeOf p (r.addr / 64)
  let share := if hasData r && decide (shareUsed s bp (.rwd p) < rwdHeld s bp p) then Share.rwd p else .general
  let src := if s.role p == 4 then Src.isl p r.tag else .host p r.tag
  let op := opOf r
  let s := s.count (cntHost h (if op.isWrite then 8 else 0)) 48 1
  let t := newTrk src h share op (r.addr / 64 * 64) (deadlineOf s (s.rf (Reg.hostArb h) 15 0))
  match allocTrk bp t s with
  | (none, s) => s
  | (some k, s) =>
    let gone := match tget s.home.cohs h with
      | some c => decide (c.st = .reclaim) || decide (c.st = .gone)
      | none => false
    let shared := match matchWindow s h r.addr with | some (_, w, _, _) => w.shared | none => false
    if gone && shared then finishTrk k (errAnswer .offline) s else translateTrk k s

/-- May a request of the port be accepted now? Its share or the general trackers have room (R50, R106, R264). -/
def memRoom (s : State) (p : Nat) (r : MemReq) : Bool :=
  let bp := pipeOf p (r.addr / 64)
  (hasData r && canAlloc s bp (.rwd p) 1) || canAlloc s bp .general 1

/-- Does the port deliver CXL.mem requests: role HOST or ISL, link up, IDE as required, no flits being dropped (R35,
R47, R48)? -/
def memPort (s : State) (p : Nat) : Bool :=
  (s.role p == 1 || s.role p == 4) && s.linkIsUp p && s.mode.carries && ideOk s p
    && !((tget s.links p).map (·.ideDrop)).getD false

/-- HOST_MEM_REQUEST: a request that finds no tracker waits and sets TRK_EXHAUST; none is dropped (R50). -/
def memRequest (p : Nat) (r : MemReq) (s : State) : State :=
  if !memPort s p then s
  else
    let s := ((s.count (cntPort p 0) 48 1).count (cntPort p 0x10) 48 (if hasData r then 64 else 0))
    let bp := pipeOf p (r.addr / 64)
    if !firstIn s (.mem p r) then waitIn bp (.mem p r) s
    else if memRoom s p r then acceptMem p r s
    else waitIn bp (.mem p r) (bridgeEvent 2 bp s)

end Sys2Proof.Machine
end

