-- ==== Sys2Proof/Machine/LegacyIn.lean ====
section
/-! DEFINITION. Traffic that a legacy partner sends, and host CXL.io requests toward virtual bridges: streams, classes,
trackers (R34, R85, R86, R102-R109, R118-R130, R161-R166, R583).
Assumption 54. -/
namespace Sys2Proof.Machine

/-! ## Where a partner's request goes, R85 -/

/-- Targets of a partner's request. -/
inductive Way where
  | unsupported | interrupt | window | violation | host
  deriving DecidableEq, Repr

/-- A host's interrupt range, R161: first and last byte; empty when the limit lies below the base. -/
def inIntRange (s : State) (h a n : Nat) : Bool :=
  let lo := (s.rd (Reg.intBase h)).toNat / 4 * 4
  let hi := (s.rd (Reg.intLimit h)).toNat / 4 * 4 + 4
  decide ((s.rd (Reg.intBase h)).toNat ≤ (s.rd (Reg.intLimit h)).toNat) && decide (a < hi) && decide (lo < a + n)

/-- R85, R86, R162: how a request of a partner at an address is routed. -/
def wayOf (s : State) (p addr bytes : Nat) (write : Bool) : Way :=
  if !portOwned s p then .unsupported
  else
    let h := portOwner s p
    if write && inIntRange s h addr bytes then .interrupt
    else match matchWindow s h addr with
      | some (_, w, _, _) => if w.devDma then .window else .violation
      | none =>
        let r := decoderRange s.tabs h
        if r.1 ≤ addr ∧ addr < r.2 then .violation else .host

/-- May the port's partner be heard: role LEGACY-DEVICE, link up, not contained, in a mode that carries traffic? The requests of
a partner that R37 or R41 leaves unbound are routed as any other's (R85, R86; assumption 54). -/
def legPort (s : State) (p : Nat) : Bool :=
  s.role p == 3 && s.linkIsUp p && s.mode.carries && ((tget s.links p).map (fun l => !l.contained)).getD false

/-- Is the port's partner bound (R37, R41)? -/
def partnerBound (s : State) (p : Nat) : Bool := ((tget s.links p).map (·.bound)).getD false

/-- The deadline of a partner's request. -/
def devDeadline (s : State) (p : Nat) : Nat := deadlineOf s (s.rf (Reg.hostArb (portOwner s p)) 47 32)

/-- A request that is not carried: a UR completion for a non-posted request (R86, R110). One of a type that no table of R110
lists sets UNSUPPORTED_CONV. -/
def noConversion (p : Nat) (r : Option LegRead) (s : State) : State :=
  match r with
  | some r =>
    let s := if r.listed then s else bridgeEvent 3 (homeBp p) s
    cplToPartner p (devDeadline s p) .ur r.reqId r.tag 4 0 [] false none s
  | none => withContain (vbError p 0 s)

/-! ## Classes, R124 -/

/-- R124: is a posted write a flag? -/
def isFlag (s : State) (p stream : Nat) (w : LegWrite) (bytes first last : Nat) (toHost : Bool) : Bool :=
  let i := legIndex s p
  let full := s.rf (Reg.legCtl i) 1 0 == 1
  let small := s.rb (Reg.legCtl i) 2 && decide (bytes ≤ 8)
  let range := (List.range 4).any (fun n =>
    let lo := s.rf (Reg.flagBase i n) 51 6
    let hi := s.rf (Reg.flagLimit i n) 51 6
    s.rb (Reg.legCtl i) (8 + n) && decide (lo ≤ hi) && rangesMeet first last lo hi)
  let other := s.bridge.items.any (fun e => e.2.port == p && e.2.stream == stream && e.2.toHost != toHost &&
    (match e.2.body with | .write _ => true | _ => false))
  full || (!(s.rb (Reg.legCtl i) 4 && w.ro) && (small || range || other))

/-- Bytes that a write carries. -/
def writeBytes (w : LegWrite) : Nat :=
  let dws := w.data.length / 4
  let ones := fun n => (List.range 4).foldl (fun a k => a + n / 2 ^ k % 2) 0
  if dws ≤ 1 then ones w.fbe else ones w.fbe + ones w.lbe + 4 * (dws - 2)

/-- Is byte `i` of a write's data enabled? -/
def byteOn (w : LegWrite) (i : Nat) : Bool :=
  let dws := w.data.length / 4
  if i / 4 = 0 then w.fbe / 2 ^ (i % 4) % 2 == 1
  else if i / 4 = dws - 1 then w.lbe / 2 ^ (i % 4) % 2 == 1
  else true

/-- The line write of a partner's write for line number `l` (host-side address [51:6]), R118, R122, R141. -/
def lineWrite (w : LegWrite) (l bswap : Nat) : LineOp :=
  let base := w.addr / 4 * 4
  let at_ := fun i => 64 * l + i - base
  let has := fun i => decide (base ≤ 64 * l + i) && decide (64 * l + i < base + w.data.length) && byteOn w (at_ i)
  let data := lineOf (fun i => if has i then w.data.getD (at_ i) 0#8 else 0#8)
  let mask := BitVec.ofNat 64 ((List.range 64).foldl (fun a i => if has i then a + 2 ^ i else a) 0)
  .write (swapLine bswap data) (swapMask bswap mask) (decide (mask = fullMask)) w.ep .noOp

/-! ## Trackers of an inbound item -/

/-- The share that a partner's request takes its next tracker from: the reservation while it lasts, then the general trackers
(R106). -/
def legShare (s : State) (bp : Nat) : Share :=
  if shareUsed s bp .legacy < rsvLegacy s then .legacy else .general

/-- Are there trackers for `n` lines of a partner's request? -/
def legRoom (s : State) (p n : Nat) : Bool := canAlloc s (homeBp p) .legacy n

/-- One tracker for each line of an item that is routed into a window (R104). -/
def lineTrks (p i : Nat) (ops : List LineOp) (first deadline : Nat) (s : State) : State :=
  let bp := homeBp p
  let h := portOwner s p
  ops.zipIdx.foldl (fun s e =>
    let t := newTrk (.leg i e.2) h (legShare s bp) e.1 (64 * (first + e.2)) deadline
    match allocTrk bp t s with
    | (some k, s) => (s.count (cntHost h (if e.1.isWrite then 8 else 0)) 48 1).modItem i (fun x => { x with trks := x.trks ++ [k] })
    | (none, s) => s) s

/-- Translate every line of an item. -/
def translateItem (i : Nat) (s : State) : State :=
  match s.item? i with
  | none => s
  | some x => x.trks.foldl (fun s k => translateTrk k s) s

/-- The one tracker of a TLP to the owning host's memory: no translation (R104, R110). -/
def hostTrk (p i : Nat) (op : LineOp) (t : Tlp) (deadline : Nat) (s : State) : State :=
  let bp := homeBp p
  let trk := { newTrk (.leg i 0) (portOwner s p) (legShare s bp) op 0 deadline with
    st := .wait, target := .hostLink 0, tlp := some t, owed := 1 }
  match allocTrk bp trk s with
  | (some k, s) => s.modItem i (fun x => { x with trks := [k] })
  | (none, s) => s

/-! ## LEGACY_POSTED_WRITE -/

/-- Poisoned data from a partner (R141): event, record, Advisory Non-Fatal in AER, ERR_COR when enabled. -/
def poisonIn (p : Nat) (s : State) : State :=
  let s := s.setEvent (Reg.bxeEvents (legIndex s p)) 0
  let s := aerLog p 2 (legRecord 0x20 .deferred p (some .poison) 0 s)
  match s.hostUpPort (portOwner s p) with
  | some q =>
    if ((s.leg? p).map (·.errCor)).getD false then
      tlpToHost q 0 (devDeadline s p) none (.msg .errCor (vbId s p)) s
    else s
  | none => s

/-- Does a class I item wait for a host link, once its hold has ended (R113)? -/
def waitsLink (x : Item) : Bool := match x.body with | .intr _ | .note _ => true | _ => false

/-- Items that wait in a stream's hold queue: those of classes F, I, R and Z whose hold has not ended (R128), and interrupt writes
and messages that wait for a host link (R113). -/
def heldCount (s : State) (p stream : Nat) : Nat :=
  (s.bridge.items.filter (fun e => e.2.port == p && e.2.stream == stream && !e.2.released &&
    (match e.2.cls with | .f | .i | .r | .z => true | .w | .c => false) && (waitsLink e.2 || !holdEnded s e.1 e.2))).length

/-- The place that an item needs in its stream's hold queue of 16: one only where its hold has not ended, or where it is to wait
for a host link; class W and C items need none (R113, R128). -/
def holdRoom (s : State) (p st : Nat) (cls : ICls) (first last : Nat) : Bool :=
  match cls with
  | .w | .c => true
  | .f | .i | .r | .z =>
    let x : Item := { port := p, stream := st, cls, body := .write false, first, last, toHost := false, trks := [], got := [],
                      sent := 0, fails := [], closed := false, released := false, flushing := false, deadline := 0 }
    decide (heldCount s p st < 16) ||
      (holdEnded s s.bridge.nextItem x && (decide (cls ≠ .i) || (s.hostUpPort (portOwner s p)).isSome))

/-- The lines of a byte range. -/
def linesOf (addr bytes : Nat) : Nat × Nat := (addr / 64, (addr + bytes - 1) / 64)

/-- The class of a partner's posted write in its stream (the class table, R124). -/
def writeCls (s : State) (p st : Nat) (w : LegWrite) : ICls :=
  let addr := w.addr / 4 * 4
  let (first, last) := linesOf addr w.data.length
  match wayOf s p addr w.data.length true with
  | .interrupt => .i
  | .window => if isFlag s p st w (writeBytes w) first last false then .f else .w
  | .host => if isFlag s p st w (writeBytes w) first last true then .f else .w
  | .unsupported | .violation => .w

/-- R104: the trackers that a partner's request over lines `first` to `last` holds: one for each line in a window, one for its TLP
on the host link; a request that is not carried holds none. -/
def trksNeeded (s : State) (p addr bytes : Nat) (write : Bool) (first last : Nat) : Nat :=
  match wayOf s p addr bytes write with
  | .window => last + 1 - first
  | .host | .interrupt => 1
  | .unsupported | .violation => 0

/-- The trackers that a partner's posted write needs. -/
def writeTrks (s : State) (p : Nat) (w : LegWrite) : Nat :=
  let (first, last) := linesOf (w.addr / 4 * 4) w.data.length
  trksNeeded s p (w.addr / 4 * 4) w.data.length true first last

/-- The room that a posted write needs: trackers, and a place in the hold queue when it is to be held. -/
def writeRoom (s : State) (p : Nat) (w : LegWrite) : Bool :=
  let (first, last) := linesOf (w.addr / 4 * 4) w.data.length
  let st := streamOf s p w.reqId w.ido
  legRoom s p (writeTrks s p w) && holdRoom s p st (writeCls s p st w) first last

/-- The trackers that a partner's read or AtomicOp of `bytes` at an address needs. -/
def readTrks (s : State) (p addr bytes : Nat) : Nat :=
  let (first, last) := linesOf addr bytes
  trksNeeded s p addr bytes false first last

/-- The room that it needs. -/
def readRoom (s : State) (p : Nat) (r : LegRead) (addr bytes : Nat) : Bool :=
  let (first, last) := linesOf addr bytes
  legRoom s p (readTrks s p addr bytes) && holdRoom s p (streamOf s p r.reqId r.ido) .r first last

/-! ## Flow control of a PCIe partner, R108, R109 -/

/-- The header and data credits that a waiting TLP of a partner holds: posted, non-posted. -/
def creditsOf (p : Nat) : Ingress → (Nat × Nat) × (Nat × Nat)
  | .legWrite q w => if q = p then ((1, (w.data.length + 15) / 16), (0, 0)) else ((0, 0), (0, 0))
  | .legWire q _ _ _ | .legMsg q _ _ => if q = p then ((1, 0), (0, 0)) else ((0, 0), (0, 0))
  | .legRead q _ | .legZero q _ => if q = p then ((0, 0), (1, 0)) else ((0, 0), (0, 0))
  | .legAtom q _ op => if q = p then ((0, 0), (1, (op.size + 15) / 16)) else ((0, 0), (0, 0))
  | .mem .. | .io .. | .fwd .. => ((0, 0), (0, 0))

/-- R108: does a TLP stay within the credits advertised: 128 posted headers and 2,048 posted data credits, 64 and 64 for
non-posted? A TLP that waits keeps its credits; one that has been accepted has returned them. -/
def creditsLeft (s : State) (p : Nat) (g : Ingress) : Bool :=
  let all := (s.bridge.waiting.map (fun b => creditsOf p b.2)) ++ [creditsOf p g]
  decide ((all.map (·.1.1)).sum ≤ 128) && decide ((all.map (·.1.2)).sum ≤ 2048)
    && decide ((all.map (·.2.1)).sum ≤ 64) && decide ((all.map (·.2.2)).sum ≤ 64)

/-- A partner's protocol error (R139, R153): logged, recorded and contained with cause PROTOCOL. `code`: 5 malformed, 6 flow
control, which sets CREDIT_ERR (R49). -/
def legProtocol (p code : Nat) (s : State) : State :=
  let s := if code = 6 then s.linkEvent p 7 else s
  contain p 4 (legRecord 0x26 .contained p none 0 (aerLog p code s))

/-- A TLP of a partner is taken at once by `go`, waits, or exceeds the credits and is discarded (R49, R109). -/
def takeOr (p : Nat) (g : Ingress) (room : Bool) (go wait : State → State) (s : State) : State :=
  if firstIn s g && room then go s
  else if creditsLeft s p g then wait s
  else legProtocol p 6 s

/-- TRK_EXHAUST is set where a TLP of a partner waits for trackers (R109). -/
def waitLeg (p lines : Nat) (g : Ingress) (s : State) : State :=
  waitIn (homeBp p) g (if legRoom s p lines then s else bridgeEvent 2 (homeBp p) s)

/-- Accept a partner's posted write that finds room. -/
def takeWrite (p : Nat) (w : LegWrite) (s : State) : State :=
  let n := w.data.length
  let addr := w.addr / 4 * 4
  let (first, last) := linesOf addr n
  let h := portOwner s p
  let d := devDeadline s p
  match wayOf s p addr n true with
  | .unsupported => noConversion p none s
  | .interrupt =>
    let (st, s) := joinStream p w.reqId w.ido s
    let s := if w.ep then poisonIn p s else s
    let tlp : Tlp := .mwr w.addr w.fbe w.lbe w.data w.reqId w.ep w.attr
    let (i, s) := addItem p st .i (.intr tlp) first last true d s
    releaseItem i (hostTrk p i (.write 0#512 fullMask true w.ep .noOp) tlp d s)
  | .violation =>
    let t := newTrk (.leg s.bridge.nextItem 0) h .general (.write 0#512 fullMask true false .noOp) w.addr d
    let (st, s) := joinStream p w.reqId w.ido s
    let (i, s) := addItem p st .w (.write false) first last false d s
    let s := trkViolation 1 ((matchWindow s h addr).map (·.1)) 0 t (s.modItem i (fun x => { x with reqId := w.reqId }))
    withContain (vbError p 0 (dropItem i s))
  | .window =>
    let (st, s) := joinStream p w.reqId w.ido s
    let s := if w.ep then poisonIn p s else s
    let cls := writeCls s p st w
    let swap := match matchWindow s h addr with | some (_, win, _, _) => win.bswap | none => 0
    let (i, s) := addItem p st cls (.write false) first last false d s
    let ops := (List.range (last + 1 - first)).map (fun k => lineWrite w (first + k) swap)
    translateItem i (lineTrks p i ops first d (s.modItem i (fun x => { x with reqId := w.reqId })))
  | .host =>
    let (st, s) := joinStream p w.reqId w.ido s
    let s := if w.ep then poisonIn p s else s
    let cls := writeCls s p st w
    let (i, s) := addItem p st cls (.write true) first last true d s
    hostTrk p i (.write 0#512 fullMask true w.ep .noOp) (.mwr w.addr w.fbe w.lbe w.data w.reqId w.ep w.attr) d
      (s.modItem i (fun x => { x with checked := true }))

/-- LEGACY_POSTED_WRITE: a TLP with a PASID prefix or AT is not carried (R110); one that finds no room waits. -/
def postedWrite (p : Nat) (w : LegWrite) (s : State) : State :=
  if !legPort s p || w.data.isEmpty then s
  else
    let s := (s.count (cntPort p 0) 48 1).count (cntPort p 0x10) 48 w.data.length
    if !w.plain then noConversion p none s
    else
      takeOr p (.legWrite p w) (writeRoom s p w) (takeWrite p w) (waitLeg p (writeTrks s p w) (.legWrite p w)) s

/-! ## LEGACY_READ, LEGACY_ATOMIC, LEGACY_ZERO_LENGTH_READ -/

/-- Accept a partner's read that finds room. -/
def takeRead (p : Nat) (r : LegRead) (s : State) : State :=
  let (base, len) := readSpan r
  let (first, last) := linesOf base len
  let h := portOwner s p
  let d := devDeadline s p
  match wayOf s p base len false with
  | .unsupported => noConversion p (some r) s
  | .violation =>
    let t := newTrk (.leg s.bridge.nextItem 0) h .general (.read .noOp) base d
    let (st, s) := joinStream p r.reqId r.ido s
    let (i, s) := addItem p st .r (.read r) first last false d s
    let s := dropItem i (trkViolation 1 ((matchWindow s h base).map (·.1)) 0 t s)
    cplToPartner p d .ur r.reqId r.tag (readBytes r) 0 [] false none s
  | .window =>
    let (st, s) := joinStream p r.reqId r.ido s
    let (i, s) := addItem p st .r (.read r) first last false d s
    translateItem i (lineTrks p i (List.replicate (last + 1 - first) (.read .noOp)) first d s)
  | .interrupt | .host =>
    let (st, s) := joinStream p r.reqId r.ido s
    let (i, s) := addItem p st .r (.read r) first last true d s
    hostTrk p i (.read .noOp) (.mrd r.addr r.dws r.fbe r.lbe r.reqId r.tag) d s

/-- LEGACY_READ: configuration, I/O and other requests with no conversion complete with UR (R110). -/
def legRead (p : Nat) (r : LegRead) (s : State) : State :=
  if !legPort s p || r.dws = 0 || r.dws > 1024 then s
  else
    let s := s.count (cntPort p 0) 48 1
    if !r.plain then noConversion p (some r) s
    else
      let (base, len) := readSpan r
      takeOr p (.legRead p r) (readRoom s p r base len) (takeRead p r) (waitLeg p (readTrks s p base len) (.legRead p r)) s

/-- Accept a partner's AtomicOp that finds room: executed at the home of an HBM window, carried to host memory, else UR
(R110, R123). -/
def takeAtom (p : Nat) (r : LegRead) (op : AtomOp) (s : State) : State :=
  let h := portOwner s p
  let d := devDeadline s p
  match wayOf s p r.addr op.size false with
  | .unsupported => noConversion p (some r) s
  | .violation =>
    let t := newTrk (.leg s.bridge.nextItem 0) h .general (.atom op 0 0) r.addr d
    let (st, s) := joinStream p r.reqId r.ido s
    let (i, s) := addItem p st .r (.atom r op) (r.addr / 64) (r.addr / 64) false d s
    let s := dropItem i (trkViolation 1 ((matchWindow s h r.addr).map (·.1)) 0 t s)
    cplToPartner p d .ur r.reqId r.tag 4 0 [] false none s
  | .window =>
    match matchWindow s h r.addr with
    | none => s
    | some (_, w, _, o) =>
      let ext := tget s.tabs.extents (w.extFirst + (slotOf w o).1)
      let hbm := match ext with
        | some e => ((backingFor s.tabs e.pool).map (fun b => b.typ == 0)).getD true
        | none => true
      if !hbm then noConversion p (some r) s
      else
        let (st, s) := joinStream p r.reqId r.ido s
        let (i, s) := addItem p st .r (.atom r op) (r.addr / 64) (r.addr / 64) false d s
        translateItem i (lineTrks p i [.atom op (r.addr % 64) w.bswap] (r.addr / 64) d s)
  | .interrupt | .host =>
    let (st, s) := joinStream p r.reqId r.ido s
    let (i, s) := addItem p st .r (.atom r op) (r.addr / 64) (r.addr / 64) true d s
    hostTrk p i (.atom op 0 0) (.atom r.addr op r.reqId r.tag) d s

/-- LEGACY_ATOMIC. -/
def legAtom (p : Nat) (r : LegRead) (op : AtomOp) (s : State) : State :=
  if !legPort s p then s
  else
    let s := s.count (cntPort p 0) 48 1
    if !r.plain then noConversion p (some r) s
    else
      takeOr p (.legAtom p r op) (readRoom s p r r.addr op.size) (takeAtom p r op)
        (waitLeg p (readTrks s p r.addr op.size) (.legAtom p r op)) s

/-- Accept a zero-length read: it holds one tracker (R104). -/
def takeZero (p : Nat) (r : LegRead) (s : State) : State :=
  let (st, s) := joinStream p r.reqId r.ido s
  let d := devDeadline s p
  let (i, s) := addItem p st .z (.zlr r) (r.addr / 64) (r.addr / 64) false d s
  releaseItem i (hostTrk p i (.read .noOp) (.mrd r.addr r.dws 0 0 r.reqId r.tag) d s)

/-- The tracker and the place in its hold queue that a zero-length read needs. -/
def zeroRoom (s : State) (p : Nat) (r : LegRead) : Bool :=
  legRoom s p 1 && holdRoom s p (streamOf s p r.reqId r.ido) .z (r.addr / 64) (r.addr / 64)

/-- LEGACY_ZERO_LENGTH_READ: a flush; it completes after every earlier posted item (R110, R126). -/
def zeroRead (p : Nat) (r : LegRead) (s : State) : State :=
  if !legPort s p then s
  else
    let s := s.count (cntPort p 0) 48 1
    if !portOwned s p || !r.plain then noConversion p (some r) s
    else takeOr p (.legZero p r) (zeroRoom s p r) (takeZero p r) (waitLeg p 1 (.legZero p r)) s

/-! ## INTx and error messages, R163-R166 -/

/-- An INTx message is accepted: the wire changes at once in BXE_STATUS.INTX; its message is an item of class I of the
partner's stream (R102, R164). The partner of a port that belongs to the device has its wires kept and no host to tell. -/
def takeWire (p wire : Nat) (on : Bool) (reqId : Nat) (s : State) : State :=
  let bit := 2 ^ wire
  let s := s.modLeg p (fun l => { l with intx := if on then l.intx ||| bit else l.intx &&& (15 - bit) })
  if !portOwned s p then s
  else
    let (st, s) := joinStream p reqId false s
    let (i, s) := addItem p st .i (.wire wire on) 0 0 true (devDeadline s p) s
    releaseItem i s

/-- The place that a message of a partner needs in its stream's hold queue. -/
def msgRoom (s : State) (p reqId : Nat) : Bool := holdRoom s p (streamOf s p reqId false) .i 0 0

/-- LEGACY_INTX_MESSAGE: it waits behind the port's posted TLPs that wait (R109), and for a place in the hold queue. -/
def intxMessage (p wire : Nat) (on : Bool) (reqId : Nat) (s : State) : State :=
  if !legPort s p || wire > 3 then s
  else
    takeOr p (.legWire p wire on reqId) (!portOwned s p || msgRoom s p reqId) (takeWire p wire on reqId)
      (waitIn (homeBp p) (.legWire p wire on reqId)) s

/-- A message is accepted: logged in every case and recorded; forwarded as class I when SERR# Enable is 1; PME_TO_Ack is
consumed; ERR_FATAL contains the port, ERR_NONFATAL where the host's DPC Trigger Enable is 0b10 (R153, R166). -/
def takeMsg (p : Nat) (code : MsgCode) (reqId : Nat) (s : State) : State :=
    let err : Bool := match code with | .errCor | .errNonfatal | .errFatal => true | _ => false
    let fwd : Bool := match code with
      | .errCor | .errNonfatal | .errFatal | .pmPme => ((s.leg? p).map (·.serr)).getD false
      | _ => false
    let s := match code with
      | .errCor => aerLog p 7 s | .errNonfatal => aerLog p 8 s | .errFatal => aerLog p 9 s | _ => s
    let s := if err then
        legRecord 0x28 (if code = .errCor then .corrected else .contained) p none 0
          (s.setEvent (Reg.bxeEvents (legIndex s p)) 5)
      else s
    let s := if fwd then
        let (st, s) := joinStream p reqId false s
        let (i, s) := addItem p st .i (.note (.msg code reqId)) 0 0 true (devDeadline s p) s
        releaseItem i s
      else s
    match code with
    | .errFatal => contain p 2 s
    | .errNonfatal => if ((s.leg? p).map (·.dpcEn)).getD 0 = 2 then contain p 3 s else s
    | _ => s

/-- LEGACY_ERR_MESSAGE: a message waits behind the port's posted TLPs that wait (R109), and for a place in the hold queue. -/
def errMessage (p : Nat) (code : MsgCode) (reqId : Nat) (s : State) : State :=
  if !legPort s p || !portOwned s p then s
  else
    takeOr p (.legMsg p code reqId) (msgRoom s p reqId) (takeMsg p code reqId) (waitIn (homeBp p) (.legMsg p code reqId)) s

/-! ## CXL.io requests of hosts, R110, R116, R120, R130 -/

/-- Is the AtomicOp within the partner's completer capability (R110)? -/
def atomOk (l : Leg) (op : AtomOp) : Bool :=
  match op.kind with
  | .cas => (op.size == 4 && l.atomics % 2 == 1) || (op.size == 8 && l.atomics / 2 % 2 == 1)
      || (op.size == 16 && l.atomics / 4 % 2 == 1)
  | .fetchAdd | .swap => (op.size == 4 && l.atomics % 2 == 1) || (op.size == 8 && l.atomics / 2 % 2 == 1)

/-- A host writes a register of a virtual bridge. -/
def writeBridge (w : VbWrite) (l : Leg) : Leg :=
  match w with
  | .tag10 b => { l with tag10 := b }
  | .serr b => { l with serr := b }
  | .dpcEnable v => { l with dpcEn := v % 4 }
  | .dpcCompletion b => { l with dpcUr := b }
  | .egressBlock b => { l with block := b }
  | .errCorEnable b => { l with errCor := b }
  | .errNonfatalEnable b => { l with errNf := b }
  | .errFatalEnable b => { l with errF := b }
  | .uncorMask m => { l with uncorMask := m % 128 }
  | .dpcInterrupt b => { l with dpcInt := b }
  | .dpcErrCor b => { l with dpcErrCor := b }
  | .bus _ | .slotStatus _ _ => l

/-- The slot of the chain whose board a legacy port's link goes to (SLOT_CFG.PORT). -/
def slotOfPort (s : State) (p : Nat) : Option (Nat × Slot) :=
  s.chain.slots.find? (fun e => bitAt e.2.cfg 60 && fld e.2.cfg 56 48 == p)

/-- The debounced presence of a slot (R517). -/
def slotPresent (sl : Slot) : Bool :=
  !sl.absent && (decide (1000 ≤ sl.presentRun) || (sl.state != .empty && sl.state != .debounce && sl.state != .lockedOff && sl.state != .fetShort))

/-- A host's configuration write to its virtual switch: the secondary bus number of the upstream port is one for all its virtual
bridges (R116); the rest is the one bridge's. -/
def bridgeWrite (h lp : Nat) (w : VbWrite) (s : State) : State :=
  match w with
  | .bus b => { s with bridge.secBus := tput 0 s.bridge.secBus h (b % 256) }
  | .slotStatus attn fault =>
    (match slotOfPort s lp with
    | some (i, _) => { s with chain.slots := tmod s.chain.slots i (fun sl =>
        { sl with attnPressed := sl.attnPressed && !attn, powerFault := sl.powerFault && !fault }) }
    | none => s)
  | .tag10 _ | .serr _ | .dpcEnable _ | .dpcCompletion _ | .egressBlock _ | .errCorEnable _ | .errNonfatalEnable _ | .errFatalEnable _
  | .uncorMask _ | .dpcInterrupt _ | .dpcErrCor _ => s.modLeg lp (writeBridge w)

/-- The value of a field that a function of the device reports to its host: `lp` is the legacy port below a virtual bridge, none
for the pool view. None where the spec gives that function no such value. -/
def viewField (s : State) (h : Nat) (lp : Option Nat) (f : ViewFld) : Option Nat :=
  let r := decoderRange s.tabs h
  match f, lp with
  | .vendorId, _ => some (fld (s.rd Reg.deviceId) 15 0)
  | .deviceId, _ => some (fld (s.rd Reg.deviceId) 31 16)
  | .revisionId, none => some (s.rf Reg.revision 15 8)
  | .serialNumber, none => some (if s.pair.present then s.pair.pairSerial.toNat else Config.serial.toNat)
  | .decoderBase, none => some r.1
  | .decoderSize, none => some (r.2 - r.1)
  | .decoderCommitted, none | .decoderLocked, none | .decoderWays, none => some 1
  | .eventOverflow v, none => some (tgetD s.bridge.viewOvf (viewLog h v) 0)
  | .linkActive, some p => some (b2n (s.linkIsUp p && partnerBound s p))
  | .aerStatus, some p => some ((((s.leg? p).map (·.aer)).getD []).foldl (fun m c => m ||| 2 ^ c) 0)
  | .dpcStatus, some p =>
    some (((s.leg? p).map (fun l => b2n l.dpcStatus + 2 * l.dpcReason)).getD 0)
  | .slotCaps, some p => some (b2n (((slotOfPort s p).map (fun e => bitAt e.2.cfg 62)).getD false))
  | .slotPresence, some p => some (b2n (((slotOfPort s p).map (fun e => slotPresent e.2)).getD false))
  | .slotPowerFault, some p => some (b2n (((slotOfPort s p).map (fun e => e.2.powerFault)).getD false))
  | .slotAttention, some p => some (b2n (((slotOfPort s p).map (fun e => e.2.attnPressed)).getD false))
  | .slotCaps, none | .slotPresence, none | .slotPowerFault, none | .slotAttention, none
  | .revisionId, some _ | .serialNumber, some _ | .decoderBase, some _ | .decoderSize, some _ | .decoderCommitted, some _
  | .decoderLocked, some _ | .decoderWays, some _ | .eventOverflow _, some _ | .linkActive, none | .aerStatus, none
  | .dpcStatus, none => none

/-- The first `n` records of an event log are removed (Clear Event Records). -/
def dropViews (h : Nat) (v : EvSev) : Nat → List ViewRec → List ViewRec
  | 0, l => l
  | _, [] => []
  | n + 1, r :: l => if r.host == h && decide (r.sev = v) then dropViews h v n l else r :: dropViews h v (n + 1) l

/-- A host's request to a function of the device itself: the value, and what it changes. A field without a value of the spec's
reads as a free value (assumption 70). -/
def viewDo (h : Nat) (lp : Option Nat) (v : ViewReq) (s : State) : Nat × State :=
  match v with
  | .field f =>
    (match viewField s h lp f with
    | some n => (n, s)
    | none => let (w, s) := s.free; (w.toNat, s))
  | .eventPolicy sev on =>
    let log := viewLog h sev
    let rest := s.bridge.viewSignal.filter (· != log)
    (0, { s with bridge.viewSignal := if on then rest ++ [log] else rest })
  | .clearEvents sev n =>
    (0, { s with bridge.views := dropViews h sev n s.bridge.views,
                 bridge.viewOvf := terase s.bridge.viewOvf (viewLog h sev) })

/-- Is the request posted? -/
def ioPosted : IoKind → Bool
  | .mwr | .vendorMsg | .otherMsg => true
  | .mrd | .cfgRd | .cfgWr _ | .atom _ | .ioRdWr | .dmwr | .unlisted | .bridge _ | .own _ => false

/-- Is it a configuration request, which IDE_REQ lets pass (R47)? -/
def ioConf : IoKind → Bool
  | .cfgRd | .cfgWr _ | .bridge _ | .own _ => true
  | .mwr | .mrd | .atom _ | .ioRdWr | .vendorMsg | .otherMsg | .dmwr | .unlisted => false

/-- The TLP that a request becomes on the legacy port; none where it is not sent. -/
def ioTlp (l : Leg) (r : IoReq) : Option Tlp :=
  if !r.plain then none
  else match r.kind with
    | .mwr => some (.mwr r.addr r.fbe r.lbe r.data r.reqId r.ep r.attr)
    | .mrd => some (.mrd r.addr r.dws r.fbe r.lbe r.reqId r.tag)
    | .cfgRd => some (.cfg false r.addr [] r.reqId r.tag)
    | .cfgWr _ => some (.cfg true r.addr r.data r.reqId r.tag)
    | .atom op => if atomOk l op then some (.atom r.addr op r.reqId r.tag) else none
    | .vendorMsg => some (.msg (.vendor r.data) r.reqId)
    | .otherMsg | .ioRdWr | .dmwr | .unlisted | .bridge _ | .own _ => none

/-- Bytes that the partner owes for a request. -/
def ioOwed (r : IoReq) : Nat :=
  match r.kind with
  | .mrd => readBytes { addr := r.addr, dws := r.dws, fbe := r.fbe, lbe := r.lbe, reqId := r.reqId, tag := r.tag, ido := false, plain := true, listed := true }
  | .atom op => op.size
  | .cfgRd => 4
  | _ => 0

/-- Is it a request for a function of the device itself? -/
def ioOwn : IoKind → Bool
  | .own _ => true
  | .mwr | .mrd | .cfgRd | .cfgWr _ | .atom _ | .ioRdWr | .vendorMsg | .otherMsg | .dmwr | .unlisted | .bridge _ => false

/-- Room for a host's CXL.io request: the share of BRIDGE_CTL.RSV_HOSTIO or a general tracker. -/
def ioRoom (s : State) (p : Nat) (r : IoReq) : Bool :=
  let bp := pipeOf p (r.addr / 64)
  canAlloc s bp .hostIo 1 || canAlloc s bp .general 1

/-- Accept a host's CXL.io request that finds room: sequenced, converted, or answered UR. -/
def takeIo (p vb : Nat) (r : IoReq) (s : State) : State :=
  let h := portHost s p
  let d := deadlineOf s (s.rf (Reg.hostArb h) 31 16)
  let conf := ioConf r.kind
  let ur := fun (lp : Nat) (s : State) =>
    if ioPosted r.kind then s
    else tlpToHost p 2 d none (.cpl .ur (vbId s lp) r.reqId r.tag 4 0 [] false) s (conf := conf)
  let own := fun (lp : Option Nat) (v : ViewReq) (s : State) =>
    let (n, s) := viewDo h lp v s
    let data := match v with
      | .field _ => (List.range (4 * r.dws)).map (fun k => BitVec.ofNat 8 (n / 2 ^ (8 * k)))
      | .eventPolicy _ _ | .clearEvents _ _ => []
    tlpToHost p 2 d none (.cpl .sc (match lp with | some q => vbId s q | none => Config.viewId p) r.reqId r.tag (4 * r.dws) 0 data
      false) s (conf := true)
  match vbPort s h vb with
  | none => (match r.kind with
    | .own v => if vb = 0 then own none v s else ur 0 s
    | _ => ur 0 s)
  | some lp =>
    match s.leg? lp, r.kind with
    | none, _ => ur lp s
    | some _, .own v => own (some lp) v s
    | some _, .bridge w =>
      tlpToHost p 2 d none (.cpl .sc (vbId s lp) r.reqId r.tag 4 0 [] false) (bridgeWrite h lp w s) (conf := true)
    | some l, _ =>
      match ioTlp l r with
      | none => ur lp (if r.kind = .unlisted then bridgeEvent 3 (homeBp lp) s else s)
      | some t =>
        if r.ep && l.block && decide (r.kind = .mwr) then withContain (vbError lp 3 s)
        else
          let contained := ((tget s.links lp).map (·.contained)).getD false
          let down := contained || !s.linkIsUp lp
          if !down && !partnerBound s lp then ur lp s
          else
            let bp := pipeOf p (r.addr / 64)
            let seq := tgetD s.bridge.seqs p 0
            let s := { s with bridge.seqs := tset s.bridge.seqs p (seq + 1) }
            let s := match r.kind with | .cfgWr (some m) => s.modLeg lp (fun l => { l with mps := min m 2 }) | _ => s
            let share := if shareUsed s bp .hostIo < rsvHostIo s then Share.hostIo else .general
            let op : LineOp := if ioPosted r.kind then .write 0#512 fullMask true r.ep .noOp else .read .noOp
            let trk := { newTrk (.io p r.reqId r.tag) h share op r.addr d with
              st := .wait, target := .legacy lp, tlp := some t, owed := ioOwed r, seq }
            match allocTrk bp trk s with
            | (none, s) => s
            | (some k, s) =>
              if contained then withContain (endContainedTrk lp k s)
              else if down then finishTrk k (errAnswer .contained) s
              else s

/-- HOST_IO_REQUEST. -/
def ioRequest (p vb : Nat) (r : IoReq) (s : State) : State :=
  if !(s.role p == 1 && s.linkIsUp p && s.mode.carries && (1 ≤ vb || ioOwn r.kind) && vb ≤ 32) then s
  else if !ideOk s p && !ioConf r.kind then s
  else
    let s := (s.count (cntPort p 0) 48 1).count (cntPort p 0x10) 48 r.data.length
    let s := s.count (cntHost (portHost s p) 0x10) 48 1
    let bp := pipeOf p (r.addr / 64)
    if !firstIn s (.io p vb r) then waitIn bp (.io p vb r) s
    else if ioRoom s p r then takeIo p vb r s
    else waitIn bp (.io p vb r) (bridgeEvent 2 bp s)

/-! ## Requests that waited for a tracker -/

/-- R454: the TWIN port that a request for a host's address travels on: the lower-numbered one where its line's plane is even, the
other where it is odd; with one down, the one that is up. Where no entry of this member's tables names the pool line, the plane
is the host-side line's (assumption 69). -/
def twinPort (s : State) (host addr : Nat) : Option Nat :=
  let line := match matchWindow s host addr with
    | some (_, w, _, o) =>
      (match tget s.tabs.extents (w.extFirst + (slotOf w o).1) with
      | some e => if e.st = .absent then addr / 64 else (e.pool * 2 ^ 28 + (slotOf w o).2) / 64
      | none => addr / 64)
    | none => addr / 64
  let ps := (s.portsOf 5).filter (fun p => s.linkIsUp p && ideOk s p)
  match ps with
  | [a, b] => some (if planeOf line % 2 = 0 then a else b)
  | _ => ps.head?

/-- The pipeline that takes a request which the partner forwards: of the TWIN port on which it arrives (R35, R454). -/
def fwdPipe (s : State) (host addr : Nat) : Nat :=
  pipeOf ((twinPort s host addr).getD ((s.portsOf 5).headD 0)) (addr / 64)

/-- Accept a request of the partner that finds a tracker (R450): its deadline was converted by the sender (R453). A gone
host's request to a shared window is answered OFFLINE (R205). -/
def takeFwd (id host addr deadline : Nat) (cached : Bool) (contrib : Option Nat) (op : LineOp) (s : State) : State :=
  let t := newTrk (.twin id cached contrib) host .general op addr (deadline % 65536)
  match allocTrk (fwdPipe s host addr) t s with
  | (none, s) => s
  | (some k, s) =>
    let gone := match tget s.home.cohs host with
      | some c => decide (c.st = .reclaim) || decide (c.st = .gone)
      | none => false
    let shared := match matchWindow s host addr with | some (_, w, _, _) => w.shared | none => false
    if gone && shared then finishTrk k (errAnswer .offline) s else translateTrk k s

/-- Does a waiting request find room now? -/
def ingressRoom (s : State) : Ingress → Bool
  | .mem p r => memRoom s p r
  | .legWrite p w => writeRoom s p w
  | .legRead p r => readRoom s p r (readSpan r).1 (readSpan r).2
  | .legAtom p r op => readRoom s p r r.addr op.size
  | .legZero p r => zeroRoom s p r
  | .legWire p _ _ r => !portOwned s p || msgRoom s p r
  | .legMsg p _ r => msgRoom s p r
  | .io p _ r => ioRoom s p r
  | .fwd _ h a _ _ _ _ => canAlloc s (fwdPipe s h a) .general 1

/-- Accept a waiting request. -/
def takeIngress (g : Ingress) (s : State) : State :=
  match g with
  | .mem p r => acceptMem p r s
  | .legWrite p w => takeWrite p w s
  | .legRead p r => takeRead p r s
  | .legAtom p r op => takeAtom p r op s
  | .legZero p r => takeZero p r s
  | .legWire p w on r => takeWire p w on r s
  | .legMsg p c r => takeMsg p c r s
  | .io p vb r => takeIo p vb r s
  | .fwd id h a d c n op => takeFwd id h a d c n op s

/-- R156: is a CONTAINED answer of a request toward the port still to be sent: by a tracker, an item, or an egress queue? -/
def answersOwed (s : State) (p : Nat) : Bool :=
  s.bridge.items.any (fun e => (e.2.port == p && (match e.2.body with | .cpl _ _ => true | _ => false)) || e.2.owe == some p)
    || s.bridge.trks.any (fun e => toward p e.2 && decide (e.2.st = .issued))
    || s.bridge.egress.any (fun q => q.2.any (fun e => e.owe == some p))
    || s.bridge.legs.any (fun l => l.2.egress.any (fun e => e.owe == some p))

/-- R156: containment ends, and a training attempt starts under R53. -/
def releaseNow (p : Nat) (s : State) : State :=
  let s := (s.modLink p (fun l => { l with contained := false })).modLeg p (fun l =>
    { l with cause := 0, ctoRun := 0, dpcStatus := false, dpcReason := 0, pounding := false, releasing := false })
  startAttempt p (s.wb (Reg.bxeCtl (legIndex s p)) 3 false)

/-- A release that waits takes effect when the last CONTAINED answer has been sent. -/
def tryRelease (p : Nat) (s : State) : State :=
  if ((s.leg? p).map (·.releasing)).getD false && !answersOwed s p then releaseNow p s else s

/-- Every release that waits is tried. -/
def settleReleases (s : State) : State :=
  ((s.bridge.legs.filter (fun l => l.2.releasing)).map (·.1)).foldl (fun s p => tryRelease p s) s

/-- R125: the zero-length read that follows a host-link write which has been sent; with no free tag on the link it waits for one. -/
def startFlush (i : Nat) (s : State) : State :=
  match s.item? i with
  | none => s
  | some x =>
    x.trks.foldl (fun s k =>
      match (s.trk? k).map Trk.target, (s.trk? k).bind Trk.tlp with
      | some (.hostLink q), some (.mwr a _ _ _ r _ _) =>
        if !s.linkIsUp q then s
        else match hostTag s q with
          | some g =>
            tlpToHost q 1 x.deadline none (.mrd a 1 0 0 r g)
              ((s.modTrk k (fun t => { t with tag := some g, issuedAt := s.now })).modItem i (fun x =>
                { x with flushing := true, flushWait := false }))
          | none => s.modItem i (fun x => { x with flushWait := true })
      | _, _ => s) s

/-- The zero-length reads that wait for a tag are tried. -/
def settleFlushes (s : State) : State :=
  ((s.bridge.items.filter (fun e => e.2.flushWait)).map (·.1)).foldl (fun s i => startFlush i s) s

/-- Accept, oldest first, each waiting request that finds room, unless an older one of its port and class still waits
(R50, R109); and carry on with what has waited for trackers, tags or answers. -/
def letIn (s : State) : State :=
  let step := fun (x : State × List (Nat × Ingress)) (g : Nat × Ingress) =>
    if ingressOpen x.1 g.2 && x.2.all (fun b => b.2.key != g.2.key) && ingressRoom x.1 g.2 then (takeIngress g.2 x.1, x.2)
    else (x.1, x.2 ++ [g])
  let (s', left) := s.bridge.waiting.foldl step ({ s with bridge.waiting := [] }, [])
  settleReleases (settleFlushes (fillRwd (sweepCtxs { s' with bridge.waiting := left ++ s'.bridge.waiting })))

/-- R35: HOST_MEM_REQUEST. -/
def execHostMemRequest (port : Nat) (r : MemReq) (s : State) : Host.Outcome State Fault Refusal :=
  .next (letIn (memRequest port r s))

/-- R84: FILL_TIMEOUT. -/
def execFillTimeout (die tag : Nat) (s : State) : Host.Outcome State Fault Refusal := .next (letIn (fillTimeout die tag s))

/-- R583: LEGACY_POSTED_WRITE. -/
def execLegacyPostedWrite (port : Nat) (w : LegWrite) (s : State) : Host.Outcome State Fault Refusal :=
  .next (letIn (postedWrite port w s))

/-- R119: LEGACY_READ. -/
def execLegacyRead (port : Nat) (r : LegRead) (s : State) : Host.Outcome State Fault Refusal :=
  .next (letIn (legRead port r s))

/-- R193: LEGACY_ATOMIC. -/
def execLegacyAtomic (port : Nat) (r : LegRead) (op : AtomOp) (s : State) : Host.Outcome State Fault Refusal :=
  .next (letIn (legAtom port r op s))

/-- R120: HOST_IO_REQUEST. -/
def execHostIoRequest (port vb : Nat) (r : IoReq) (s : State) : Host.Outcome State Fault Refusal :=
  .next (letIn (ioRequest port vb r s))

/-- R126: LEGACY_ZERO_LENGTH_READ. -/
def execLegacyZeroLengthRead (port : Nat) (r : LegRead) (s : State) : Host.Outcome State Fault Refusal :=
  .next (letIn (zeroRead port r s))

/-- R163: LEGACY_INTX_MESSAGE. -/
def execLegacyIntxMessage (port : Nat) (m : IntxMsg) (on : Bool) (s : State) : Host.Outcome State Fault Refusal :=
  .next (letIn (intxMessage port m.wire on m.reqId s))

/-- R166: LEGACY_ERR_MESSAGE. -/
def execLegacyErrMessage (port : Nat) (code : MsgCode) (reqId : Nat) (s : State) : Host.Outcome State Fault Refusal :=
  .next (letIn (errMessage port code reqId s))

end Sys2Proof.Machine
end

