-- ==== Sys2Proof/Machine/Modes.lean ====
section
/-! DEFINITION. Mode changes and the entry to HALT (R414-R418, R420). -/
namespace Sys2Proof.Machine

/-- The mode changes, at this time. -/
def setMode (m : Mode) (s : State) : State :=
  { s with alm.prev := s.alm.mode, alm.mode := m, alm.entry := s.now }

/-- Is the device a member of a formed pair? -/
def pairFormed (s : State) : Bool := s.pair.present && decide (s.pair.state = .formed)

/-- MODE_DETAIL.RETURN: PAIRED for a member of a formed pair, SOLO otherwise (R418). -/
def baseMode (s : State) : Mode := if pairFormed s then .paired else .solo

/-- R418: the mode after DEGRADED, SWAP or TAKEOVER. -/
def returnMode (s : State) : Mode := if s.alm.degCauses ≠ 0#4 then .degraded else baseMode s

/-- A record of the almanac and modes: cause code, section entry index, function (0xFF: none), and the mode. -/
def almRecord (cls : Nat) (sev : Sev) (cause sect fn : Nat) (s : State) : State :=
  s.raise cls sev .almanac 0 (cause + sect * 2 ^ 8 + fn * 2 ^ 16 + s.alm.mode.code * 2 ^ 24)

/-- R416: a cause of DEGRADED is set. During TAKEOVER or SWAP it takes effect when that mode ends (R415) (assumption 44). -/
def degrade (cause : Nat) (s : State) : State :=
  if s.alm.degCauses.getLsbD cause then s
  else
    let s := { s with alm.degCauses := s.alm.degCauses ||| BitVec.ofNat 4 (2 ^ cause) }.setEvent Reg.almEvents 8
    let s := match s.alm.mode with
      | .solo | .paired => setMode .degraded s
      | _ => s
    almRecord 0x95 .corrected cause 0xFF 0xFF s

/-- A cause of DEGRADED clears; without one the device leaves DEGRADED (R418). -/
def undegrade (cause : Nat) (s : State) : State :=
  let s := { s with alm.degCauses := s.alm.degCauses &&& ~~~(BitVec.ofNat 4 (2 ^ cause)) }
  match s.alm.mode with
  | .degraded => if s.alm.degCauses = 0#4 then setMode (baseMode s) s else s
  | _ => s

/-- R420: one port is held idle: LINK_UP 0, STATE DISABLED, LINK_DOWN as for a link that goes down (assumption 19). -/
def haltPort (s : State) (p : Nat) : State :=
  if s.linkIsUp p then linkLeaves p 0 s
  else
    ((s.modLink p (fun l => { l with attempting := false, waitUntil := none, drainUntil := none, trainOffUntil := none,
                                     eqUntil := none })).setLtssm p 0).linkEvent p 2

/-- R420: entry to HALT from LOAD to DRAIN (assumption 19). -/
def enterHalt (s : State) : State :=
  if s.mode.loadToHalt && decide (s.mode ≠ .halt) then
    let s := s.portList.foldl haltPort (setMode .halt s)
    { s with pwr.haltOutN := false, pair.aliveOut := false }
  else s

/-- A step of the data path, which rests outside the modes that carry traffic (R419-R422). -/
def whenCarries (f : State → State) (s : State) : State := if s.mode.carries then f s else s

/-! ## Which member's set a window is in, R442, R446 -/

/-- Are changes of a mirrored window's lines and entries sent to the partner (R198, R447, R458)? -/
def mirrorOn (s : State) : Bool :=
  s.pair.present && (decide (s.pair.state = .formed) || decide (s.pair.state = .syncing))

/-- The set that an access belongs to. -/
def setOf (s : State) (win : Nat) : Nat := ((tget s.tabs.windows win).map (·.home)).getD 0

/-- R467: does a set wait for its move: its holder starts no new access to it, once the tick that was open at MOVE_GO is
published? -/
def setWaits (s : State) (m : Nat) : Bool :=
  match s.pair.moveSet with
  | some (x, t) => x == m && decide (t ≤ s.tick.published)
  | none => false

/-- Does an access wait for its set's move? -/
def accWaits (s : State) (a : LAcc) : Bool := a.mirror && setWaits s (setOf s a.win)

/-- R445: the member has served an access to a set since its LOAD. -/
def claimSet (m : Nat) (s : State) : State := { s with pair.claimed := setAt s.pair.claimed m true }

/-- R446: a change to a held set that the partner does not also apply. -/
def peerStale (m : Nat) (s : State) : State := { s with pair.peerStale := setAt s.pair.peerStale m true }

end Sys2Proof.Machine
end

