-- ==== Sys2Proof/Machine/Arbiter.lean ====
section
/-! DEFINITION. What every arbiter does: deadlines compared modulo half-range, the order of grants, the rotating pointer
and the wait hints (R267-R273). -/
namespace Sys2Proof.Machine

/-- R267: deadline `a` is nearer than deadline `b`. -/
def nearer (a b : Nat) : Bool :=
  let d := (b + 65536 - a % 65536) % 65536
  decide (1 ≤ d) && decide (d ≤ 32767)

/-- R267: is an entry overdue that has waited at its arbiter from `since` to `now` (ns)? In some cycle of that time NOW minus the
deadline, modulo 2^16, lay in 1 to 32,767; from then on it stays overdue. -/
def overdueIn (since now deadline : Nat) : Bool :=
  let a := (since / 4 + 65536 - deadline % 65536) % 65536
  let n := now / 4 - since / 4
  if a = 0 then decide (1 ≤ n) else if a ≤ 32767 then true else decide (65537 ≤ a + n)

/-- An eligible entry: its place in its queue, its requester's number, its deadline, since when it waits, its place in the
privileged pending queue, and the rank that R268 rule 1 gives it (0 none, 3 for a unit of the reserved slot). -/
structure Cand where
  idx : Nat
  req : Nat
  deadline : Nat
  since : Nat
  priv : Bool
  first : Nat
  deriving DecidableEq, Repr

/-- Is the entry overdue? -/
def Cand.overdue (now : Nat) (c : Cand) : Bool := overdueIn c.since now c.deadline

/-- Distance of a requester from the rotating pointer, R269. -/
def fromPtr (ptr n req : Nat) : Nat := (req + n - ptr % n) % n

/-- R268: is `a` granted before `b`? Entries of one requester that are equal go oldest first. -/
def beats (now ptr n : Nat) (a b : Cand) : Bool :=
  let byPtr := decide (fromPtr ptr n a.req < fromPtr ptr n b.req)
    || (fromPtr ptr n a.req == fromPtr ptr n b.req && (decide (a.since < b.since) || (a.since == b.since && decide (a.idx < b.idx))))
  if a.first ≠ b.first then decide (a.first > b.first)
  else if a.first = 3 then nearer a.deadline b.deadline || (!nearer b.deadline a.deadline && byPtr)
  else if a.priv ≠ b.priv then a.priv
  else if a.priv then decide (a.since < b.since) || (a.since == b.since && decide (a.idx < b.idx))
  else if a.overdue now ≠ b.overdue now then a.overdue now
  else if a.overdue now then byPtr
  else nearer a.deadline b.deadline || (!nearer b.deadline a.deadline && byPtr)

/-- The entry that an arbiter grants. -/
def grantOf (now ptr n : Nat) : List Cand → Option Cand
  | [] => none
  | c :: r => match grantOf now ptr n r with
    | none => some c
    | some d => some (if beats now ptr n d c then d else c)

/-- R270: only the oldest parked request is at the head of the pending queue; each source holds one entry. -/
def privHead (cs : List Cand) : List Cand :=
  match (cs.filter (·.priv)).foldl (fun (h : Option Cand) c =>
      match h with
      | none => some c
      | some b => if c.since < b.since then some c else some b) none with
  | none => cs
  | some h => cs.map (fun c => { c with priv := decide (c = h) })

/-- R273: the hint of a loser with `a` entries ahead of it and a service time of `num / den` times 16 ns. -/
def hintOf (a num den : Nat) : Nat := min 255 ((a * num + den - 1) / den)

/-- R273: the hints that follow a decision: one a requester that lost, for its entry of the best rank. `w` is the winner;
its rank counts. -/
def hintsOf (now ptr n num den : Nat) (w : Cand) (cs : List Cand) : List (Nat × Nat) :=
  let losers := cs.filter (fun c => c ≠ w)
  losers.foldl (fun (acc : List (Nat × Nat)) c =>
    let a := (cs.filter (fun d => d = w || (d ≠ c && beats now ptr n d c))).length
    let h := hintOf a num den
    match acc.find? (fun e => e.1 == c.req) with
    | some e => if h < e.2 then acc.map (fun x => if x.1 == c.req then (c.req, h) else x) else acc
    | none => acc ++ [(c.req, h)]) []

/-- R528: an arbiter's counters of a group: one grant, its wait in ns, and the entries of each group that wait on. -/
def countGrant (base wait : Nat) (s : State) : State := (s.count base 48 1).countMax (base + 0x10) wait

end Sys2Proof.Machine
end

