-- ==== Sys2Proof/Machine/Hbm.lean ====
section
/-! DEFINITION. HBM: contents, check codes and poison, the channels' queues and schedulers, patrol scrub and channel
retirement (R173, R177-R186).
Assumption 57. -/
namespace Sys2Proof.Machine

/-! ## Contents -/

/-- A byte of memory; an unlisted byte is 0 (R423 step 2). -/
def memGet (m : List Host.Cell) (a : Nat) : Byte := (tget m a).getD 0#8

/-- Write a byte of memory. -/
def memPut (m : List Host.Cell) (a : Nat) (b : Byte) : List Host.Cell := tput 0#8 m a b

/-- The canonical form of a memory: addresses strictly rising, no byte that is 0. -/
def Memory.wf (m : List Host.Cell) : Bool := tcanon 0#8 m

/-- Write the bytes of a line that a mask names, at a byte address. -/
def memPutLine (m : List Host.Cell) (a : Nat) (mask : BitVec 64) (l : Line) : List Host.Cell :=
  (List.range 64).foldl (fun m i => if mask.getLsbD i then memPut m (a + i) (lineByte l i) else m) m

/-- The line as it stands in HBM, the write buffers included (R180). -/
def readHbm (s : State) (hl : Nat) : Line := lineOf (fun i => memGet s.home.mem (64 * hl + i))

/-- The poison bit of a line. -/
def isPoisoned (s : State) (hl : Nat) : Bool := s.home.poisoned.contains hl

/-- Set or clear a line's poison bit. -/
def setPoison (hl : Nat) (b : Bool) (s : State) : State :=
  { s with home.poisoned := (s.home.poisoned.filter (· != hl)) ++ (if b then [hl] else []) }

/-- Write bytes of a line. -/
def writeHbm (hl : Nat) (mask : BitVec 64) (l : Line) (s : State) : State :=
  { s with home.mem := memPutLine s.home.mem (64 * hl) mask l }

/-- R179: a full-line write takes its poison bit from the write; a masked write leaves a poisoned line poisoned. R141
marks every line that a poisoned posted write touches. -/
def writeLine (hl : Nat) (d : Line) (mask : BitVec 64) (full poison : Bool) (s : State) : State :=
  let s := writeHbm hl mask d s
  if full then setPoison hl poison s else if poison then setPoison hl true s else s

/-! ## AtomicOps, R193 -/

/-- The new value of an AtomicOp on an operand of its size. -/
def atomNew (op : AtomOp) (old : Nat) : Nat :=
  match op.kind with
  | .fetchAdd => (old + op.a) % 2 ^ (8 * op.size)
  | .swap => op.a
  | .cas => if old = op.a then op.b else old

/-- A line's number at an offset, with its bytes swapped as BSWAP says (R122, R123). -/
def swapNat (bswap : Nat) (l : Line) (off n : Nat) : Nat := lineNat (swapLine bswap l) off n

/-- An AtomicOp on a line: the old value and the new line (R123: the operand and the returned value are swapped). -/
def atomOn (op : AtomOp) (off bswap : Nat) (l : Line) : Nat × Line :=
  let v := swapLine bswap l
  let old := lineNat v off op.size
  (old, swapLine bswap (linePut v off op.size (atomNew op old)))

/-! ## Channels -/

/-- The counters of a channel's group: 0 READ, 1 WRITE, 2 PRIVILEGED, 3 BACKGROUND (R528). -/
def cntChan (c g : Nat) : Nat := 0x8000 + c * 0x100 + g * 0x20

/-- The counter group of a waiting access. -/
def chGroup (write background : Bool) (priv : Option Nat) : Nat :=
  if priv.isSome then 2 else if background then 3 else if write then 1 else 0

/-- The information bytes of the channel and home records: the channel in bytes 0-1, the host in byte 2. -/
def chInfo (c : Nat) (h : Option Nat) : Nat := c + (h.getD 0xFF) * 2 ^ 16

/-- The operation of an access as the channel sees it: a full-line write needs no read first. -/
def LineOp.rmw : LineOp → Bool
  | .write _ _ full _ _ => !full
  | .atom .. => true
  | .read _ | .specRd | .inv | .clnEvct => false

/-- The write buffer takes a line: it is globally visible from now on. A later write merges into the line's entry, which keeps its
own deadline, place and start (R180; DESIGN CHOICE: assumption 77). A privileged source parks one entry at an arbiter (R270); a
further one competes by its deadline. -/
def takeWriteBuf (hl deadline stop : Nat) (host : Option Nat) (background : Bool) (priv : Option Nat) (s : State) : State :=
  s.modChan (chanOfLine s hl) (fun c =>
    if c.wbuf.any (fun e => e.hline == hl) then c
    else
      let priv := if c.wbuf.any (fun e => e.priv.isSome && e.priv == priv) then none else priv
      { c with wbuf := c.wbuf ++ [{ hline := hl, deadline, stop, since := s.now, host, priv, background }] })

/-! ## Errors of a read, R177, R178 -/

/-- The region (0-6) of an HBM line; 7 for the part of R173. -/
def regionOf (s : State) (hl : Nat) : Nat :=
  ((List.range 7).find? (fun k =>
    let c := carveOf s.tabs k
    decide (c.1 * 2 ^ 14 ≤ hl) && decide (hl < (c.1 + c.2) * 2 ^ 14))).getD 7

/-- CE_RATE counts whole seconds of the DTB. -/
def rollCe (now : Nat) (c : Chan) : Chan :=
  let t := now / 1000000000
  if t = c.ceSecond then c
  else { c with ceRate := if t = c.ceSecond + 1 then min 65535 c.ceCount else 0, ceCount := 0, ceSecond := t }

/-- A channel's CE_RATE as of now. -/
def rollChan (c : Nat) (s : State) : State := s.modChan c (rollCe s.now)

/-- R177: a correctable error: corrected, written back, counted; at most one record a channel in each 1 ms. -/
def correctable (c : Nat) (s : State) : State :=
  let s := ((rollChan c s).count 0x1058 48 1).setEvent Reg.homeEvents 6
  let s := s.modChan c (fun x => { x with ceCount := x.ceCount + 1 })
  let due := match (s.chan c).lastCe with | some t => decide (t + 1000000 ≤ s.now) | none => true
  if due then (s.modChan c (fun x => { x with lastCe := some s.now })).raise 0x30 .corrected .channel c (chInfo c none)
  else s

/-- R178: an uncorrectable error: a pool line becomes poisoned; the snoop filter's halts the device. Translation tables
and tally are handled by R80 and R227; the queue, spill and granary regions by their chapters. -/
def uncorrectable (hl : Nat) (s : State) : State :=
  let c := chanOfLine s hl
  let s := s.setEvent Reg.homeEvents 7
  match regionOf s hl with
  | 0 => enterHalt (s.raise 0x32 .fatalDevice .channel c (chInfo c none))
  | 6 => (setPoison hl true s).raise 0x31 .deferred .channel c (chInfo c none)
  | _ => s

/-! ## Channel retirement, R185 -/

/-- Channels retiring or retired. -/
def retiredCount (s : State) : Nat := (s.home.chans.filter (fun e => e.2.st == 1 || e.2.st == 2)).length

/-- R185: retirement starts, or is refused. -/
def retireStart (c : Nat) (s : State) : State :=
  if c ≥ 128 || (s.chan c).st ≠ 0 then s
  else if retiredCount s < s.tabs.reserve then
    capacityChanged ((s.modChan c (fun x => { x with st := 1, copied := 0 })).raise 0x35 .deferred .channel c (chInfo c none))
  else s.setEvent Reg.homeEvents 9

/-- R185: a channel whose CE_RATE has reached 4,096 starts its retirement. -/
def retireDue (c : Nat) (s : State) : State := if (s.chan c).ceRate ≥ 4096 then retireStart c s else s

/-- CE_RATE of every channel as of now: a whole second of the DTB has ended (R177, R185). -/
def rollAll (s : State) : State :=
  (s.home.chans.map (·.1)).foldl (fun s c => retireDue c (rollChan c s)) s

/-- The granule of channel `c` at place `q`, R175. -/
def granuleOf (c q : Nat) : Nat := q * 128 + (c ^^^ ((q % 128) ^^^ ((q / 128) % 128) ^^^ ((q / 16384) % 128)))

/-- The lowest granule from `g` on, of `n`, that no moved granule uses and whose channel is in service. -/
def freeGranule (s : State) : Nat → Nat → Option Nat
  | 0, _ => none
  | n + 1, g =>
    if (s.chan (chanOf (g * 256))).st = 0 && !(s.home.moved.any (fun e => e.2 == g)) then some g
    else freeGranule s n (g + 1)

/-- The lines of the granule that a retiring channel copies next, as they were before any was moved; `ks`: places in the granule. -/
def granuleLines (s : State) (c : Nat) (ks : List Nat) : List Nat :=
  let x := s.chan c
  let g := granuleOf c x.copied
  let owner := ((s.home.moved.find? (fun e => e.2 == g)).map (·.1)).getD g
  if x.st = 1 then (ks.filter (· < 4)).map (fun k => 4 * owner + k) else []

/-- A line whose read for a copy is uncorrectable: handled by R178, and poisoned at its new place (R185 step 3). -/
def copyUe (hl : Nat) (s : State) : State := setPoison hl true (uncorrectable hl s)

/-- R185 steps 2 to 5: the next granule of a retiring channel is copied; `ce` and `ue` list its lines whose read was corrected, or
uncorrectable. -/
def granuleCopied (c : Nat) (ce ue : List Nat) (s : State) : State :=
  let x := s.chan c
  if x.st ≠ 1 then s
  else
    let g := granuleOf c x.copied
    let owner := ((s.home.moved.find? (fun e => e.2 == g)).map (·.1)).getD g
    let r := carveOf s.tabs 7
    let s := (granuleLines s c ce).foldl (fun s _ => correctable c s) s
    let s := (granuleLines s c ue).foldl (fun s hl => copyUe hl s) s
    match freeGranule s (r.2 * 4096) (r.1 * 4096) with
    | none => s
    | some d =>
      let s := { s with home.moved := tset s.home.moved owner d }
      let s := s.modChan c (fun x => { x with copied := x.copied + 1 })
      if x.copied + 1 = 6291456 then
        let s := (s.modChan c (fun x => { x with st := 2 })).setEvent Reg.homeEvents 8
        capacityChanged (degrade 0 (s.raise 0x35 .deferred .channel c (chInfo c none)))
      else s

/-- R186: a channel stops answering: the record, and HALT. -/
def channelDead (c : Nat) (s : State) : State :=
  if c < 128 && s.mode.carries then
    enterHalt ((s.modChan c (fun x => { x with st := 3 })).raise 0x36 .fatalDevice .channel c (chInfo c none))
  else s

/-- R186: CHANNEL_DEAD. -/
def execChannelDead (ch : Nat) (s : State) : Host.Outcome State Fault Refusal := .next (channelDead ch s)

/-! ## Patrol scrub, R184 -/

/-- HBM lines: 196,608 MiB. -/
def hbmLines : Nat := 196608 * 2 ^ 14

/-- The line that patrol scrub reads next: granules on a channel that has left service hold nothing. At most 4 channels are RETIRED, and
the granules beside one lie on others. -/
def patrolLine (s : State) : Nat → Nat → Nat
  | 0, hl => hl
  | n + 1, hl => if (s.chan (chanOfLine s hl)).st = 2 then patrolLine s n ((hl / 4 + 1) * 4 % hbmLines) else hl

/-- PATROL_SCRUB_READ: the next line read is queued at its channel; a line with an access in progress waits for it. -/
def patrolRead (s : State) : State :=
  if !s.rb Reg.homeCtl 1 then s
  else
    let hl := patrolLine s 8 (s.home.patrol % hbmLines)
    let busy := s.home.entries.any (fun e => hlineOf s e.2.acc.dpa == hl)
      || (s.chan (chanOfLine s hl)).readQ.any (fun a => a.hline == hl)
      || (s.chan (chanOfLine s hl)).reading.any (fun a => a.hline == hl)
    if busy || !chRoom s hl false then s
    else
      takeReadQ { ownRead .access hl (memStop (chanOfLine s hl)) (deadlineOf s 32767) with background := true }
        { s with home.patrol := (hl + 1) % hbmLines }

/-- R184: PATROL_SCRUB_READ. -/
def execPatrolScrubRead (s : State) : Host.Outcome State Fault Refusal := .next (whenCarries patrolRead s)

/-! ## The channel scheduler, R181, R182 -/

/-- R574: the accesses that a throttled stack's channel may still make in these 128 ns, aligned to the DTB (assumption 80); `none`:
unlimited. Refresh is not counted. -/
def chLimit (s : State) (n : Nat) : Option Nat :=
  match tgetD s.therm.levels (n / 32) 0 with
  | 0 => none
  | k => some (128 / 2 ^ k - (if (s.chan n).paced.1 = s.now / 128 then (s.chan n).paced.2 else 0))

/-- An access of a channel is granted in the 128 ns that contain `now`. -/
def chPaced (now : Nat) (c : Chan) : Nat × Nat := (now / 128, (if c.paced.1 = now / 128 then c.paced.2 else 0) + 1)

/-- The candidates of a channel: reads (places below 64) and writes (places from 64 on) that the stack's timing
permits. -/
def chCands (c : Chan) (reads writes : List Nat) : List Cand :=
  (reads.filterMap (fun i => c.readQ[i]?.map (fun (a : ChAcc) =>
      ({ idx := i, req := a.stop, deadline := a.acc.deadline, since := a.since, priv := a.priv.isSome, first := 0 } : Cand))))
  ++ (writes.filterMap (fun i => c.wbuf[i]?.map (fun (e : WEnt) =>
      ({ idx := 64 + i, req := e.stop, deadline := e.deadline, since := e.since, priv := e.priv.isSome, first := 0 } : Cand))))

/-- The choice of R181 rules 2 to 5: the privileged head, an overdue access, the nearest deadline with its open-row
exception. -/
def chChoose (now window : Nat) (ptr : Nat) (open_ : List Nat) (cs : List Cand) : Option Cand :=
  match grantOf now ptr 48 (privHead cs) with
  | none => none
  | some w =>
    if w.priv || w.overdue now then some w
    else
      match grantOf now ptr 48 (cs.filter (fun c => open_.contains c.idx)) with
      | some o => if (o.deadline + 65536 - w.deadline) % 65536 ≤ window then some o else some w
      | none => some w

/-- The waiting access of a candidate: its group, host and start. -/
def chEntry (c : Chan) (i : Nat) : Option (Nat × Option Nat × Nat) :=
  if i < 64 then c.readQ[i]?.map (fun a => (chGroup false a.background a.priv,
    if a.background || decide (a.job ≠ .access) then none else some a.acc.host, a.since))
  else c.wbuf[i - 64]?.map (fun e => (chGroup true e.background e.priv, e.host, e.since))

/-- R528, R531: the counters of a decision: waits of the losers, the winner's grant; a transfer by a parked grant has waited 0 (R272). -/
def chCount (n : Nat) (c : Chan) (w : Cand) (cs : List Cand) (parked : Bool) (s : State) : State :=
  let s := cs.foldl (fun s x =>
    if x = w then s
    else match chEntry c x.idx with
      | some (g, h, _) =>
        let s := s.count (cntChan n g + 8) 48 1
        (match h with | some h => s.count (cntHost h 0x30) 48 1 | none => s)
      | none => s) s
  match chEntry c w.idx with
  | some (g, h, t) =>
    let wait := if parked then 0 else s.now - t
    let s := countGrant (cntChan n g) wait s
    (match h with
    | some h => (s.count (cntHost h 0x28) 48 1).countMax (cntHost h 0x38) wait
    | none => s)
  | none => s

/-- CHANNEL_SCHEDULE: one command cycle of a channel. `refresh`: a refresh that may no longer be postponed; `reads`,
`writes`: the queue places that the stack's timing permits; `openRows`: those (writes from 64 on) to an open row. -/
def chSchedule (n : Nat) (refresh : Bool) (reads writes openRows : List Nat) (s : State) : State :=
  let c := s.chan n
  if refresh then s.modChan n (fun c => { c with refreshes := c.refreshes + 1 })
  else if chLimit s n = some 0 then s
  else
    let late := c.readQ.any (fun a => overdueIn a.since s.now a.acc.deadline)
    let turn := if c.turn > 0 then (if late then 0 else min c.turn c.wbuf.length)
                else if c.wbuf.length ≥ 48 && !late then min 8 c.wbuf.length else 0
    let cs := chCands c (if turn > 0 then [] else reads) writes
    match chChoose s.now (s.rf Reg.homeCtl 15 8) c.ptr openRows cs with
    | none => s.modChan n (fun c => { c with turn })
    | some w =>
      let s := chCount n c w cs (c.owner == some w.req && cs.length == 1 && bitAt s.rings.ctl 1) s
      let s := if w.overdue s.now then s.setEvent Reg.arbEvents 5 else s
      let hints := hintsOf s.now c.ptr 48 1 4 w cs
      let owner := if bitAt s.rings.ctl 1 then some w.req else none
      let ptr := (w.req + 1) % 48
      let paced := chPaced s.now c
      if w.idx < 64 then
        s.modChan n (fun c =>
          { c with paced, readQ := dropAt c.readQ w.idx, turn := 0, ptr, hints, owner,
                   reading := c.reading ++ (match c.readQ[w.idx]? with
                     | some a => [{ a with buffered := a.buffered || c.wbuf.any (fun e => e.hline == a.hline) }]
                     | none => []) })
      else
        let left := if turn > 0 then turn - 1 else min 8 c.wbuf.length - 1
        let gone := (c.wbuf[w.idx - 64]?).map WEnt.hline
        s.modChan n (fun c =>
          { c with paced, wbuf := dropAt c.wbuf (w.idx - 64), turn := left, ptr, hints, owner,
                   reading := c.reading.map (fun a => { a with buffered := a.buffered || gone == some a.hline }) })

end Sys2Proof.Machine
end

