-- ==== Sys2Proof/Machine/Home.lean ====
section
/-! DEFINITION. The home agent: entries, the snoop filter, back-invalidate snoops, eviction, mirrored windows and hosts
that have gone (R187-R205, R451, R452).
Assumption 57. -/
namespace Sys2Proof.Machine

/-! ## Lines and the snoop filter -/

/-- The set of a line, R187. -/
def sfSet (line : Nat) : Nat := (line % 2 ^ 21) ^^^ (line / 2 ^ 21 % 2 ^ 20)

/-- The HBM line of a pool line. -/
def poolHline (s : State) (line : Nat) : Nat :=
  hlineOf s (((backingFor s.tabs (line / 2 ^ 22)).map (fun b => dpaOf b (64 * line))).getD 0)

/-- The channel, the home slice and the die of a pool line (R187, R188). -/
def lineChan (s : State) (line : Nat) : Nat := chanOfLine s (poolHline s line)
def lineDie (s : State) (line : Nat) : Nat := lineChan s line / 64

/-- The mirrored window that holds a pool line, if one does (R443: all windows of an extent agree). -/
def mirWin (s : State) (line : Nat) : Option Win :=
  (s.tabs.windows.find? (fun e => e.2.mirror &&
    (s.tabs.run e.2).any (fun x => (x.map (fun (y : Ext) => decide (y.st ≠ .absent) && y.pool == line / 2 ^ 22)).getD false))).map (·.2)

/-- The snoop-filter entry of a line. -/
def sfGet (s : State) (line : Nat) : Option Sf := tget s.home.sf line

/-- The valid entries of a set. -/
def sfOf (s : State) (set : Nat) : Tbl Sf := s.home.sf.filter (fun e => sfSet e.1 == set)

/-- The lowest way of a set that is not in use. -/
def freeWay (s : State) (set : Nat) : Option Nat :=
  (List.range 16).find? (fun w => (sfOf s set).all (fun e => e.2.way != w))

/-- A mirrored entry stored beyond the ways takes a way that has come free (assumption 21). -/
def settleWays (set : Nat) (s : State) : State :=
  match (sfOf s set).find? (fun e => e.2.way ≥ 16), freeWay s set with
  | some e, some w => { s with home.sf := tset s.home.sf e.1 { e.2 with way := w } }
  | _, _ => s

/-- A cached set that changes is modified (R188). -/
def markSet (line : Nat) (s : State) : State :=
  let e := (lineDie s line, sfSet line)
  if s.home.cached.contains e && !s.home.dirty.contains e then { s with home.dirty := s.home.dirty ++ [e] } else s

/-- Store an entry: with no PRESENCE bit it becomes invalid (R190). A change of a mirrored line's entry is sent to the
mirror before the grant that it records (R199); MIRRORED clears when an entry is written (R461). -/
def sfPut (line : Nat) (e : Option Sf) (s : State) : State :=
  let e := match e with | some x => if x.presence = 0#64 then none else some { x with mirrored := false } | none => none
  let old := sfGet s line
  if old = e then s
  else
    let s := markSet line { s with home.sf := match e with | some x => tset s.home.sf line x | none => terase s.home.sf line }
    let s := match e with | none => settleWays (sfSet line) s | some _ => s
    match mirWin s line with
    | some w => if mirrorOn s then s.emit (.twinSf line e) else peerStale w.home s
    | none => s

/-- The hosts of a PRESENCE word. -/
def holdersOf (p : BitVec 64) : List Nat := (List.range 64).filter (fun h => p.getLsbD h)

/-- A host's bit. -/
def hostBit (h : Nat) : BitVec 64 := BitVec.ofNat 64 (2 ^ h)

/-- Remove one host from a line's entry. -/
def dropHolder (line h : Nat) (s : State) : State :=
  match sfGet s line with
  | none => s
  | some e => sfPut line (some { e with presence := e.presence &&& ~~~(hostBit h) }) s

/-! ## Coherence state of hosts, R203-R205 -/

/-- A host's coherence state. -/
def State.coh (s : State) (h : Nat) : Coh := tgetD s.home.cohs h newCoh

/-- Change a host's coherence state. -/
def State.modCoh (h : Nat) (f : Coh → Coh) (s : State) : State :=
  { s with home.cohs := tput newCoh s.home.cohs h (f (s.coh h)) }

/-- Is the host in RECLAIM or GONE? -/
def hostIsGone (s : State) (h : Nat) : Bool := decide ((s.coh h).st = .reclaim) || decide ((s.coh h).st = .gone)

/-- R203: does the host have a HOST port that is up, on this member or, by the last heartbeat, on the partner? -/
def hostLinked (s : State) (h : Nat) : Bool :=
  (s.hostUpPort h).isSome || (mirrorOn s && s.pair.partnerLinks / 2 ^ h % 2 == 1)

/-! ## Snoops, R191, R201 -/

/-- Snoops outstanding on a port. -/
def snpsOn (s : State) (p : Nat) : Nat := (s.home.snoops.filter (fun x => x.port == some p)).length

/-- The port for a snoop of a host: its lowest-numbered port that is up; with none here, through the partner (512,
R451). A port at its OUT_LIMIT sends none. -/
def snpPort (s : State) (h : Nat) : Option Nat :=
  match s.hostUpPort h with
  | some p => if snpsOn s p < fld (readCreditStatus s p) 58 48 then some p else none
  | none => if mirrorOn s && s.pair.partnerLinks / 2 ^ h % 2 == 1 then some 512 else none

/-- The BISnp leaves the home as a BI_REQ unit toward the port's pipeline. -/
def sendSnp (x : Snp) (p : Nat) (s : State) : State :=
  let s := (s.count 0x1048 48 1).count (cntHost x.host 0x48) 48 1
  if p = 512 then s.emit (.twinSnp x.tag x.host x.line x.kind)
  else
    let e : Egr := { kind := .mem, body := .snp x.tag x.host x.line x.kind, deadline := x.deadline, from_ := none, tag := none,
                     line := x.line, read := none, since := s.now, group := 5, item := none }
    injectUnit (mkUnit (planeOf x.line) (memStop (lineChan s x.line)) (bpStop (pipeOf p x.line)) 2 x.deadline 1 (some x.host)
      (.snp p e)) s

/-- Send the snoops that wait for a port or a credit, oldest first. -/
def pumpSnps (s : State) : State :=
  (s.home.snoops.map (·.tag)).foldl (fun s t =>
    match s.home.snoops.find? (fun x => x.tag == t) with
    | some x =>
      (match x.port, snpPort s x.host with
      | none, some p =>
        sendSnp x p { s with home.snoops := s.home.snoops.map (fun y => if y.tag == t then { y with port := some p } else y) }
      | _, _ => s)
    | none => s) s

/-- Issue a snoop: its BI timer starts now, sent or waiting (R201). -/
def issueSnp (line h : Nat) (k : SnpType) (why : SnpWhy) (deadline : Nat) (s : State) : State :=
  pumpSnps
    { s with
      home.snoops := s.home.snoops ++ [{ tag := s.home.snpTag, line, host := h, kind := k, why, start := s.now,
                                         timer := s.rf Reg.homeCtl 47 32 * 1000, port := none, deadline }],
      home.snpTag := s.home.snpTag + 1 }

/-! ## Writes and the mirror, R198 -/

/-- The set of a line's mirrored window. -/
def mirSet (s : State) (line : Nat) : Nat := ((mirWin s line).map (·.home)).getD 0

/-- Send a line as it now stands to the mirror, with the journal entry of an AtomicOp that the partner forwarded
(R452). The answer is its number; none where the line is not mirrored now. -/
def mirrorLine (line deadline : Nat) (journal : Option (Nat × Nat)) (s : State) : Option Nat × State :=
  match mirWin s line with
  | none => (none, s)
  | some w =>
    if mirrorOn s then
      let hl := poolHline s line
      (some s.home.mirTag,
        { s with home.mirTag := s.home.mirTag + 1 }.emit
          (.twinLine s.home.mirTag line (readHbm s hl) (isPoisoned s hl) journal (toPartner4 s deadline)))
    else (none, peerStale w.home s)

/-- R198: a line that has become poisoned is sent to the mirror; its home entry waits for the acknowledgement. The message carries
the deadline of the access in progress on the line, or the budget of a walk (R266). -/
def mirrorPoison (line : Nat) (s : State) : State :=
  match mirrorLine line (((tget s.home.entries line).map (fun h => h.acc.deadline)).getD (deadlineOf s 32767)) none s with
  | (some id, s) => { s with home.mirPoison := s.home.mirPoison ++ [(id, line)] }
  | (none, s) => s

/-- Does the mirror owe the acknowledgement of a poisoning of the line? -/
def poisonOwed (s : State) (line : Nat) : Bool := s.home.mirPoison.any (fun e => e.2 == line)

/-- R201: a line that a lost holder may have modified is written poisoned. -/
def poisonLine (line : Nat) (s : State) : State := mirrorPoison line (setPoison (poolHline s line) true s)

/-- R199: is the entry the copy that this member keeps of an entry of its partner's home? -/
def mirrorCopy (s : State) (line : Nat) (e : Sf) : Bool :=
  e.mirrored && ((mirWin s line).map (fun w => decide (winServed s w ≠ some false))).getD false

/-- The host's part of a line's entry at an expiry: EXCL: the line is written poisoned and the entry cleared; SHARED:
the bit is cleared (R201, R204). -/
def expireHolder (line h : Nat) (s : State) : State :=
  match sfGet s line with
  | none => s
  | some e =>
    if !e.presence.getLsbD h || mirrorCopy s line e then s
    else if e.excl then dropHolder line h (poisonLine line s)
    else dropHolder line h s

/-! ## Answers -/

/-- The answer of an access at its memory stop, or at the tick unit's stop for a tick-ordered window. -/
def answerAcc (a : LAcc) (plane : Nat) (r : Answer) (s : State) : State :=
  let c := chanOfLine s (hlineOf s a.dpa)
  let tick := ((tget s.tabs.windows a.win).map (·.tick)).getD false
  sendAnswer plane (if tick then tickStop c else memStop c) a.deadline (some a.host) a.who { r with second := a.second } s

/-- Does the access need a home entry (R187)? Accesses of mirrored windows do too, so that no access reads data the
mirror does not hold (R198; assumption 22). -/
def needsEntry (a : LAcc) : Bool := a.shared || a.op.rmw || a.mirror

/-- The entry of a slice that waits longest for a line takes it; the home entry is otherwise free again. -/
def nextEntry (line : Nat) (s : State) : State :=
  let s := { s with home.entries := terase s.home.entries line }
  match s.home.waiting.findIdx? (fun w => w.1.pool == line) with
  | none => s
  | some i =>
    match s.home.waiting[i]? with
    | none => s
    | some (a, plane) =>
      { s with
        home.entries := tset s.home.entries line { acc := a, st := .entered, plane, ans := none },
        home.waiting := dropAt s.home.waiting i }

/-! ## Victims, R194, R195, R200 -/

/-- Is an access in progress on the line, or is it being recalled? -/
def lineBusy (s : State) (line : Nat) : Bool :=
  (tget s.home.entries line).isSome || s.home.snoops.any (fun x => x.line == line) || poisonOwed s line

/-- R200: entries with MIRRORED = 1 are free once the twin link is lost or the pair dissolved. -/
def mirroredFree (s : State) : Bool :=
  decide (s.pair.state = .linkLost) || decide (s.pair.state = .dissolved)

/-- The entries of a set that may be chosen: with no access in progress, and not mirrored; for the partner, of mirrored
windows. -/
def victims (s : State) (set : Nat) (why : SnpWhy) : Tbl Sf :=
  (sfOf s set).filter (fun e => !e.2.mirrored && !lineBusy s e.1 &&
    (match why with | .partner => (mirWin s e.1).isSome | _ => true))

/-- PRESENCE bits of an entry. -/
def presCount (e : Sf) : Nat := (holdersOf e.presence).length

/-- R194: the hardware's victim: the fewest PRESENCE bits, pseudo-LRU among equals (assumption 3). -/
def hwVictim (s : State) (set : Nat) (why : SnpWhy) : Option Nat :=
  let vs := victims s set why
  let least := vs.foldl (fun m e => min m (presCount e.2)) 64
  let ties := vs.filter (fun e => presCount e.2 == least)
  (ties[Config.sfVictim s.fresh % max 1 ties.length]?).map (·.1)

/-- R194: the victim's holders are recalled; with none left the entry is free at once. The flag says so. -/
def recallSf (v : Nat) (why : SnpWhy) (deadline : Nat) (s : State) : Bool × State :=
  let s := { (s.count 0x1040 48 1).setEvent Reg.homeEvents 2 with fresh := s.fresh + 1 }
  match sfGet s v with
  | none => (true, s)
  | some e =>
    let hs := (holdersOf e.presence).filter (fun h => !hostIsGone s h)
    let s := ((holdersOf e.presence).filter (hostIsGone s)).foldl (fun s h => expireHolder v h s) s
    if hs.isEmpty then (true, sfPut v none s)
    else (false, hs.foldl (fun s h => issueSnp v h .inv why deadline s) s)

/-- WAY_CLASS of a way of a set. -/
def wayClass (s : State) (set : Nat) (why : SnpWhy) (w : Nat) : Nat :=
  match (sfOf s set).find? (fun e => e.2.way == w) with
  | none => 3
  | some e =>
    if !((victims s set why).any (fun v => v.1 == e.1)) then 3
    else if e.2.excl then 2 else if presCount e.2 ≤ 1 then 0 else 1

/-- R195: the die posts an eviction request, with the next TAG that has no open window there; with none free the need waits (DESIGN
CHOICE: assumption 76). -/
def postEvict (die set : Nat) (why : SnpWhy) (s : State) : State :=
  match freeFrom s.home.evictTag ((s.home.evicts.filter (fun e => e.die == die)).map Evict.tag) with
  | none => s
  | some tag =>
  let cls := (List.range 16).foldl (fun a w => a + wayClass s set why w * 2 ^ (2 * w)) 0
  let post := mkFld 63 63 1 ||| mkFld 62 55 tag ||| mkFld 52 32 set ||| mkFld 31 0 cls
  { s with
    home.evicts := s.home.evicts ++ [{ die, tag, set, why, deadline := s.now + s.rf Reg.homeCtl 31 24 * 1000 }],
    home.evictTag := tag + 1,
    home.evictPosts := tset s.home.evictPosts die (tgetD s.home.evictPosts die [] ++ [post]) }

/-- A set's entry is needed: ask for or choose a victim, reuse a free mirrored entry, ask the partner, or wait for an
access to end (R194, R195, R200). The flag: a way is free now. -/
def findVictim (die set : Nat) (why : SnpWhy) (deadline : Nat) (s : State) : Bool × State :=
  let busy := s.home.snoops.any (fun x => decide (x.why = why)) || s.home.evicts.any (fun e => decide (e.why = why) && e.set == set)
  if busy then (false, s)
  else
    match (if mirroredFree s then (sfOf s set).find? (fun e => e.2.mirrored) else none) with
    | some e => (true, { s with home.sf := terase s.home.sf e.1 })
    | none =>
      if (victims s set why).isEmpty then
        if why ≠ .partner && (sfOf s set).any (fun e => e.2.mirrored) && mirrorOn s && !s.home.asked.contains set then
          (false, { s with home.asked := s.home.asked ++ [set] }.emit (.twinEvict set))
        else (false, s)
      else if s.assist 6 then (false, postEvict die set why s)
      else match hwVictim s set why with
        | some v => recallSf v why deadline s
        | none => (false, s)

/-! ## The end of an access -/

/-- Does the access create a snoop-filter entry when it grants? The row of R189 it follows: 0 none, 1 SHARED, 2 EXCL. -/
def grantRow (a : LAcc) : Nat :=
  if !a.cached || !a.shared then 0
  else match a.op with
    | .read .data => 1
    | .read .inv => if a.rw then 2 else 1
    | .read .cur | .read .noOp => 0
    | .specRd | .inv | .clnEvct | .write .. | .atom .. => 0

/-- Does the line's entry name the access's host as EXCL holder (R190)? -/
def holdsExcl (s : State) (a : LAcc) : Bool :=
  a.cached && ((sfGet s a.pool).map (fun e => e.excl && e.presence == hostBit a.host)).getD false

/-- R190: the entry after the EXCL holder's write. A write with no MetaValue leaves it. -/
def metaEntry (a : LAcc) (s : State) : State :=
  match a.op, sfGet s a.pool with
  | .write _ _ _ _ v, some e =>
    (match v with
    | .i => dropHolder a.pool a.host s
    | .s => sfPut a.pool (some { e with excl := false }) s
    | .a | .noOp => s)
  | _, _ => s

/-- R189, R190: the snoop-filter entry that the access leaves. `way` is the way of a new entry. -/
def entryAfter (a : LAcc) (held : Bool) (way : Nat) (s : State) : State :=
  if !a.shared then s
  else
    let e := sfGet s a.pool
    let w := (e.map Sf.way).getD way
    match grantRow a, a.op with
    | 1, _ =>
      let p := (e.map Sf.presence).getD 0#64
      sfPut a.pool (some { presence := p ||| hostBit a.host, excl := false, mirrored := false, way := w }) s
    | 2, _ => sfPut a.pool (some { presence := hostBit a.host, excl := true, mirrored := false, way := w }) s
    | _, .write .. => if held then metaEntry a s else sfPut a.pool none s
    | _, .atom .. | _, .inv => sfPut a.pool none s
    | _, .clnEvct => dropHolder a.pool a.host s
    | _, .read _ | _, .specRd => s

/-- The grant of an access. -/
def grantOfAcc (a : LAcc) : Grant := match grantRow a with | 1 => .shared | 2 => .excl | _ => .none

/-- The partner's tracker of a request that it forwarded (R450, R452). -/
def forwarded (s : State) : Who → Option Nat
  | .trk k => (s.trk? k).bind (fun t => match t.src with | .twin id _ _ => some id | _ => none)
  | .eng _ _ | .own => none

/-- The end of an access that has its data: the entry, the mirror, the answer, and the line's next access. An access that
needs a way of a full set waits for a victim with its answer; one whose line's poisoning the mirror has not acknowledged waits for
that (R198). -/
def finishAccess (line : Nat) (r : Answer) (wrote : Bool) (s : State) : State :=
  match tget s.home.entries line with
  | none => s
  | some h =>
    let a := h.acc
    let set := sfSet line
    let make := grantRow a != 0 && (sfGet s line).isNone
    let wait := fun (s : State) =>
      { s with home.entries := tset s.home.entries line { h with st := .victim, ans := some r, wrote } }
    let (ok, s) :=
      if poisonOwed s line then (false, s)
      else if make && (freeWay s set).isNone then findVictim (lineDie s line) set (.victim line) a.deadline s else (true, s)
    if !ok then wait s
    else
      let s := entryAfter a (holdsExcl s a) ((freeWay s set).getD 0) s
      let r := { r with grant := grantOfAcc a }
      let journal := match forwarded s a.who, a.op with | some id, .atom .. => some (id, r.old) | _, _ => none
      match (if wrote then mirrorLine line a.deadline journal s else (none, s)) with
      | (some id, s) =>
        { s with
          home.entries := tset s.home.entries line { h with st := .mirror, ans := some r },
          home.mirWaits := s.home.mirWaits ++ [{ id, line, set := mirSet s line, acc := a, plane := h.plane, ans := r,
                                                 entry := true }] }
      | (none, s) => nextEntry line (answerAcc a h.plane r s)

/-- Try again the accesses that wait for a way, in ascending line, and the partner's requests for a set (R200): an access
has ended or a way has come free. The request for such a set is posted by the die that the set's number as a pool line lies on
(DESIGN CHOICE: assumption 77). -/
def retryVictims (s : State) : State :=
  let s := (s.home.entries.filter (fun e => decide (e.2.st = .victim))).foldl (fun s e =>
    finishAccess e.1 (e.2.ans.getD okAnswer) e.2.wrote s) s
  s.home.askedBy.foldl (fun s set =>
    let (_, s') := findVictim (lineDie s set) set .partner (deadlineOf s 32767) s
    if s'.home.snoops.length > s.home.snoops.length || s'.home.evicts.length > s.home.evicts.length
        || s'.home.sf.length < s.home.sf.length then
      { s' with home.askedBy := s'.home.askedBy.filter (· != set) }
    else s') s

/-! ## The channel stage -/

/-- The channel access of an entry's access; its requester at the arbiter is its source stop (R181). -/
def entryAcc (s : State) (a : LAcc) (plane : Nat) (write : Bool) : ChAcc :=
  { acc := a, hline := hlineOf s a.dpa, stop := whoStop a.who, plane, since := s.now, entry := true,
    write, background := false, priv := none }

/-- Has the request of a tracker ended in a synthesised error already (R147, R151)? (assumption 65) -/
def endedInError (s : State) : Who → Bool
  | .trk k => match s.trk? k with | some t => decide (t.st = .held) | none => true
  | .eng _ _ | .own => false

/-- Perform a write that the buffer takes now: the line, its poison, and the answer (R143, R179, R193). The home completes it also
when its tracker's timer has expired meanwhile (R196). An AtomicOp whose operand has come poisoned (R254) leaves its line poisoned
(DESIGN CHOICE: assumption 77). -/
def performWrite (a : LAcc) (hl stop : Nat) (s : State) : Answer × State :=
  let s' := takeWriteBuf hl a.deadline stop (some a.host) false none s
  match a.op with
  | .write d m full p _ => (okAnswer, writeLine hl d m full p s')
  | .atom op off bs =>
    let (old, new) := atomOn op off bs (readHbm s hl)
    if isPoisoned s hl then ({ okAnswer with old, poison := true }, s)
    else ({ okAnswer with old }, (if op.ep then setPoison hl true else id) (writeHbm hl fullMask new s'))
  | .read _ | .specRd | .inv | .clnEvct => (okAnswer, s)

/-- A member serves the set of an access (R445). -/
def noteClaim (a : LAcc) (s : State) : State := if a.mirror then claimSet (setOf s a.win) s else s

/-- Is the access the EXCL holder's write-back while a snoop of that host for the line is open (R187)? -/
def isWriteback (s : State) (a : LAcc) : Bool :=
  a.shared && holdsExcl s a && s.home.snoops.any (fun x => x.line == a.pool && x.host == a.host)
    && (match a.op with | .write .. => true | _ => false)

/-- The holder's write-back is taken by the write buffer at once and acknowledged, without an entry (R187, R190). -/
def serveWriteback (a : LAcc) (plane stop : Nat) (s : State) : State :=
  let (r, s) := performWrite a (hlineOf s a.dpa) stop (noteClaim a s)
  match mirrorLine a.pool a.deadline none (metaEntry a s) with
  | (some id, s) =>
    { s with home.mirWaits := s.home.mirWaits ++ [{ id, line := a.pool, set := mirSet s a.pool, acc := a, plane, ans := r,
                                                    entry := false }] }
  | (none, s) => answerAcc a plane r s

/-- Write-backs that had come before the snoop of their line and wait at the slice, or hold an entry that has not started, are
served now: the holder answers the snoop only after their Cmp (R187, R191). -/
def pumpWritebacks (s : State) : State :=
  let ready := fun (s : State) (a : LAcc) => isWriteback s a && !accWaits s a && chRoom s (hlineOf s a.dpa) true
  let s := s.home.waiting.foldl (fun s w =>
    if ready s w.1 then serveWriteback w.1 w.2 (whoStop w.1.who) { s with home.waiting := s.home.waiting.erase w } else s) s
  (s.home.entries.filter (fun e => decide (e.2.st = .entered))).foldl (fun s e =>
    if ready s e.2.acc then nextEntry e.1 (serveWriteback e.2.acc e.2.plane (whoStop e.2.acc.who) s) else s) s

/-- An entry's access goes to its channel: a full-line write when the buffer takes it, everything else by a read first;
MemInv and MemClnEvct need none. -/
def toChannel (line : Nat) (s : State) : State :=
  match tget s.home.entries line with
  | none => s
  | some h =>
    let a := h.acc
    let hl := hlineOf s a.dpa
    let s := { s with home.entries := tset s.home.entries line { h with st := .channel } }
    let wait := fun (c : ChAcc) (s : State) => { s with home.chWait := s.home.chWait ++ [c] }
    match a.op with
    | .inv | .clnEvct => finishAccess line okAnswer false s
    | .write _ _ true _ _ =>
      let c := entryAcc s a h.plane true
      if chRoom s hl true then
        let (r, s) := performWrite a hl c.stop s
        finishAccess line r true s
      else wait c s
    | .read _ | .specRd | .write .. | .atom .. =>
      let c := entryAcc s a h.plane false
      if chRoom s hl false then takeReadQ c s else wait c s

/-! ## Starting an access, R189 -/

/-- The hosts that an access snoops, and how (R189). -/
def snoopsFor (s : State) (a : LAcc) : List (Nat × SnpType) :=
  match sfGet s a.pool with
  | none => []
  | some e =>
    let others := if a.cached then e.presence &&& ~~~(hostBit a.host) else e.presence
    let inv := (holdersOf others).map (fun h => (h, SnpType.inv))
    match a.op, grantRow a with
    | .read _, 2 => inv
    | .read _, 1 => if e.excl then (holdersOf others).map (fun h => (h, SnpType.data)) else []
    | .read _, _ => if e.excl then (holdersOf others).map (fun h => (h, SnpType.cur)) else []
    | .specRd, _ | .clnEvct, _ => []
    | .write .., _ => if holdsExcl s a then [] else inv
    | .inv, _ | .atom .., _ => inv

/-- The access acts by the state of the other holders. -/
def homeAct (line : Nat) (s : State) : State :=
  match tget s.home.entries line with
  | none => s
  | some h =>
    let a := h.acc
    if !a.shared then toChannel line s
    else if a.cached && hostIsGone s a.host then nextEntry line (answerAcc a h.plane (errAnswer .offline) s)
    else
      let s := match sfGet s line with
        | some e => ((holdersOf e.presence).filter (hostIsGone s)).foldl (fun s g => expireHolder line g s) s
        | none => s
      match a.op with
      | .specRd =>
        let other := ((sfGet s line).map (fun e => e.excl && e.presence != hostBit a.host)).getD false
        let hl := hlineOf s a.dpa
        let s := if !other && chRoom s hl false then
          takeReadQ { entryAcc s { a with who := .own } h.plane false with entry := false } s else s
        retryVictims (nextEntry line s)
      | _ =>
        match snoopsFor s a with
        | [] => toChannel line s
        | ss =>
          let s := { s with home.entries := tset s.home.entries line { h with st := .snooping } }
          ss.foldl (fun s x => issueSnp line x.1 x.2 .access a.deadline s) s

/-- HOME_ACCESS_START: an access with its line's entry looks its set up in the die's cache, or waits for the set (R188).
It waits while its line is being recalled. -/
def homeStart (line : Nat) (s : State) : State :=
  match tget s.home.entries line with
  | none => s
  | some h =>
    if h.st ≠ .entered || s.home.snoops.any (fun x => x.line == line) || poisonOwed s line || accWaits s h.acc then s
    else
      let s := noteClaim h.acc s
      if !h.acc.shared then homeAct line s
      else
        let die := lineDie s line
        let set := sfSet line
        if s.home.cached.contains (die, set) then
          homeAct line { s.count 0x1030 48 1 with home.cached := (s.home.cached.filter (· != (die, set))) ++ [(die, set)] }
        else
          let s := { s.count 0x1038 48 1 with home.entries := tset s.home.entries line { h with st := .setRead } }
          if s.home.setReads.contains (die, set) then s
          else
            queueRead (ownRead (.setRead die set) (4 * set) (memStop (lineChan s line)) h.acc.deadline)
              { s with home.setReads := s.home.setReads ++ [(die, set)] }

/-- R189: HOME_ACCESS_START. -/
def execHomeAccessStart (line : Nat) (s : State) : Host.Outcome State Fault Refusal :=
  .next (whenCarries (fun s => retryVictims (pumpWritebacks (homeStart line s))) s)

/-- A modified set that leaves a die's cache is written back to its place (R188), with the deadline of the access whose miss
replaces it (R266). -/
def writeSet (die set deadline : Nat) (s : State) : State :=
  if !s.home.dirty.contains (die, set) then s
  else
    let s := { s with home.dirty := s.home.dirty.filter (· != (die, set)) }
    let stop := if die = 0 then 2 else 26
    if chRoom s (4 * set) true then takeWriteBuf (4 * set) deadline stop none false none s
    else { s with home.chWait := s.home.chWait ++ [{ ownRead .setWrite (4 * set) stop deadline with write := true, since := s.now }] }

/-- A die's cache takes a set; with 65,536 sets held, one is replaced (assumption 3) and written back where it was modified. -/
def cacheSet (die set deadline : Nat) (s : State) : State :=
  let mine := s.home.cached.filter (fun e => e.1 == die)
  let s := if mine.length < 65536 then s
    else match mine[Config.sfCacheVictim s.fresh % 65536]? with
      | some v => writeSet v.1 v.2 deadline { s with home.cached := s.home.cached.filter (· != v) }
      | none => s
  { s with home.cached := s.home.cached ++ [(die, set)], fresh := s.fresh + 1 }

/-- SF_SET_READ_COMPLETE: a set's read, which its channel has issued, returns and every access that waits for it proceeds (R188);
an uncorrectable error halts the device (R178). -/
def setReadDone (die set : Nat) (ecc : Ecc) (s : State) : State :=
  match readingJob s (.setRead die set) with
  | none => s
  | some (n, k, c) =>
    let s := rollChan n (dropReading n k { s with home.setReads := s.home.setReads.filter (· != (die, set)) })
    if ecc = .uncorrectable && !c.buffered then uncorrectable (4 * set) s
    else
      let s := if ecc = .corrected && !c.buffered then correctable n s else s
      let s := cacheSet die set c.acc.deadline (retireDue n s)
      (s.home.entries.filter (fun e => decide (e.2.st = .setRead) && sfSet e.1 == set && lineDie s e.1 == die)).foldl
        (fun s e => homeAct e.1 s) s

/-- R188: SF_SET_READ_COMPLETE. -/
def execSfSetReadComplete (die set : Nat) (ecc : Ecc) (s : State) : Host.Outcome State Fault Refusal :=
  .next (whenCarries (fun s => retryVictims (pumpWritebacks (setReadDone die set ecc s))) s)

/-! ## Answers to snoops, R189, R201, R202 -/

/-- The snoop has ended. When it was the last of its access or recall, that goes on. -/
def snpEnd (x : Snp) (s : State) : State :=
  let s := { s with home.snoops := s.home.snoops.filter (fun y => y.tag != x.tag) }
  if s.home.snoops.any (fun y => y.line == x.line && decide (y.why = x.why)) then s
  else match x.why with
    | .access =>
      (match tget s.home.entries x.line with
      | some h => if h.st = .snooping then toChannel x.line s else s
      | none => s)
    | .victim _ | .partner => sfPut x.line none s
    | .release => s

/-- What the answer leaves of the holder: BISnpInv: nothing; BISnpData: SHARED with BIRspS; BISnpCur: the state it
answers. -/
def rspEntry (x : Snp) (rsp : BiRsp) (s : State) : State :=
  match sfGet s x.line with
  | none => s
  | some e =>
    if !e.presence.getLsbD x.host then s
    else match x.kind, rsp with
      | .data, .s | .cur, .s | .noOp, .s => sfPut x.line (some { e with excl := false }) s
      | .cur, .e | .noOp, .e => s
      | _, _ => dropHolder x.line x.host s

/-- R202: a late response is discarded and counted. -/
def biLate (s : State) : State := { s with home.lateBi := s.home.lateBi + 1 }.setEvent Reg.homeEvents 1

/-- BIRSP_RECEIVED: an answer in time ends its snoop and clears BI_FAIL_RUN; a late one is discarded (R202), and so is one that names
no snoop sent (DESIGN CHOICE: assumption 77). -/
def biRsp (tag : Nat) (rsp : BiRsp) (s : State) : State :=
  match s.home.snoops.find? (fun x => x.tag == tag) with
  | none => biLate s
  | some x =>
    if x.port.isNone then biLate s
    else pumpSnps (snpEnd x (rspEntry x rsp (s.modCoh x.host (fun c => { c with failRun := 0 }))))

/-- R189: BIRSP_RECEIVED. -/
def execBirspReceived (tag : Nat) (rsp : BiRsp) (s : State) : Host.Outcome State Fault Refusal :=
  .next (whenCarries (fun s => retryVictims (biRsp tag rsp s)) s)

/-- R240: is a host absent now: no port up on either member, or in RECLAIM or GONE? -/
def hostAbsent (s : State) (h : Nat) : Bool := !hostLinked s h || hostIsGone s h

/-- The host contributors that are absent now join the open tick's mask (R240). -/
def noteAbsences (s : State) : State :=
  let cs := (s.tick.contribs.filter (fun e => !e.2.engine && hostAbsent s e.2.host && !s.tick.openAcct.absent.contains e.1)).map (·.1)
  { s with tick.openAcct.absent := s.tick.openAcct.absent ++ cs }

/-- R204: a host becomes gone: RECLAIM, the record, its snoops end at once, and the walk starts. The record names no channel: 0xFFFF
(DESIGN CHOICE: assumption 77). -/
def hostGone (h : Nat) (s : State) : State :=
  if hostIsGone s h then s
  else
    let s := s.modCoh h (fun c => { c with st := .reclaim, walking := true, goneAt := none })
    let s := (s.setEvent Reg.homeEvents 5).raiseRec
      { mkRec s 0x34 .contained .host h (chInfo 0xFFFF (some h)) with host := some h }
    let mine := s.home.snoops.filter (fun x => x.host == h)
    noteAbsences (capacityChanged (mine.foldl (fun s x => snpEnd x (expireHolder x.line h s)) s))

/-- BI_TIMEOUT: the timer of a snoop expires; the access completes as if BIRspI had come (R201). -/
def biTimeout (tag : Nat) (s : State) : State :=
  match s.home.snoops.find? (fun x => x.tag == tag) with
  | none => s
  | some x =>
    let s := s.reach (x.start + x.timer)
    let s := (s.setEvent Reg.homeEvents 0).count 0x1050 48 1
    let s := s.raiseRec
      { mkRec s 0x33 .contained .host x.host (chInfo (lineChan s x.line) (some x.host)) with host := some x.host }
    let s := s.modCoh x.host (fun c => { c with failRun := min 255 (c.failRun + 1) })
    let s := snpEnd x (expireHolder x.line x.host s)
    let limit := s.rf Reg.homeCtl 23 16
    let s := if limit ≠ 0 ∧ (s.coh x.host).failRun ≥ limit then hostGone x.host s else s
    pumpSnps s

/-- R201: BI_TIMEOUT. -/
def execBiTimeout (tag : Nat) (s : State) : Host.Outcome State Fault Refusal :=
  .next (whenCarries (fun s => retryVictims (biTimeout tag s)) s)

/-- R266: the deadline of a BIConflict: that of the host's request on the line that it names, or of the BISnp; with neither, that of a
request accepted now. -/
def conflictDeadline (s : State) (h line : Nat) : Nat :=
  match s.bridge.trks.find? (fun e => e.2.host == h && e.2.pool == line && (match e.2.src with | .host _ _ => true | _ => false)),
    s.home.snoops.find? (fun x => x.line == line && x.host == h) with
  | some e, _ => e.2.deadline
  | none, some x => x.deadline
  | none, none => deadlineOf s (s.rf (Reg.hostArb h) 15 0)

/-- BICONFLICT_RECEIVED: BIConflictAck goes to the host's link as an RSP unit, after every grant already sent for the line
(R192; RING_UNIT_DELIVERED and the egress keep that order). -/
def biConflict (p line : Nat) (s : State) : State :=
  if memPort s p then
    let e : Egr := { kind := .mem, body := .biAck line, deadline := conflictDeadline s (portHost s p) line,
                     from_ := none, tag := none, line, read := none, since := s.now, group := 4, item := none }
    injectUnit (mkUnit (planeOf line) (memStop (lineChan s line)) (bpStop (pipeOf p line)) 1 e.deadline 1
      (some (portHost s p)) (.snp p e)) s
  else s

/-- R192: BICONFLICT_RECEIVED. -/
def execBiconflictReceived (port line : Nat) (s : State) : Host.Outcome State Fault Refusal := .next (biConflict port line s)

/-! ## Hosts that have gone, R203-R205 -/

/-- READMIT takes effect. -/
def readmitNow (h : Nat) (s : State) : State :=
  (s.modCoh h (fun c => { c with st := .up, failRun := 0, readmit := false, everUp := true, goneAt := none })).unisolate .host h

/-- R203, R205: the host's ports have changed: its gone timer starts or stops, its waiting snoops go out, a held READMIT
takes effect. -/
def hostLinks (h : Nat) (s : State) : State :=
  let c := s.coh h
  if hostLinked s h then
    match c.st with
    | .up => pumpSnps (s.modCoh h (fun c => { c with everUp := true }))
    | .downWait => pumpSnps (s.modCoh h (fun c => { c with st := .up, goneAt := none }))
    | .gone => if c.readmit && (s.hostUpPort h).isSome then readmitNow h s else s
    | .reclaim => s
  else match c.st with
    | .up => noteAbsences (if c.everUp then s.modCoh h (fun c => { c with st := .downWait, goneAt := some (s.now + s.rf Reg.homeCtl 63 48 * 1000000) }) else s)
    | .downWait | .gone | .reclaim => noteAbsences s

/-- GONE_TIMEOUT: the gone timer reaches GONE_TMO (R203). -/
def goneTimeout (h : Nat) (s : State) : State :=
  match (s.coh h).goneAt with
  | none => s
  | some t =>
    if (s.coh h).st = .downWait then hostGone h (s.reach t) else s

/-- R203: GONE_TIMEOUT. -/
def execGoneTimeout (h : Nat) (s : State) : Host.Outcome State Fault Refusal :=
  .next (whenCarries (fun s => retryVictims (goneTimeout h s)) s)

/-- RECLAIM_WALK_COMPLETE: every entry that named the host has been handled (R204). -/
def walkEnds (h : Nat) (s : State) : State :=
  if (s.coh h).st ≠ .reclaim then s
  else
    let s := (s.home.sf.filter (fun e => e.2.presence.getLsbD h)).foldl (fun s e => expireHolder e.1 h s) s
    let s := s.modCoh h (fun c => { c with st := .gone, walking := false })
    let s := capacityChanged s
    if (s.coh h).readmit && (s.hostUpPort h).isSome then readmitNow h s else s

/-- R204: RECLAIM_WALK_COMPLETE. -/
def execReclaimWalkComplete (h : Nat) (s : State) : Host.Outcome State Fault Refusal :=
  .next (whenCarries (fun s => retryVictims (walkEnds h s)) s)

/-- A write of READMIT, R205. -/
def readmitWrite (h : Nat) (s : State) : State :=
  match (s.coh h).st with
  | .gone => if (s.hostUpPort h).isSome then readmitNow h s else s.modCoh h (fun c => { c with readmit := true })
  | .reclaim => s.modCoh h (fun c => { c with readmit := true })
  | .up | .downWait => s

/-! ## Eviction answers, R195 -/

/-- The window of an eviction request closes with a victim; with none to choose, the need goes on (R194, R200). -/
def evictWith (e : Evict) (v : Option Nat) (s : State) : State :=
  let s := { s with home.evicts := s.home.evicts.filter (fun x => !(x.die == e.die && x.tag == e.tag)) }
  match v with
  | none => if e.why = .partner then { s with home.askedBy := s.home.askedBy ++ [e.set] } else s
  | some v => (recallSf v e.why (deadlineOf s 32767) s).2

/-- EVICT_RESP written (R195). -/
def evictAnswer (die : Nat) (data : Word) (s : State) : State :=
  let s := s.wr (Reg.evictResp die) (data &&& (fldMask 63 63 ||| fldMask 55 48 ||| fldMask 3 0))
  if !bitAt data 63 then s
  else match s.home.evicts.find? (fun e => e.die == die && e.tag == fld data 55 48) with
    | none => s.setEvent Reg.homeEvents 4
    | some e =>
      if wayClass s e.set e.why (fld data 3 0) = 3 then s
      else evictWith e (((sfOf s e.set).find? (fun x => x.2.way == fld data 3 0)).map (·.1)) s

/-- EVICT_TIMEOUT: the hardware's victim is used (R195). The record names no channel: 0xFFFF (DESIGN CHOICE: assumption 77). -/
def evictTimeout (die tag : Nat) (s : State) : State :=
  match s.home.evicts.find? (fun e => e.die == die && e.tag == tag) with
  | none => s
  | some e =>
    let s := (s.reach e.deadline).setEvent Reg.homeEvents 3
    let s := s.raise 0x37 .corrected .home die (chInfo 0xFFFF none)
    evictWith e (hwVictim s e.set e.why) s

/-- R195: EVICT_TIMEOUT. -/
def execEvictTimeout (die tag : Nat) (s : State) : Host.Outcome State Fault Refusal :=
  .next (whenCarries (fun s => retryVictims (evictTimeout die tag s)) s)

/-- A read of EVICT_REQ_n takes the oldest post. -/
def evictReqTake (die : Nat) (s : State) : Word × State :=
  let (w, r) := mailRead (tgetD s.home.evictPosts die [])
  (w, { s with home.evictPosts := tput [] s.home.evictPosts die r })

/-! ## The twin link, R198-R200 -/

/-- PARTNER_EVICT_REQUEST: the partner asks to free an entry of a set; with none to choose it waits (R200). -/
def partnerEvict (set : Nat) (s : State) : State :=
  if mirrorOn s then retryVictims { s with home.askedBy := s.home.askedBy ++ [set] } else s

/-- R200: PARTNER_EVICT_REQUEST. -/
def execPartnerEvictRequest (set : Nat) (s : State) : Host.Outcome State Fault Refusal :=
  .next (whenCarries (partnerEvict set) s)

/-- The mirror stores a line with its poison bit, keeps a journal entry among the most recent 4,096 of its set, and
acknowledges (R198, R452). -/
def mirrorStore (id line : Nat) (d : Line) (poison : Bool) (journal : Option (Nat × Nat)) (deadline : Nat) (s : State) : State :=
  let hl := poolHline s line
  let s := takeWriteBuf hl deadline (pairStop (chanOfLine s hl)) none false (some 1) (writeLine hl d fullMask true poison s)
  let s := match journal with
    | none => s
    | some (k, old) =>
      let m := mirSet s line
      let j := s.home.journal ++ [(m, k, old)]
      let n := (j.filter (fun (e : Nat × Nat × Nat) => e.1 == m)).length
      { s with home.journal := if n ≤ 4096 then j else j.eraseP (fun (e : Nat × Nat × Nat) => e.1 == m) }
  s.emit (.twinAck id)

/-- MIRROR_WRITE_RECEIVED: with the write buffer full the message waits at the pair logic's stop (R180). -/
def mirrorWrite (id line : Nat) (d : Line) (poison : Bool) (journal : Option (Nat × Nat)) (deadline : Nat) (s : State) : State :=
  if mirrorOn s && chRoom s (poolHline s line) true then mirrorStore id line d poison journal deadline s else s

/-- R198: MIRROR_WRITE_RECEIVED. -/
def execMirrorWriteReceived (id line : Nat) (d : Line) (poison : Bool) (tail : MirrorTail) (s : State) :
    Host.Outcome State Fault Refusal := .next (whenCarries (mirrorWrite id line d poison tail.journal tail.deadline) s)

/-- The mirror's acknowledgement of a line (or its absence once the twin link is lost, R458): the requester is answered
and the entry released. -/
def mirrorDone (w : MirWait) (s : State) : State :=
  let s := { s with home.mirWaits := s.home.mirWaits.filter (fun x => x.id != w.id) }
  let s := answerAcc w.acc w.plane w.ans s
  if w.entry then nextEntry w.line s else s

/-- The home's part of MIRROR_ACK_RECEIVED. -/
def homeAck (id : Nat) (s : State) : State :=
  match s.home.mirWaits.find? (fun w => w.id == id) with
  | some w => retryVictims (mirrorDone w s)
  | none =>
    if s.home.mirPoison.any (fun e => e.1 == id) then
      retryVictims { s with home.mirPoison := s.home.mirPoison.filter (fun e => e.1 != id) }
    else s

/-- MIRROR_SF_UPDATE: an entry change from the home, stored with MIRRORED = 1 (R199). With the set full of the member's own
entries, one of those is recalled to make room (assumption 21). -/
def mirrorSf (line : Nat) (e : Option (BitVec 64 × Bool)) (s : State) : State :=
  if !mirrorOn s then s
  else
    let s := markSet line s
    match e with
    | none => retryVictims (settleWays (sfSet line)
        { s with home.sf := terase s.home.sf line, home.asked := s.home.asked.filter (· != sfSet line) })
    | some (p, x) =>
      match sfGet s line, freeWay s (sfSet line) with
      | some o, _ => { s with home.sf := tset s.home.sf line { o with presence := p, excl := x, mirrored := true } }
      | none, some w => { s with home.sf := tset s.home.sf line { presence := p, excl := x, mirrored := true, way := w } }
      | none, none =>
        let s := { s with home.sf := tset s.home.sf line { presence := p, excl := x, mirrored := true, way := 16 } }
        (match hwVictim s (sfSet line) (.victim line) with
        | some v => (recallSf v (.victim line) (deadlineOf s 32767) s).2
        | none => s)

/-- R199: MIRROR_SF_UPDATE. -/
def execMirrorSfUpdate (line : Nat) (e : Option (BitVec 64 × Bool)) (s : State) : Host.Outcome State Fault Refusal :=
  .next (whenCarries (mirrorSf line e) s)

/-! ## Arrival of accesses, R187, R190 -/

/-- The unit `k` of the memory stops' buffers, when it is an access. -/
def arrivedAcc (s : State) (k : Nat) : Option (RUnit × LAcc) :=
  match s.rings.arrived[k]? with
  | some u => (match u.body with | .mem a => some (u, a) | _ => none)
  | none => none

/-- A unit leaves a destination buffer: its credit is on its way back (R252). -/
def leaveBuffer (u : RUnit) (s : State) : State :=
  if u.credit = 0 then s
  else { s with rings.back := s.rings.back ++ [(u.credit, u.plane, u.cls, u.src, u.dst)] }

/-- Take unit `k` out of the destination buffers. -/
def takeArrived (k : Nat) (u : RUnit) (s : State) : State :=
  leaveBuffer u { s with rings.arrived := dropAt s.rings.arrived k }

/-- Entries in use in the slice of a line. -/
def sliceUsed (s : State) (line : Nat) : Nat :=
  (s.home.entries.filter (fun e => lineChan s e.1 / 8 == lineChan s line / 8)).length

/-- HOME_REQUEST_ARRIVES, for any but a holder's write-back: the access takes its line's entry, or waits at the slice in order of arrival; with all 2,048
entries in use it stays at the memory stop (R187). -/
def homeArrive (k : Nat) (s : State) : State :=
  match arrivedAcc s k with
  | none => s
  | some (u, a) =>
    if !needsEntry a || isWriteback s a
        || (s.rings.arrived.take k).any (fun v => match v.body with | .mem b => b.pool == a.pool | _ => false) then s
    else if (tget s.home.entries a.pool).isSome then
      { takeArrived k u s with home.waiting := s.home.waiting ++ [(a, u.plane)] }
    else if sliceUsed s a.pool < 2048 then
      { takeArrived k u s with
        home.entries := tset s.home.entries a.pool { acc := a, st := .entered, plane := u.plane, ans := none } }
    else s

/-- R187: HOME_REQUEST_ARRIVES. -/
def execHomeRequestArrives (k : Nat) (s : State) : Host.Outcome State Fault Refusal := .next (whenCarries (homeArrive k) s)

/-- HOLDER_WRITEBACK: such a write-back is taken at once, without an entry (R187, R190); any other access of a holder
takes its entry and starts. -/
def holderWriteback (k : Nat) (s : State) : State :=
  match arrivedAcc s k with
  | none => s
  | some (u, a) =>
    if accWaits s a then s
    else if isWriteback s a then
      if chRoom s (hlineOf s a.dpa) true then serveWriteback a u.plane u.src (takeArrived k u s) else s
    else if a.cached && ((sfGet s a.pool).map (fun e => e.presence.getLsbD a.host)).getD false then
      homeStart a.pool (homeArrive k s)
    else s

/-- R190: HOLDER_WRITEBACK. -/
def execHolderWriteback (k : Nat) (s : State) : Host.Outcome State Fault Refusal :=
  .next (whenCarries (fun s => retryVictims (holderWriteback k s)) s)

/-! ## Channel commands -/

/-- Accesses under an entry that wait for room at channel `n` go on, oldest first. -/
def pumpChannel (n : Nat) (s : State) : State :=
  (s.home.chWait.filter (fun c => chanOfLine s c.hline == n)).foldl (fun s c =>
    if !chRoom s c.hline c.write then s
    else
      let s := { s with home.chWait := s.home.chWait.erase c }
      if c.job = .setWrite then takeWriteBuf c.hline c.acc.deadline c.stop none false none s
      else if c.write then
        let (r, s) := performWrite c.acc c.hline c.stop s
        finishAccess c.acc.pool r true s
      else takeReadQ c s) s

/-- An access that needs no home entry is taken by its channel, when the channel has room: the access waits in the stop's
buffer until then (R180, R251). A write is globally visible, and answered, once it is in the write buffer. -/
def takePlain (k : Nat) (s : State) : State :=
  match arrivedAcc s k with
  | none => s
  | some (u, a) =>
    let hl := hlineOf s a.dpa
    let c : ChAcc := { acc := a, hline := hl, stop := u.src, plane := u.plane, since := s.now, entry := false, write := false,
                       background := false, priv := u.priv }
    if needsEntry a then s
    else match a.op with
      | .inv | .clnEvct => answerAcc a u.plane okAnswer (takeArrived k u s)
      | .write .. | .atom .. =>
        if chRoom s hl true then
          let (r, s) := performWrite a hl u.src (takeArrived k u s)
          answerAcc a u.plane r s
        else s
      | .specRd => if chRoom s hl false then takeReadQ { c with acc.who := .own } (takeArrived k u s) else s
      | .read _ => if chRoom s hl false then takeReadQ c (takeArrived k u s) else s

/-- Every such access that finds room, oldest first. The fuel is their number. -/
def pumpPlain : Nat → Nat → State → State
  | 0, _, s => s
  | n + 1, k, s =>
    let s' := takePlain k s
    if s'.rings.arrived.length < s.rings.arrived.length then pumpPlain n k s' else pumpPlain n (k + 1) s'

/-- All the accesses that wait for a channel at the memory stops. -/
def pumpStops (s : State) : State := pumpPlain s.rings.arrived.length 0 s

/-- R181: CHANNEL_SCHEDULE. -/
def execChannelSchedule (ch : Nat) (refresh : Bool) (reads writes openRows : List Nat) (s : State) :
    Host.Outcome State Fault Refusal :=
  .next (whenCarries (fun s => retryVictims (pumpStops (pumpWritebacks (pumpChannel ch (chSchedule ch refresh reads writes openRows s))))) s)

/-- The pool line that lies at an HBM line, if a backing places one there (R68, R176). -/
def poolOfHline (s : State) (hl : Nat) : Option Nat :=
  let base := poolBaseMib s.tabs * 2 ^ 14
  let ext := (hl - base) / 2 ^ 22
  if hl < base then none
  else (s.tabs.backings.find? (fun e => e.2.typ == 0 && decide (e.2.dbase ≤ ext) && decide (ext < e.2.dbase + e.2.plen))).map
    (fun e => (e.2.pbase + (ext - e.2.dbase)) * 2 ^ 22 + (hl - base) % 2 ^ 22)

/-- R198: a line of a mirrored window that has become poisoned is sent to the mirror. -/
def mirrorUe (hl : Nat) (s : State) : State :=
  match poolOfHline s hl with
  | some line => mirrorPoison line s
  | none => s

/-- R185: RETIRE_GRANULE_COPIED. -/
def execRetireGranuleCopied (ch : Nat) (e : CopyEcc) (s : State) : Host.Outcome State Fault Refusal :=
  .next (whenCarries (fun s => (granuleLines s ch e.ue).foldl (fun s hl => mirrorUe hl s) (granuleCopied ch e.ce e.ue s)) s)

/-- CHANNEL_READ_COMPLETE: read `k` of those a channel has issued returns with what its check code finds (R177, R178); a line that the
write buffer serves has none (R180). A walk's and a set's reads end by commands of their own. -/
def chReadDone (n k : Nat) (ecc : Ecc) (s : State) : State :=
  match (s.chan n).reading[k]? with
  | none => s
  | some c =>
    if c.job ≠ .access then s else
    let ecc := if c.buffered || (s.chan n).wbuf.any (fun e => e.hline == c.hline) then .clean else ecc
    let s := rollChan n (dropReading n k s)
    let s := match ecc with
      | .clean => s
      | .corrected => correctable n s
      | .uncorrectable => (if c.entry then id else mirrorUe c.hline) (uncorrectable c.hline s)
    let s := retireDue n s
    if s.mode = .halt then s
    else if c.acc.op.rmw && c.entry then
      if chRoom s c.hline true then
        let (r, s) := performWrite c.acc c.hline c.stop s
        finishAccess c.acc.pool r true s
      else { s with home.chWait := s.home.chWait ++ [{ c with write := true }] }
    else
      let r : Answer := { okAnswer with data := readHbm s c.hline, poison := isPoisoned s c.hline }
      if c.entry then finishAccess c.acc.pool r (decide (ecc = .uncorrectable)) s
      else match c.acc.who with
        | .own => s
        | _ => answerAcc c.acc c.plane r s

/-- R177: CHANNEL_READ_COMPLETE. -/
def execChannelReadComplete (ch k : Nat) (ecc : Ecc) (s : State) : Host.Outcome State Fault Refusal :=
  .next (whenCarries (fun s => retryVictims (chReadDone ch k ecc s)) s)

/-! ## Registers -/

/-- HOME_STATUS. -/
def readHomeStatus (s : State) : Word :=
  mkFld 57 32 s.home.sf.length ||| mkFld 23 16 (retiredCount s)
    ||| mkFld 15 8 (s.home.cohs.filter (fun e => decide (e.2.st = .reclaim) || decide (e.2.st = .gone))).length
    ||| mkFld 0 0 (b2n (s.home.cohs.any (fun e => decide (e.2.st = .reclaim))))

/-- HOST_COH.STATE. -/
def CohSt.code : CohSt → Nat
  | .up => 0 | .downWait => 1 | .reclaim => 2 | .gone => 3

/-- HOST_COH_nn. -/
def readHostCoh (s : State) (h : Nat) : Word :=
  let c := s.coh h
  mkFld 63 62 c.st.code ||| mkFld 55 48 c.failRun
    ||| mkFld 45 20 (if c.st = .gone then 0 else (s.home.sf.filter (fun e => e.2.presence.getLsbD h)).length)
    ||| mkFld 0 0 (b2n c.readmit)

/-- CH_STATUS_ccc. -/
def readChStatus (s : State) (c : Nat) : Word :=
  let x := rollCe s.now (s.chan c)
  mkFld 63 62 x.st ||| mkFld 47 32 x.ceRate ||| mkFld 22 0 x.copied

end Sys2Proof.Machine
end

