-- ==== Sys2Proof/Machine/Soft.lean ====
section
/-! DEFINITION. Floating point (IEEE 754 binary32, binary64 and bfloat16): exact values, one rounding, flags (R216,
R342). -/
namespace Sys2Proof.Machine

/-- A format: exponent bits and fraction bits. -/
structure Fmt where
  eb : Nat
  fb : Nat
  deriving DecidableEq, Repr

def fmt32 : Fmt := { eb := 8, fb := 23 }
def fmt64 : Fmt := { eb := 11, fb := 52 }
def fmtBf : Fmt := { eb := 8, fb := 7 }

/-- The bias, the width in bits and the sign bit of a format. -/
def Fmt.bias (f : Fmt) : Nat := 2 ^ (f.eb - 1) - 1
def Fmt.bits (f : Fmt) : Nat := 1 + f.eb + f.fb
def Fmt.signBit (f : Fmt) : Nat := 2 ^ (f.eb + f.fb)

/-- A value: a NaN (signalling or not), an infinity, or `man × 2^exp` with a sign. -/
inductive Fp where
  | nan (signalling : Bool)
  | inf (neg : Bool)
  | fin (neg : Bool) (man : Nat) (exp : Int)
  deriving DecidableEq, Repr

/-- The flags of STATUS: invalid, division by zero, overflow, underflow, inexact. -/
structure FpFlags where
  nv : Bool
  dz : Bool
  of_ : Bool
  uf : Bool
  nx : Bool
  deriving DecidableEq, Repr

def noFlags : FpFlags := { nv := false, dz := false, of_ := false, uf := false, nx := false }

/-- Both sets of flags. -/
def FpFlags.or (a b : FpFlags) : FpFlags :=
  { nv := a.nv || b.nv, dz := a.dz || b.dz, of_ := a.of_ || b.of_, uf := a.uf || b.uf, nx := a.nx || b.nx }

/-- The value of an encoding. -/
def unpack (f : Fmt) (x : Nat) : Fp :=
  let neg := decide (x / f.signBit % 2 = 1)
  let e := x / 2 ^ f.fb % 2 ^ f.eb
  let m := x % 2 ^ f.fb
  if e = 2 ^ f.eb - 1 then
    if m = 0 then .inf neg else .nan (decide (m / 2 ^ (f.fb - 1) = 0))
  else if e = 0 then .fin neg m (1 - (f.bias : Int) - f.fb)
  else .fin neg (2 ^ f.fb + m) ((e : Int) - f.bias - f.fb)

/-- Sign bit of an encoding. -/
def sgn (f : Fmt) (neg : Bool) : Nat := if neg then f.signBit else 0

/-- The default quiet NaN, R216. -/
def quietNan (f : Fmt) : Nat := (2 ^ f.eb - 1) * 2 ^ f.fb + 2 ^ (f.fb - 1)

/-- An infinity, and the largest finite value. -/
def infOf (f : Fmt) (neg : Bool) : Nat := sgn f neg + (2 ^ f.eb - 1) * 2 ^ f.fb
def maxFin (f : Fmt) (neg : Bool) : Nat := sgn f neg + (2 ^ f.eb - 2) * 2 ^ f.fb + (2 ^ f.fb - 1)

/-- MODE.RND: does a value with quotient `m`, remainder `r` of `2^d` round away from zero? -/
def roundsUp (rnd : Nat) (neg : Bool) (m r d : Nat) : Bool :=
  match rnd with
  | 0 => decide (2 * r > 2 ^ d) || (decide (2 * r = 2 ^ d) && decide (m % 2 = 1))
  | 1 => false
  | 2 => !neg && decide (r ≠ 0)
  | _ => neg && decide (r ≠ 0)

/-- `man × 2^exp` as a multiple of `2^q`, rounded: the multiple, and whether it is inexact. -/
def quantize (rnd : Nat) (neg : Bool) (man : Nat) (exp q : Int) : Nat × Bool :=
  if q ≤ exp then (man * 2 ^ (exp - q).toNat, false)
  else
    let d := (q - exp).toNat
    let m := man / 2 ^ d
    let r := man % 2 ^ d
    (if roundsUp rnd neg m r d then m + 1 else m, decide (r ≠ 0))

/-- Round an exact value to a format. -/
def roundFp (f : Fmt) (rnd : Nat) (neg : Bool) (man : Nat) (exp : Int) : Nat × FpFlags :=
  if man = 0 then (sgn f neg, noFlags)
  else
    let len : Int := Nat.log2 man + 1
    let p : Int := f.fb + 1
    let emin : Int := 1 - (f.bias : Int)
    let q := max (exp + len - p) (emin - f.fb)
    let (m0, inexact) := quantize rnd neg man exp q
    let (m, q) := if m0 = 2 ^ (f.fb + 1) then (2 ^ f.fb, q + 1) else (m0, q)
    let tinyB := decide (exp + len - 1 < emin)
    let (mu, _) := quantize rnd neg man exp (exp + len - p)
    let tinyA := tinyB && !(decide (exp + len = emin) && decide (mu = 2 ^ (f.fb + 1)))
    let tiny := if Config.tinyBefore then tinyB else tinyA
    if m ≥ 2 ^ f.fb ∧ q + f.fb > f.bias then
      let inf := match rnd with | 0 => true | 1 => false | 2 => !neg | _ => neg
      (if inf then infOf f neg else maxFin f neg, { noFlags with of_ := true, nx := true })
    else if m < 2 ^ f.fb then (sgn f neg + m, { noFlags with nx := inexact, uf := tiny && inexact })
    else
      (sgn f neg + (q + f.fb + f.bias).toNat * 2 ^ f.fb + (m - 2 ^ f.fb),
        { noFlags with nx := inexact, uf := tiny && inexact })

/-- A NaN result: NV when the operation is invalid or an operand signals. -/
def nanResult (f : Fmt) (nv : Bool) : Nat × FpFlags := (quietNan f, { noFlags with nv })

/-- Is a value a NaN; a signalling one? -/
def Fp.isNan : Fp → Bool | .nan _ => true | _ => false
def Fp.isSig : Fp → Bool | .nan s => s | _ => false

/-- Change a value's sign. -/
def Fp.negate : Fp → Fp
  | .nan s => .nan s | .inf n => .inf (!n) | .fin n m e => .fin (!n) m e

/-- The exact sum of two finite values: sign of a zero sum, and the sum. -/
def addFin (rnd : Nat) (n1 : Bool) (m1 : Nat) (e1 : Int) (n2 : Bool) (m2 : Nat) (e2 : Int) : Bool × Nat × Int :=
  let e := min e1 e2
  let a : Int := (if n1 then -1 else 1) * (m1 * 2 ^ (e1 - e).toNat : Nat)
  let b : Int := (if n2 then -1 else 1) * (m2 * 2 ^ (e2 - e).toNat : Nat)
  let t := a + b
  if t = 0 then (if n1 = n2 then n1 else decide (rnd = 3), 0, e) else (decide (t < 0), t.natAbs, e)

/-- Addition. -/
def fpAdd (f : Fmt) (rnd : Nat) (a b : Fp) : Nat × FpFlags :=
  if a.isNan || b.isNan then nanResult f (a.isSig || b.isSig)
  else match a, b with
    | .inf x, .inf y => if x = y then (infOf f x, noFlags) else nanResult f true
    | .inf x, _ | _, .inf x => (infOf f x, noFlags)
    | .fin n1 m1 e1, .fin n2 m2 e2 =>
      let (n, m, e) := addFin rnd n1 m1 e1 n2 m2 e2
      roundFp f rnd n m e
    | _, _ => nanResult f false

/-- Multiplication, then addition, rounded once. `c` absent: a product alone. -/
def fpMulAdd (f : Fmt) (rnd : Nat) (a b : Fp) (c : Option Fp) : Nat × FpFlags :=
  let cn := (c.map Fp.isNan).getD false
  let cs := (c.map Fp.isSig).getD false
  let badMul := match a, b with
    | .inf _, .fin _ m _ | .fin _ m _, .inf _ => decide (m = 0)
    | _, _ => false
  if a.isNan || b.isNan || cn || badMul then nanResult f (a.isSig || b.isSig || cs || badMul)
  else
    let prod : Fp := match a, b with
      | .inf x, .inf y => .inf (x != y)
      | .inf x, .fin y _ _ | .fin x _ _, .inf y => .inf (x != y)
      | .fin x m e, .fin y m' e' => .fin (x != y) (m * m') (e + e')
      | _, _ => .nan false
    match c, prod with
    | some c, p => fpAdd f rnd p c
    | none, .inf n => (infOf f n, noFlags)
    | none, .fin n m e => roundFp f rnd n m e
    | none, .nan _ => nanResult f false

/-- Division. A finite quotient carries a last bit that says whether it is inexact. -/
def fpDiv (f : Fmt) (rnd : Nat) (a b : Fp) : Nat × FpFlags :=
  if a.isNan || b.isNan then nanResult f (a.isSig || b.isSig)
  else match a, b with
    | .inf _, .inf _ => nanResult f true
    | .inf x, .fin y _ _ => (infOf f (x != y), noFlags)
    | .fin x _ _, .inf y => (sgn f (x != y), noFlags)
    | .fin x m e, .fin y m' e' =>
      if m' = 0 then
        if m = 0 then nanResult f true else (infOf f (x != y), { noFlags with dz := true })
      else
        let k : Nat := 130
        let q := m * 2 ^ k / m'
        let r := m * 2 ^ k % m'
        roundFp f rnd (x != y) (2 * q + (if r = 0 then 0 else 1)) (e - e' - (k : Int) - 1)
    | _, _ => nanResult f false

/-- Integer square root, bit by bit from bit `n` down. -/
def isqrt : Nat → Nat → Nat → Nat
  | 0, _, acc => acc
  | n + 1, x, acc =>
    let t := acc + 2 ^ n
    isqrt n x (if t * t ≤ x then t else acc)

/-- Square root. -/
def fpSqrt (f : Fmt) (rnd : Nat) (a : Fp) : Nat × FpFlags :=
  match a with
  | .nan s => nanResult f s
  | .inf n => if n then nanResult f true else (infOf f false, noFlags)
  | .fin n m e =>
    if m = 0 then (sgn f n, noFlags)
    else if n then nanResult f true
    else
      let (m, e) := if e % 2 = 0 then (m, e) else (2 * m, e - 1)
      let x := m * 2 ^ 120
      let r := isqrt 90 x 0
      roundFp f rnd false (2 * r + (if r * r = x then 0 else 1)) (e / 2 - 60 - 1)

/-- Is `a` less than `b` (neither a NaN)? `zeros`: −0 counts as less than +0. -/
def fpLess (zeros : Bool) (a b : Fp) : Bool :=
  match a, b with
  | .inf x, .inf y => x && !y
  | .inf x, _ => x
  | _, .inf y => !y
  | .fin n1 m1 e1, .fin n2 m2 e2 =>
    let e := min e1 e2
    let x : Int := (if n1 then -1 else 1) * (m1 * 2 ^ (e1 - e).toNat : Nat)
    let y : Int := (if n2 then -1 else 1) * (m2 * 2 ^ (e2 - e).toNat : Nat)
    if x = 0 ∧ y = 0 then zeros && n1 && !n2 else decide (x < y)
  | _, _ => false

/-- Are two values equal (NaN is equal to nothing; −0 equals +0)? -/
def fpEq (a b : Fp) : Bool := !a.isNan && !b.isNan && !fpLess false a b && !fpLess false b a

/-- FMIN and FMAX: the other operand when one is a NaN. -/
def fpMinMax (f : Fmt) (max_ : Bool) (x y : Nat) : Nat × FpFlags :=
  let a := unpack f x
  let b := unpack f y
  let fl := { noFlags with nv := a.isSig || b.isSig }
  if a.isNan && b.isNan then (quietNan f, fl)
  else if a.isNan then (y, fl)
  else if b.isNan then (x, fl)
  else if max_ then (if fpLess true a b then y else x, fl)
  else (if fpLess true b a then y else x, fl)

/-- FCVT.I: to a signed 64-bit integer, saturated; 0 for a NaN (R342). -/
def fpToInt (rnd : Nat) (a : Fp) : Int × FpFlags :=
  match a with
  | .nan _ => (0, { noFlags with nv := true })
  | .inf n => (if n then -(2 ^ 63) else 2 ^ 63 - 1, { noFlags with nv := true })
  | .fin n m e =>
    let (v, inexact) := quantize rnd n m e 0
    let t : Int := if n then -(v : Int) else v
    if t < -(2 ^ 63) then (-(2 ^ 63), { noFlags with nv := true })
    else if t > 2 ^ 63 - 1 then (2 ^ 63 - 1, { noFlags with nv := true })
    else (t, { noFlags with nx := inexact })

/-- FCVT.F: from a signed 64-bit integer. -/
def fpOfInt (f : Fmt) (rnd : Nat) (x : Int) : Nat × FpFlags := roundFp f rnd (decide (x < 0)) x.natAbs 0

/-- FCVT.X: from one format to another. -/
def fpConvert (f : Fmt) (rnd : Nat) (a : Fp) : Nat × FpFlags :=
  match a with
  | .nan s => nanResult f s
  | .inf n => (infOf f n, noFlags)
  | .fin n m e => roundFp f rnd n m e

end Sys2Proof.Machine
end

