-- ==== Sys2Proof/Machine/Tick.lean ====
section
/-! DEFINITION. The tick unit: contributors, staging, reads, commit and publish, bells (R206-R244, R584).
Assumption 57. -/
namespace Sys2Proof.Machine

/-! ## The period and contributors, R230, R239 -/

/-- TICK_CTL.PERIOD in ns. -/
def tickPeriod (s : State) : Nat := s.rf Reg.tickCtl 47 24 * 10

/-- R239: the contributor number of an access: a host's own request uses the host's number; an engine's the number that its job
names, in the range granted to its host, and none where the job names none. -/
def contribOf (s : State) (a : LAcc) : Option Nat :=
  match a.contrib with
  | some c => (match tget s.tick.contribs c with
    | some k => if k.engine && k.host == a.host then some c else none
    | none => none)
  | none => if a.cached then (s.tick.contribs.find? (fun e => !e.2.engine && e.2.host == a.host)).map (·.1) else none

/-- TICK_ID of a window. -/
def tickIdOf (s : State) (win : Nat) : Nat := ((tget s.tabs.windows win).map (·.tickId)).getD 0

/-- Records that a contributor has in the open tick. -/
def stagedBy (s : State) (c : Nat) : Nat := (s.tick.open_.filter (fun r => r.contrib == c)).length

/-! ## Reductions, R215-R217, R221 -/

/-- Element size of an operation code. -/
def elemSize (op : Nat) : Nat :=
  match op with
  | 6 | 7 | 8 => 1
  | 9 => 4
  | 11 => 2
  | _ => 8

/-- R217: the mask covers whole elements. -/
def maskWhole (op : Nat) (m : BitVec 64) : Bool :=
  let n := elemSize op
  (List.range (64 / n)).all (fun e =>
    let bits := (List.range n).map (fun i => m.getLsbD (e * n + i))
    bits.all id || bits.all (!·))

/-- A two's complement number of 64 bits. -/
def toInt64 (x : Nat) : Int := if x % 2 ^ 64 < 2 ^ 63 then (x % 2 ^ 64 : Nat) else ((x % 2 ^ 64 : Nat) : Int) - 2 ^ 64

/-- The 64-bit two's complement of a number. -/
def ofInt64 (x : Int) : Nat := (x % 2 ^ 64).toNat

/-- An addition of R216, and whether it gave the default NaN. -/
def addR216 (f : Fmt) (v x : Nat) : Nat × Bool :=
  let r := (fpAdd f 0 (unpack f v) (unpack f x)).1
  (r, decide (r = quietNan f))

/-- R215: combine value `v` with operand `x`; the flag: a default NaN was made. -/
def combine (op v x : Nat) : Nat × Bool :=
  match op with
  | 0 =>
    let t := toInt64 v + toInt64 x
    (ofInt64 (if t > 2 ^ 63 - 1 then 2 ^ 63 - 1 else if t < -(2 ^ 63) then -(2 ^ 63) else t), false)
  | 1 => ((v + x) % 2 ^ 64, false)
  | 2 => (if toInt64 x < toInt64 v then x else v, false)
  | 3 => (if toInt64 x > toInt64 v then x else v, false)
  | 4 => (min v x, false)
  | 5 => (max v x, false)
  | 6 => (v &&& x, false)
  | 7 => (v ||| x, false)
  | 8 => (v ^^^ x, false)
  | 9 => addR216 fmt32 v x
  | 10 => addR216 fmt64 v x
  | _ => addR216 fmtBf v x

/-! ## Staging, R219-R221 -/

/-- Set the mask bits of an element. -/
def maskElem (m : BitVec 64) (off n : Nat) : BitVec 64 := m ||| BitVec.ofNat 64 ((2 ^ n - 1) * 2 ^ off)

/-- R221 for one element at byte `off`: the record, and whether the operand was a duplicate and gave a default NaN. -/
def stageElem (op off : Nat) (d : Line) (r : Rec) : Rec × Bool × Bool :=
  let n := elemSize op
  let x := lineNat d off n
  if !r.mask.getLsbD off then
    ({ r with mask := maskElem r.mask off n, data := linePut r.data off n x, last := linePut r.last off n x }, false, false)
  else if lineNat r.last off n = x then ({ r with dups := satAdd 16 r.dups 1 }, true, false)
  else
    let (v, nan) := combine op (lineNat r.data off n) x
    ({ r with data := linePut r.data off n v, last := linePut r.last off n x }, false, nan)

/-- A write merges into its record: plain bytes overwrite (R220), a reduction goes element by element (R221). The
result: the record, the duplicates, and whether a default NaN was made. -/
def mergeRec (mask : BitVec 64) (d : Line) (poison : Bool) (r : Rec) : Rec × Nat × Bool :=
  match r.op with
  | none => ({ r with mask := r.mask ||| mask, data := lineMerge r.data d mask, poison := r.poison || poison }, 0, false)
  | some op =>
    let n := elemSize op
    (List.range (64 / n)).foldl (fun (acc : Rec × Nat × Bool) e =>
      if mask.getLsbD (e * n) then
        let (r, dup, nan) := stageElem op (e * n) d acc.1
        (r, acc.2.1 + b2n dup, acc.2.2 || nan)
      else acc) ({ r with poison := r.poison || poison }, 0, false)

/-- A record with nothing staged. -/
def newRec (contrib line tickId : Nat) (op : Option Nat) : Rec :=
  { contrib, line, op, mask := 0#64, data := 0#512, last := 0#512, dups := 0, tickId, poison := false }

/-- Is this the record of a contributor, line and kind? -/
def Rec.is (contrib line : Nat) (op : Option Nat) (r : Rec) : Bool := r.contrib == contrib && r.line == line && r.op == op

/-- A write is staged in a bank: the bank, whether a record was created, the duplicates, and a default NaN (R219). -/
def stageIn (bank : List Rec) (contrib line tickId : Nat) (op : Option Nat) (mask : BitVec 64) (d : Line) (poison : Bool) :
    List Rec × Bool × Nat × Bool :=
  match bank.find? (Rec.is contrib line op) with
  | some r =>
    let (r', n, nan) := mergeRec mask d poison r
    (bank.map (fun x => if Rec.is contrib line op x then r' else x), false, n, nan)
  | none =>
    let (r', n, nan) := mergeRec mask d poison (newRec contrib line tickId op)
    (bank ++ [r'], true, n, nan)

/-- The flags and counts of a staged write. -/
def countStage (contrib : Nat) (made : Bool) (dups : Nat) (nan : Bool) (s : State) : State :=
  let host := ((tget s.tick.contribs contrib).map (·.host)).getD 0
  let s := if made then (s.count 0x1060 48 1).count (cntHost host 0x60) 48 1 else s.count 0x1068 48 1
  let s := if dups > 0 then (s.count 0x1080 48 dups).setEvent Reg.tickEvents 9 else s
  if nan then s.setEvent Reg.tickEvents 8 else s

/-- Stage a write in the open tick. -/
def stageOpen (contrib line tickId : Nat) (op : Option Nat) (mask : BitVec 64) (d : Line) (poison : Bool) (s : State) : State :=
  let (bank, made, dups, nan) := stageIn s.tick.open_ contrib line tickId op mask d poison
  countStage contrib made dups nan
    { s with
      tick.open_ := bank,
      tick.openDups := tput 0 s.tick.openDups contrib (satAdd 16 (tgetD s.tick.openDups contrib 0) dups),
      tick.openAcct := { s.tick.openAcct with dups := s.tick.openAcct.dups + dups,
                                              fpNan := s.tick.openAcct.fpNan || nan } }

/-- Stage a write in the closed tick, at a mirror that has already switched its bank (R242). -/
def stageClosed (contrib line tickId : Nat) (op : Option Nat) (mask : BitVec 64) (d : Line) (poison : Bool) (s : State) :
    State :=
  let (bank, made, dups, nan) := stageIn s.tick.closed contrib line tickId op mask d poison
  countStage contrib made dups nan
    { s with
      tick.closed := bank,
      tick.closedAcct := { s.tick.closedAcct with dups := s.tick.closedAcct.dups + dups,
                                                  fpNan := s.tick.closedAcct.fpNan || nan } }

/-! ## Check 7, R214 -/

/-- The bytes, mask and poison of a write. -/
def writeOf : LineOp → Option (Line × BitVec 64 × Bool)
  | .write d m full p _ => some (d, if full then fullMask else m, p)
  | .read _ | .specRd | .inv | .clnEvct | .atom .. => none

/-- What check 7 finds: a violation type, or the contributor. -/
def check7 (s : State) (a : LAcc) : Except Nat Nat :=
  match writeOf a.op with
  | none => .error 1
  | some (_, m, _) =>
    if (a.slice.map (fun k => decide (12 ≤ k))).getD false then .error 1
    else if (a.slice.map (fun k => !maskWhole k m)).getD false then .error 4
    else match contribOf s a with
      | none => .error 1
      | some c =>
        let budget := ((tget s.tick.contribs c).map (·.budget)).getD 0
        if s.tick.open_.any (Rec.is c a.pool a.slice) || decide (stagedBy s c < budget) then .ok c else .error 3

/-- The violation log entry of an access at a target. -/
def accViolation (typ contrib : Nat) (a : LAcc) (s : State) : State :=
  match a.who with
  | .trk k =>
    (match s.trk? k with
    | some t => trkViolation typ (some a.win) contrib t s
    | none => s)
  | w =>
    let e := match w with | .eng e _ => e | _ => 0
    s.violation
      { dtb := 0, typ, addrKind := 1, addr := a.addr % 2 ^ 52, reqKind := match w with | .eng _ _ => 4 | _ => 1,
        host := a.host, port := 0, engine := e, reqId := 0, contrib, vseq := 0,
        op := match a.op with
          | .write .. => if a.slice.isSome then 2 else 1
          | .atom .. => 3
          | _ => 0,
        object := a.win }

/-- A write that fails a check stages nothing (R214). -/
def failCheck7 (typ : Nat) (a : LAcc) (s : State) : State :=
  let c := if typ = 3 ∨ typ = 4 then (contribOf s a).getD 0 else 0
  let s := (accViolation typ c a s).count 0x1088 48 1
  let s := { s with
    tick.openAcct := { s.tick.openAcct with
      violations := s.tick.openAcct.violations + 1,
      overrun := if typ = 3 && !s.tick.openAcct.overrun.contains c then s.tick.openAcct.overrun ++ [c]
                 else s.tick.openAcct.overrun } }
  let s := if typ = 4 then s.setEvent Reg.tickEvents 1 else if typ = 3 then s.setEvent Reg.tickEvents 0 else s
  answerAcc a (planeOf a.pool) (errAnswer .violation) s

/-- Take access `k` of the tick unit's inbox. -/
def takeInbox (k : Nat) (s : State) : State := { s with tick.inbox := dropAt s.tick.inbox k }

/-- Is the access a write or an AtomicOp (the others are reads)? -/
def isStageOp (a : LAcc) : Bool := match a.op with | .write .. | .atom .. => true | _ => false

/-- TICK_WRITE_STAGE: check 7, the record, the mirror's copy (R242), the acknowledgement (R211). A
write that has ended in an error already stages nothing (R136, R137). -/
def tickStage (k : Nat) (s : State) : State :=
  match s.tick.inbox[k]? with
  | none => s
  | some a =>
    if !isStageOp a || accWaits s a then s
    else
      let s := noteClaim a (takeInbox k s)
      if endedInError s a.who then answerAcc a (planeOf a.pool) okAnswer s
      else match check7 s a, writeOf a.op with
      | .error typ, _ => failCheck7 typ a s
      | .ok c, some (d, m, p) =>
        let id := tickIdOf s a.win
        let s := stageOpen c a.pool id a.slice m d p s
        if a.mirror && mirrorOn s then
          let r : Rec := { newRec c a.pool id a.slice with mask := m, data := d, poison := p }
          let w : MirWait :=
            { id := s.home.mirTag, line := a.pool, set := setOf s a.win, acc := a, plane := planeOf a.pool,
              ans := okAnswer, entry := false }
          let s' := { s with home.mirTag := s.home.mirTag + 1, home.mirWaits := s.home.mirWaits ++ [w] }
          s'.emit (.twinStage w.id r s.tick.num)
        else
          let s := if a.mirror then peerStale (setOf s a.win) s else s
          answerAcc a (planeOf a.pool) okAnswer s
      | .ok _, none => s

/-- R219: TICK_WRITE_STAGE. -/
def execTickWriteStage (k : Nat) (s : State) : Host.Outcome State Fault Refusal := .next (whenCarries (tickStage k) s)

/-- The mirror applies the home's staged write to its own record and acknowledges (R242). -/
def stageEarly (e : Early) (s : State) : State :=
  (stageOpen e.contrib e.line e.tickId e.op e.mask e.data e.poison s).emit (.twinAck e.id)

/-- MIRROR_STAGE_RECEIVED: the write is staged in its own tick: the open one, the closed one while its commit has not ended, or, where
this member's boundary is still to come, at that boundary (R242, R448). The home publishes no tick before the mirror has staged its
writes, so that none of an older tick can come. -/
def mirrorStage (id tick contrib line tickId : Nat) (op : Option Nat) (mask : BitVec 64) (d : Line) (poison : Bool)
    (s : State) : State :=
  if !mirrorOn s then s
  else if tick = s.tick.num then stageEarly { id, tick, contrib, line, tickId, op, mask, data := d, poison } s
  else if s.tick.committing && tick + 1 = s.tick.num then
    (stageClosed contrib line tickId op mask d poison s).emit (.twinAck id)
  else if tick = s.tick.num + 1 then
    { s with tick.early := s.tick.early ++ [{ id, tick, contrib, line, tickId, op, mask, data := d, poison }] }
  else s

/-- R242: MIRROR_STAGE_RECEIVED. -/
def execMirrorStageReceived (id tick contrib line tickId : Nat) (op : Option Nat) (mask : BitVec 64) (d : Line)
    (poison : Bool) (s : State) : Host.Outcome State Fault Refusal :=
  .next (whenCarries (mirrorStage id tick contrib line tickId op mask d poison) s)

/-! ## Lines and reads, R212, R218, R222, R223 -/

/-- TAG_0 and TAG_1 of a line: as R223 set them unless a commit has written them. -/
def tagsOf (s : State) (line : Nat) : Nat × Nat :=
  match tget s.tick.tags line with
  | some t => t
  | none =>
    let b := tgetD s.tick.baseTag (line / 2 ^ 22) 0
    (b % 2 ^ 32, (b + (2 ^ 32 - 1)) % 2 ^ 32)

/-- R222: the slot (0 or 1) that a read at published tick `p` returns. -/
def slotAt (p : Nat) (t : Nat × Nat) : Nat :=
  let age := fun (x : Nat) => (p % 2 ^ 32 + 2 ^ 32 - x) % 2 ^ 32
  let a0 := age t.1
  let a1 := age t.2
  if a0 = 2 ^ 32 - 1 then (if a1 = 2 ^ 32 - 1 then 0 else 1)
  else if a1 = 2 ^ 32 - 1 then 0
  else if a1 < a0 then 1 else 0

/-- The line of a slot and its poison bit. -/
def slotLine (s : State) (line slot : Nat) : Line × Bool :=
  if slot = 0 then (readHbm s (poolHline s line), isPoisoned s (poolHline s line))
  else (tgetD s.tick.slot1 line 0#512, s.tick.slot1Poison.contains line)

/-- Write a slot of a line. -/
def putSlot (line slot : Nat) (v : Line) (poison : Bool) (s : State) : State :=
  if slot = 0 then writeLine (poolHline s line) v fullMask true poison s
  else
    { s with
      tick.slot1 := tput 0#512 s.tick.slot1 line v,
      tick.slot1Poison := (s.tick.slot1Poison.filter (· != line)) ++ (if poison then [line] else []) }

/-- Mark a slot poisoned. -/
def poisonSlot (line slot : Nat) (s : State) : State := putSlot line slot (slotLine s line slot).1 true s

/-- Set a line word. -/
def putTags (line : Nat) (t : Nat × Nat) (s : State) : State := { s with tick.tags := tset s.tick.tags line t }

/-- The line word after its own read failed: slot 0 holds tick `t` (R227, R584). -/
def wordLost (line t : Nat) (s : State) : State :=
  poisonSlot line 0 (putTags line (t % 2 ^ 32, (t + (2 ^ 32 - 1)) % 2 ^ 32) s)

/-- The information bytes of the tick's records. -/
def tickInfo (t : Nat) (tickId : Option Nat) : Nat := t % 2 ^ 32 + tickId.getD 0xFF * 2 ^ 32

/-- R584: what a read does on an uncorrectable error in slot 1 or the line word. -/
def readPoisoned (line tickId : Nat) (e : TickErr) (s : State) : State :=
  let s := match e with
    | .slot1 => poisonSlot line 1 s
    | _ => wordLost line s.tick.published s
  (s.setEvent Reg.homeEvents 7).raise 0x44 .deferred .tick 0 (tickInfo s.tick.published (some tickId))

/-- The last tick's report, for the clock face. -/
def lastReport (s : State) : Option Report := (s.tick.reports.find? (fun e => e.2.tick == s.tick.published)).map (·.2)

/-- R218: the clock face. -/
def clockFace (s : State) (a : LAcc) : Line :=
  let c := contribOf s a
  let rep := lastReport s
  let inList := fun (f : TickAcct → List Nat) => match c, rep with
    | some c, some r => (f r.acct).contains c
    | _, _ => false
  let b36 := match c with
    | some _ => b2n (inList TickAcct.absent) + 2 * b2n (inList TickAcct.overrun) + 4 * b2n s.tick.committing
    | none => 0
  let v := s.tick.published % 2 ^ 64 + s.tick.num % 2 ^ 64 * 2 ^ 64 + s.tick.nextNominal % 2 ^ 64 * 2 ^ 128
    + s.now % 2 ^ 64 * 2 ^ 192
    + (match c with
      | some c => min 65535 (stagedBy s c) * 2 ^ 256 + ((tget s.tick.contribs c).map (·.budget)).getD 0 * 2 ^ 272
      | none => 0)
    + b36 * 2 ^ 288
  BitVec.ofNat 512 v

/-- TICK_READ: the line as of TICK_PUBLISHED, or the clock face (R212, R218); `e`: an uncorrectable error it finds. -/
def tickRead (k : Nat) (e : TickErr) (s : State) : State :=
  match s.tick.inbox[k]? with
  | none => s
  | some a =>
    if isStageOp a || accWaits s a then s
    else
      let s := noteClaim a (takeInbox k s)
      let plane := planeOf a.pool
      match a.op with
      | .specRd => s
      | .inv | .clnEvct => answerAcc a plane okAnswer s
      | _ =>
        if a.slice = some 15 then answerAcc a plane { okAnswer with data := clockFace s a } s
        else
          let id := tickIdOf s a.win
          let s := match e with
            | .none => s
            | .slot0 => uncorrectable (poolHline s a.pool) s
            | .slot1 | .word => readPoisoned a.pool id e s
          let (v, p) := slotLine s a.pool (slotAt s.tick.published (tagsOf s a.pool))
          answerAcc a plane { okAnswer with data := v, poison := p || decide (e ≠ .none) } s

/-- R212: TICK_READ. -/
def execTickRead (k : Nat) (e : TickErr) (s : State) : Host.Outcome State Fault Refusal :=
  .next (whenCarries (tickRead k e) s)

/-! ## Commit, R225-R227 -/

/-- Apply one record to a value (R225); the flag: a default NaN was made. -/
def applyRec (acc : Line × Bool) (r : Rec) : Line × Bool :=
  match r.op with
  | none => (lineMerge acc.1 r.data r.mask, acc.2)
  | some op =>
    let n := elemSize op
    (List.range (64 / n)).foldl (fun (x : Line × Bool) e =>
      if r.mask.getLsbD (e * n) then
        let (v, nan) := combine op (lineNat x.1 (e * n) n) (lineNat r.data (e * n) n)
        (linePut x.1 (e * n) n v, x.2 || nan)
      else x) acc

/-- R225: the place of a record among those of its line: contributor, then plain before reductions, then operation. -/
def recKey (r : Rec) : Nat := r.contrib * 32 + (match r.op with | none => 0 | some o => o + 1)

/-- Insert a record by its key. -/
def insertRec (r : Rec) : List Rec → List Rec
  | [] => [r]
  | x :: xs => if recKey r < recKey x then r :: x :: xs else x :: insertRec r xs

/-- The records of a line in canonical order. -/
def canonRecs (rs : List Rec) : List Rec := rs.foldr insertRec []

/-- R225: the value of a line after the records of contributors not absent, in canonical order. -/
def commitValue (v : Line) (absent : List Nat) (rs : List Rec) : Line × Bool :=
  (canonRecs (rs.filter (fun r => !absent.contains r.contrib))).foldl applyRec (v, false)

/-- Insert a number in ascending order, once. -/
def insertNat (n : Nat) : List Nat → List Nat
  | [] => [n]
  | x :: xs => if n < x then n :: x :: xs else if n = x then x :: xs else x :: insertNat n xs

/-- The window of a TICK_ID: those of one agree in size and in mirroring (R75). -/
def tickWinOf (t : Tables) (n : Nat) : Option Win := (t.windows.find? (fun e => e.2.tick && e.2.tickId == n)).map (·.2)

/-- Does the partner serve the windows of a TICK_ID, so that its absent mask holds for their lines (R243)? -/
def partnerTick (s : State) (n : Nat) : Bool :=
  mirrorOn s && ((tickWinOf s.tabs n).map (fun w => w.mirror && s.pair.holder.getD w.home 2 != s.pair.member)).getD false

/-- The absent mask that the commit of the closed tick uses for a line of a TICK_ID: the home's (R243). -/
def maskFor (s : State) (n : Nat) : List Nat :=
  if partnerTick s n then tgetD s.tick.maskIn (s.tick.published + 1) s.tick.closedAcct.absent else s.tick.closedAcct.absent

/-- Commit one line of tick `t` (R225, R227). -/
def commitLine (t : Nat) (errs : List (Nat × TickErr)) (s : State) (line : Nat) : State :=
  let rs := s.tick.closed.filter (fun r => r.line == line)
  let id := ((rs.head?).map (·.tickId)).getD 0
  let absent := maskFor s id
  let err := ((errs.find? (fun e => e.1 == line)).map (·.2)).getD .none
  let failed := fun (s : State) =>
    ({ s with tick.closedAcct := { s.tick.closedAcct with err := true } }.setEvent Reg.tickEvents 10).raise 0x40 .deferred
      .tick 0 (tickInfo t (some id))
  match err with
  | .word => failed (wordLost line t s)
  | _ =>
    let tags := tagsOf s line
    let old := slotAt s.tick.published tags
    let (v0, p0) := slotLine s line old
    let (v, nan) := commitValue v0 absent rs
    let live := rs.filter (fun r => !absent.contains r.contrib)
    let whole := live.any (fun r => r.op.isNone && r.mask == fullMask)
    let poison := (p0 && !whole) || live.any (·.poison) || decide (err ≠ .none)
    let tt := t % 2 ^ 32
    let s := putTags line (if old = 0 then (tags.1, tt) else (tt, tags.2)) (putSlot line (1 - old) v poison s)
    let s := if nan then
        { s with tick.closedAcct := { s.tick.closedAcct with fpNan := true } }.setEvent Reg.tickEvents 8
      else s
    if err = .none then s else failed s

/-- The lines of the closed tick, ascending. -/
def closedLines (s : State) : List Nat := s.tick.closed.foldl (fun a r => insertNat r.line a) []

/-- Is a tick-ordered window of a set in use that this member holds (`mine`) or mirrors? -/
def tickMirrored (s : State) (mine : Bool) : Bool :=
  mirrorOn s && s.tabs.windows.any (fun e => e.2.tick && e.2.mirror &&
    ((s.pair.holder.getD e.2.home 2 == s.pair.member) == mine))

/-- Has the partner's absent mask of the closed tick come, where a mirror needs it (R243)? -/
def maskHere (s : State) : Bool := !tickMirrored s false || (tget s.tick.maskIn (s.tick.published + 1)).isSome

/-- The mask that the report of the closed tick shows: the member's own, or, where it serves no tick-ordered window itself, the home's
(assumption 41). -/
def reportMask (s : State) : List Nat :=
  if s.tabs.windows.all (fun e => !e.2.tick || partnerTick s e.2.tickId) then
    tgetD s.tick.maskIn (s.tick.published + 1) s.tick.closedAcct.absent
  else s.tick.closedAcct.absent

/-- TICK_PUBLISH: the commit of the closed tick ends: every line, one increment of TICK_PUBLISHED, the report (R226). A home
waits for its mirror's commit, a mirror for its home's absent mask (R243). `errs`: lines whose record, slot or line word
read is uncorrectable (assumption 41). -/
def tickPublish (errs : List (Nat × TickErr)) (s : State) : State :=
  if !s.tick.committing || s.tick.mirrorOwed || !maskHere s then s
  else
    let t := s.tick.published + 1
    let shown := reportMask s
    let lines := closedLines s
    let s := lines.foldl (commitLine t errs) s
    let s := ((s.count 0x1070 48 1).count 0x1078 48 lines.length).countMax 0x1098 (s.now - s.tick.lastBoundary)
    let wins := s.tick.closed.foldl (fun w r => setBit w (r.tickId % 64)) 0#64
    let rep : Report :=
      { tick := t, boundary := s.tick.lastBoundary, publish := s.now, records := s.tick.closed.length,
        lines := lines.length, acct := { s.tick.closedAcct with absent := shown }, windows := wins }
    { s with
      tick.reports := tset s.tick.reports ((t - 1) % 16) rep,
      tick.published := t,
      tick.committing := false,
      tick.closed := [],
      tick.reported := false,
      tick.maskIn := s.tick.maskIn.filter (fun e => decide (t < e.1)) }

/-- The mirror tells the home that its commit of the tick is done (R243): with the publish, or before it where the member is a home too
and its own mirror's report has not come; no read can tell the committed values before the publish. -/
def tickCommitDone (errs : List (Nat × TickErr)) (s : State) : State :=
  if s.tick.committing && tickMirrored s false && maskHere s && s.tick.mirrorOwed then
    (if s.tick.reported then s else { s with tick.reported := true }.emit (.twinCommitted (s.tick.published + 1)))
  else
    let s' := tickPublish errs s
    if s'.tick.published ≠ s.tick.published && tickMirrored s false && !s.tick.reported then
      s'.emit (.twinCommitted s'.tick.published) else s'

/-- ABSENT_MASK_RECEIVED (R243): the mask of a tick that this member has still to publish; it may come before its own boundary. -/
def execAbsentMaskReceived (tick : Nat) (mask : List Nat) (s : State) : Host.Outcome State Fault Refusal :=
  .next (whenCarries (fun s =>
    if decide (s.tick.published < tick) && decide (tick ≤ s.tick.num) then { s with tick.maskIn := tset s.tick.maskIn tick mask }
    else s) s)

/-- MIRROR_COMMIT_COMPLETE (R243): the home may publish. -/
def execMirrorCommitComplete (tick : Nat) (s : State) : Host.Outcome State Fault Refusal :=
  .next (whenCarries (fun s =>
    if s.tick.committing && tick == s.tick.published + 1 then { s with tick.mirrorOwed := false } else s) s)

/-- TAG_RETAG_WALK: once in every 2^30 ticks, outside a commit, every line word is retagged at TICK_PUBLISHED (R224). -/
def retagWalk (s : State) : State :=
  let p := s.tick.published
  if s.tick.committing || decide (p / 2 ^ 30 < s.tick.walkAt) then s
  else
    let p0 := p % 2 ^ 32
    let p1 := (p + (2 ^ 32 - 1)) % 2 ^ 32
    { s with
      tick.tags := tmap (fun _ t => if slotAt p t = 0 then (p0, p1) else (p1, p0)) s.tick.tags,
      tick.baseTag := tmap (fun _ _ => p) s.tick.baseTag,
      tick.walkAt := p / 2 ^ 30 + 1 }

/-- R224: TAG_RETAG_WALK. -/
def execTagRetagWalk (s : State) : Host.Outcome State Fault Refusal := .next (whenCarries retagWalk s)

/-! ## Bells, R234-R238 -/

/-- Does the device follow bells (R235), and does it wait for one (R236)? -/
def bellFollows (s : State) : Bool := fld s.tick.bellCtl 1 0 == 1

/-- R448: member 1 of a pair that is syncing or formed takes its boundaries from member 0. -/
def followsPartner (s : State) : Bool := mirrorOn s && s.pair.member == 1

/-- Ignore a valid edge (R237). -/
def bellIgnore (s : State) : State :=
  (s.wf Reg.bellStatus 63 48 (satAdd 16 (s.rf Reg.bellStatus 63 48) 1)).setEvent Reg.tickEvents 3

/-- BELL_IN_EDGE: a rising edge after `low` ns of low level and before `high` ns of high level. A valid one is latched in
D0 (R406) and accepted or ignored. -/
def bellEdge (low high : Nat) (s : State) : State :=
  if !s.pwr.auxGood || low < 30 || high < 30 then s
  else
    let s := s.wb Reg.pendEdges 16 true
    if !s.tick.running || !s.mode.carries then s
    else
      let inWin := decide (8 * s.tick.nextNominal ≤ 8 * s.now + tickPeriod s)
        && decide (8 * s.now ≤ 8 * s.tick.nextNominal + tickPeriod s)
      if bellFollows s && !followsPartner s && inWin && s.tick.edge.isNone && decide (s.tick.defer = .none) then
        { s with
          tick.edge := some s.now,
          tick.missRun := 0,
          tick.noWait := false,
          tick.lastOffset := ((s.now : Int) - s.tick.nextNominal) / 10 }
      else bellIgnore s

/-- R234: BELL_IN_EDGE. -/
def execBellInEdge (low high : Nat) (s : State) : Host.Outcome State Fault Refusal := .next (bellEdge low high s)

/-- BELL_OUT_FALL: BELL_OUT falls 200 ns after it rose (R238). -/
def execBellOutFall (s : State) : Host.Outcome State Fault Refusal :=
  .next (match s.tick.bellOutUntil with
    | some t => { s.reach t with tick.bellOutUntil := none }
    | none => s)

/-! ## The tick unit's part of a boundary, R206-R208, R229, R235, R236, R241 -/

/-- When the next boundary is due, and whether that is the end of a bell wait without an edge. -/
def boundaryDue (s : State) : Nat × Bool :=
  match s.tick.edge with
  | some e => (e + 30, false)
  | none =>
    if bellFollows s && !s.tick.noWait then (s.tick.nextNominal + tickPeriod s / 8, true) else (s.tick.nextNominal, false)

/-- The end of a wait without an edge (R235, R236). -/
def bellMissed (s : State) : State :=
  let s := (s.wf Reg.bellStatus 47 32 (satAdd 16 (s.rf Reg.bellStatus 47 32) 1)).setEvent Reg.tickEvents 4
  let run := min 255 (s.tick.missRun + 1)
  let s := { s with tick.missRun := run, tick.openAcct := { s.tick.openAcct with bellMiss := true } }
  if run ≥ fld s.tick.bellCtl 15 8 && !s.tick.noWait then
    ({ s with tick.noWait := true }.setEvent Reg.tickEvents 5).raise 0x42 .corrected .tick 0 (tickInfo s.tick.num none)
  else s

/-- The bank switch: the open tick closes with its absent mask (R241), the next opens, and the commit starts. -/
def closeTick (s : State) : State :=
  let s := noteAbsences s
  let s := if s.tick.edge.isSome then { s with tick.openAcct := { s.tick.openAcct with bell := true } } else s
  let absent := s.tick.openAcct.absent.foldl (fun l c => insertNat c l) []
  let t := s.tick.num
  let early := s.tick.early
  let s := if absent.isEmpty then s
    else ((s.setEvent Reg.tickEvents 2).count 0x1090 48 absent.length).raise 0x43 .corrected .tick 0 (tickInfo t none)
  let s := if tickMirrored s true then s.emit (.twinMask t absent) else s
  let s := { s with
    tick.closed := s.tick.open_,
    tick.closedAcct := { s.tick.openAcct with absent },
    tick.open_ := [],
    tick.openAcct := newAcct,
    tick.openDups := [],
    tick.committing := true,
    tick.mirrorOwed := tickMirrored s true,
    tick.num := t + 1,
    tick.lastBoundary := s.now,
    tick.nextNominal := s.now + tickPeriod s,
    tick.edge := none,
    tick.defer := .none,
    tick.bellOutUntil := some (s.now + 200),
    tick.bellCtl := s.rd Reg.bellCtl,
    tick.early := [] }
  early.foldl (fun s e => stageEarly e s) (noteAbsences s)

/-- A boundary that comes due before the previous publish is deferred (R229). -/
def deferCommit (s : State) : State :=
  if s.tick.defer = .commit then s
  else
    { s with
      tick.defer := .commit,
      tick.openAcct := { s.tick.openAcct with late := true } }.setEvent Reg.tickEvents 6
      |>.raise 0x41 .corrected .tick 0 (tickInfo s.tick.num none)

/-! ## Registers -/

/-- TICK_STATUS. -/
def readTickStatus (s : State) : Word :=
  let waiting := s.tick.running && bellFollows s && !s.tick.noWait && s.tick.edge.isNone && decide (s.now ≥ s.tick.nextNominal)
  mkFld 35 32 (s.tick.published % 16) ||| mkFld 2 2 (b2n waiting) ||| mkFld 1 1 (b2n (decide (s.tick.defer ≠ .none)))
    ||| mkFld 0 0 (b2n s.tick.committing)

/-- BELL_STATUS. -/
def readBellStatus (s : State) : Word :=
  (s.rd Reg.bellStatus &&& fldMask 63 32) ||| mkFld 31 24 s.tick.missRun
    ||| mkFld 23 0 (s.tick.lastOffset % 2 ^ 24).toNat

/-- CONTRIB_nnnn. -/
def readContrib (s : State) (c : Nat) : Word :=
  match tget s.tick.contribs c with
  | none => 0#64
  | some k =>
    mkFld 63 63 1 ||| mkFld 62 62 (b2n k.engine) ||| mkFld 55 50 k.host ||| mkFld 47 32 k.budget
      ||| mkFld 31 16 (min 65535 (stagedBy s c)) ||| mkFld 15 0 (tgetD s.tick.openDups c 0)

/-- A bit map of contributors, word `j`. -/
def contribMap (cs : List Nat) (j : Nat) : Word :=
  cs.foldl (fun w c => if c / 64 = j then setBit w (c % 64) else w) 0#64

/-- Word `j` of tick report `k`. -/
def readReport (s : State) (k j : Nat) : Word :=
  match tget s.tick.reports k with
  | none => 0#64
  | some r =>
    if j = 0 then BitVec.ofNat 64 r.tick
    else if j = 1 then BitVec.ofNat 64 r.boundary
    else if j = 2 then BitVec.ofNat 64 r.publish
    else if j = 3 then mkFld 63 32 r.records ||| mkFld 31 0 r.lines
    else if j = 4 then mkFld 63 32 (min (2 ^ 32 - 1) r.acct.dups) ||| mkFld 31 0 (min (2 ^ 32 - 1) r.acct.violations)
    else if j = 5 then
      mkFld 47 32 r.acct.absent.length ||| mkFld 31 16 r.acct.overrun.length ||| mkFld 7 7 (b2n r.acct.bell)
        ||| mkFld 6 6 (b2n r.acct.bellMiss) ||| mkFld 5 5 (b2n r.acct.late) ||| mkFld 4 4 (b2n r.acct.takeover)
        ||| mkFld 3 3 (b2n r.acct.fpNan) ||| mkFld 2 2 (b2n r.acct.err)
    else if j = 6 then r.windows
    else if 64 ≤ j ∧ j < 128 then contribMap r.acct.absent (j - 64)
    else if 128 ≤ j ∧ j < 192 then contribMap r.acct.overrun (j - 128)
    else 0#64

/-! ## The tally, R230, R232 -/

/-- The sum of all budgets. -/
def budgetSum (s : State) : Nat := (s.tick.contribs.map (fun e => e.2.budget)).sum

/-- The tally base of a TICK_ID in MiB: slot 1 and line words of the lower ones, 288 MiB an extent. -/
def tallyBase (t : Tables) (n : Nat) : Nat := ((List.range n).map (fun k => ((tickWinOf t k).map (·.extCount)).getD 0 * 288)).sum

/-- The smallest power of two not below a number (fuel 40). -/
def pow2Up : Nat → Nat → Nat → Nat
  | 0, p, _ => p
  | n + 1, p, x => if x ≤ p then p else pow2Up n (2 * p) x

/-- R232: bytes of the tally in use, with a sum of budgets; with no contributor there is no bank (DESIGN CHOICE: assumption 78). -/
def tallyBytes (t : Tables) (budgets : Nat) : Nat :=
  tallyBase t 64 * 2 ^ 20 + if budgets = 0 then 0 else 2 * (budgets * 192 + 4 * pow2Up 40 1 (2 * budgets))

/-- TALLY_STATUS. -/
def readTallyStatus (s : State) : Word :=
  let used := tallyBytes s.tabs (budgetSum s)
  mkFld 47 32 ((used + 2 ^ 20 - 1) / 2 ^ 20) ||| mkFld 14 0 (s.tabs.tallyMib - (used + 2 ^ 20 - 1) / 2 ^ 20)

/-- TW_CFG_nn. -/
def readTwCfg (s : State) (n : Nat) : Word :=
  match tickWinOf s.tabs n with
  | none => 0#64
  | some w => mkFld 63 63 1 ||| mkFld 62 62 (b2n w.mirror) ||| mkFld 51 32 w.extCount ||| mkFld 14 0 (tallyBase s.tabs n)

end Sys2Proof.Machine
end

