-- ==== Sys2Proof/Machine/Rings.lean ====
section
/-! DEFINITION. Ring planes: paths, credits, the frame and its reserved slots, contracts and admission sums, injection
grants, delivery and recovery (R248-R280), and the issue of trackers (R105, R107, R114).
Assumption 53. -/
namespace Sys2Proof.Machine

/-! ## Paths, R248, R249 -/

/-- Links clockwise from one stop to another. -/
def cwLinks (src dst : Nat) : Nat := (dst + 48 - src) % 48

/-- Cycles of the link that leaves a stop clockwise: 4 across the die-to-die bridge (R248). -/
def cwCost1 (stop : Nat) : Nat := if stop = 23 ∨ stop = 47 then 4 else 1

/-- The links of a path by the stop at the clockwise-lower end, each with the cycle after injection in which the unit
enters it. -/
def pathLinks (src : Nat) (cw : Bool) : Nat → Nat → List (Nat × Nat)
  | 0, _ => []
  | n + 1, t =>
    let l := if cw then src else (src + 47) % 48
    (l, t) :: pathLinks (if cw then (src + 1) % 48 else l) cw n (t + cwCost1 l)

/-- Ring cycles of a path. -/
def pathCost (src dst : Nat) (cw : Bool) : Nat :=
  ((pathLinks src cw (if cw then cwLinks src dst else cwLinks dst src) 0).map (fun e => cwCost1 e.1)).sum

/-- R249: the direction with fewer cycles; clockwise when they are equal. -/
def goesCw (src dst : Nat) : Bool := decide (pathCost src dst true ≤ pathCost src dst false)

/-- Cycles of the path that R249 gives. -/
def ringCost (src dst : Nat) : Nat := pathCost src dst (goesCw src dst)

/-- The link cycles that a unit injected in frame cycle `c` uses: link, direction, frame cycle. -/
def unitCycles (src dst c : Nat) : List (Nat × Bool × Nat) :=
  let cw := goesCw src dst
  (pathLinks src cw (if cw then cwLinks src dst else cwLinks dst src) 0).map (fun e => (e.1, cw, c + e.2))

/-- The link cycles of a packet of `len` units. -/
def packetCycles (src dst c len : Nat) : List (Nat × Bool × Nat) :=
  (List.range len).flatMap (fun j => unitCycles src dst (c + j))

/-! ## Contracts, R259, R276-R279 -/

/-- A contract: CONTRACT_nn. -/
structure Contract where
  host : Nat
  prio : Nat
  charge : Nat
  mirrorCharge : Nat
  lines : Nat
  deriving DecidableEq, Repr

/-- The contracts of the tables, in ascending host. -/
def contractsOf (t : Tables) : List Contract :=
  (List.range 64).filterMap (fun h =>
    (t.contracts.find? (fun e => fld (e.2.getD 2 0#64) 5 0 == h && bitAt (e.2.getD 0 0#64) 63)).map (fun e =>
      let w := e.2.getD 0 0#64
      { host := h, prio := fld w 60 58, charge := fld w 57 48, mirrorCharge := fld w 47 38, lines := fld w 15 0 }))

/-- Frames in a second. -/
def framesPerSecond : Nat := 2343750

/-- HBM capacity in bytes per second, R276: 54.4 GB/s for each ACTIVE channel, less what throttling removes (R574). -/
def hbmCapacity (s : State) : Nat :=
  ((List.range 128).map (fun c =>
    if (s.chan c).st = 0 then 54400000000 / 2 ^ tgetD s.therm.levels (c / 32) 0 else 0)).sum

/-- The copies that charge MIG_RATE now: migrations, retirement copies, extent scrubs and reclaim walks (R276). -/
def copiesRunning (s : State) : Nat :=
  (s.xl.migs.filter (fun e => e.2.st == 1 || e.2.st == 2)).length + (s.xl.scrubs.filter (·.running)).length
    + (s.home.chans.filter (fun e => e.2.st == 1)).length
    + (s.home.cohs.filter (fun e => decide (e.2.st = .reclaim))).length

/-- The fixed charges in whole GB/s (R276): each charge is rounded up, as the worked example gives them (assumption 25). -/
def fixedCharges (s : State) : Nat :=
  let period := tickPeriod s
  let commit := if period = 0 then 0 else (budgetSum s * 352 + period - 1) / period
  let patrol := if s.rb Reg.homeCtl 1 then 1 else 0
  commit + patrol + s.tabs.qReserve + copiesRunning s * s.rf Reg.xlateCtl 29 24

/-- Bytes charged for a line of a contract: its mirror charge too in a formed pair (R276). -/
def lineCharge (paired : Bool) (k : Contract) : Nat := k.charge + if paired then k.mirrorCharge else 0

/-- Rate in tenths of GT/s of a rate encoding. -/
def rate10 (r : Nat) : Nat := match r with | 0 => 25 | 1 => 50 | 2 => 80 | 3 => 160 | 4 => 320 | 5 => 640 | _ => 1280

/-- Lanes times rate of a port's link, 0 while it is down. -/
def portSpeed (s : State) (p : Nat) : Nat :=
  if s.linkIsUp p then 2 ^ s.rf (Reg.linkStatus p) 12 10 * rate10 (s.rf (Reg.linkStatus p) 15 13) else 0

/-- R277: the most lines in a frame that 90 % of the raw capacity carries. -/
def portLines (speed : Nat) : Nat := speed * 3 / 40

/-- Lines after the port cap of R277. -/
def portCapped (s : State) (k : Contract) : Nat :=
  min k.lines (portLines ((s.hostPorts k.host).map (portSpeed s)).sum)

/-- One priority level of the recomputation: what is left, and the rates of its contracts (R278). -/
def shareLevel (paired : Bool) (capped : Contract → Nat) (ks : List Contract) (avail : Nat) : Nat × Tbl Nat :=
  let cost := fun (k : Contract) (n : Nat) => n * lineCharge paired k * framesPerSecond
  let want := (ks.map (fun k => cost k (capped k))).sum
  let eff := fun k => if want ≤ avail then capped k else capped k * avail / want
  (avail - (ks.map (fun k => cost k (eff k))).sum, ks.foldl (fun t k => tset t k.host (eff k)) [])

/-- R278: every EFF_LINES, from the highest priority down. -/
def effLines (paired : Bool) (capped : Contract → Nat) (cs : List Contract) (avail : Nat) : Tbl Nat :=
  ((List.range 8).foldl (fun (x : Nat × Tbl Nat) i =>
    let (a, t) := shareLevel paired capped (cs.filter (fun k => k.prio == 7 - i)) x.1
    (a, t.foldl (fun acc e => tset acc e.1 e.2) x.2)) (avail, [])).2

/-- CONTRACT_RECOMPUTE: after a change of HBM or port capacity, the new rates wait for the next frame boundary (R278). -/
def recompute (s : State) : State :=
  if !s.rings.dirty then s
  else
    let eff := effLines (pairFormed s) (portCapped s) (contractsOf s.tabs) (hbmCapacity s - fixedCharges s * 10 ^ 9)
    { s with rings.next := some eff, rings.dirty := false }

/-- R278: CONTRACT_RECOMPUTE. -/
def execContractRecompute (s : State) : Host.Outcome State Fault Refusal := .next (whenCarries recompute s)

/-! ## Reserved slots, R259, R260, R275 -/

/-- R259: slots per frame and plane of each pair. -/
def slotsPerPair (eff pipes : Nat) : Nat := if pipes = 0 then 0 else (eff + 96 * pipes - 1) / (96 * pipes)

/-- The pipelines of a set of ports: two for each chiplet, in ascending order. -/
def pipesOf (ports : List Nat) : List Nat :=
  ((List.range 8).filter (fun d => ports.any (fun p => p / 64 == d))).flatMap (fun d => [2 * d, 2 * d + 1])

/-- The ordered pairs of stops of a contract: requests, then responses (R259). -/
def contractPairs (pipes : List Nat) : List (Nat × Nat) :=
  let mems := [2, 22, 26, 46]
  pipes.flatMap (fun b => mems.map (fun m => (bpStop b, m))) ++ mems.flatMap (fun m => pipes.map (fun b => (m, bpStop b)))

/-- The cycles that R260 tries for a base cycle, in order. -/
def slotTries (b : Nat) : List Nat :=
  (List.range (min (b + 31) 991 + 1 - b)).map (· + b) ++ (List.range (b - max (b - 31) 32)).map (fun i => b - 1 - i)

/-- Place one slot: the first cycle at which its whole path is free of other reservations. -/
def placeOne (taken : List (Nat × Bool × Nat)) (src dst b : Nat) : Option Nat :=
  (slotTries b).find? (fun c => (unitCycles src dst c).all (fun x => !taken.contains x))

/-- The state of a placement: slots placed, link cycles taken, whether every slot found a place. -/
structure Placing where
  slots : List Rsv
  taken : List (Nat × Bool × Nat)
  ok : Bool
  deriving DecidableEq, Repr

/-- Place the `n` slots of a pair. -/
def placePair (host n : Nat) (x : Placing) (pr : Nat × Nat) : Placing :=
  (List.range n).foldl (fun (x : Placing) k =>
    match placeOne x.taken pr.1 pr.2 (32 + k * 960 / n) with
    | some c => { x with slots := x.slots ++ [{ src := pr.1, dst := pr.2, cycle := c, host }],
                         taken := unitCycles pr.1 pr.2 c ++ x.taken }
    | none => { x with ok := false }) x

/-- Place every contract's slots: hosts in ascending order, request pairs before response pairs (assumption 26). -/
def placeSlots (cs : List (Nat × Nat × List Nat)) : Placing :=
  cs.foldl (fun x c => (contractPairs c.2.2).foldl (placePair c.1 (slotsPerPair c.2.1 c.2.2.length)) x)
    { slots := [], taken := [], ok := true }

/-- Reserved link cycles on the busiest link of a plane (PLANE_STATUS.MAX_LINK_RSV; every plane has the same). -/
def maxLinkRsv (rsv : List Rsv) : Nat :=
  let used := rsv.flatMap (fun r => (unitCycles r.src r.dst r.cycle).map (fun x => (x.1, x.2.1)))
  ((List.range 48).flatMap (fun l => [(l, true), (l, false)])).foldl (fun m l => max m (used.filter (· == l)).length) 0

/-- R275: the placement exists and no link is reserved beyond 614 cycles. -/
def slotsOk (x : Placing) : Bool := x.ok && decide (maxLinkRsv x.slots ≤ 614)

/-- The HOST ports of a host with LINK_UP = 1. -/
def upPorts (s : State) (h : Nat) : List Nat := (s.hostPorts h).filter s.linkIsUp

/-- The information bytes of the ring records: plane, stop and priority level, 0xFF where none applies. -/
def raInfo (plane stop level : Nat) : Nat := plane + stop * 2 ^ 8 + level * 2 ^ 16

/-- R279: what a change of EFF_LINES reports: SHRINK with the lowest level that shrank, REGROW. -/
def reportEff (old new : Tbl Nat) (s : State) : State :=
  let cs := contractsOf s.tabs
  let down := cs.filter (fun k => tgetD new k.host 0 < tgetD old k.host 0)
  let up := cs.any (fun k => tgetD new k.host 0 > tgetD old k.host 0)
  let s := if down.isEmpty then s
    else (s.setEvent Reg.arbEvents 0).raise 0x51 .deferred .ring 0 (raInfo 0xFF 0xFF (down.foldl (fun m k => min m k.prio) 7))
  if up then (s.setEvent Reg.arbEvents 1).raise 0x52 .corrected .ring 0 (raInfo 0xFF 0xFF 0xFF) else s

/-- FRAME_BOUNDARY: FRAME_NUM steps, ARB_CTL and a recomputation that is ready take effect (R256, R260, R278, R279). -/
def frameBoundary (s : State) : State :=
  let s := { s with rings.frame := (s.rings.frame + 1) % 2 ^ 64, rings.ctl := s.rd Reg.arbCtl }
  match s.rings.next with
  | none => s
  | some eff =>
    let old := s.rings.eff
    let place := placeSlots ((contractsOf s.tabs).map (fun k => (k.host, tgetD eff k.host 0, pipesOf (upPorts s k.host))))
    reportEff old eff { s with rings.eff := eff, rings.next := none, rings.rsv := place.slots }

/-- R256: FRAME_BOUNDARY. -/
def execFrameBoundary (s : State) : Host.Outcome State Fault Refusal := .next (whenCarries frameBoundary s)

/-! ## Credits, R251, R252 -/

/-- Shared-pool entries of a destination stop, by class. -/
def poolSize (cls : Nat) : Nat := match cls with | 0 | 2 => 16 | 3 => 64 | 4 => 32 | _ => 0

/-- Shared-pool entries in use. -/
def poolUsed (s : State) (plane cls dst : Nat) : Nat := (s.rings.pool.filter (· == (plane, cls, dst))).length

/-- The credit a unit can take: 0 none is needed (a response's space is reserved), 1 the source's own, 2 the pool. -/
def creditFor (s : State) (u : RUnit) : Option Nat :=
  if u.cls = 1 then some 0
  else if !s.rings.own.contains (u.plane, u.cls, u.src, u.dst) then some 1
  else if poolUsed s u.plane u.cls u.dst < poolSize u.cls then some 2
  else none

/-- Take a credit. -/
def takeCredit (c : Nat) (u : RUnit) (s : State) : State :=
  match c with
  | 1 => { s with rings.own := s.rings.own ++ [(u.plane, u.cls, u.src, u.dst)] }
  | 2 => { s with rings.pool := s.rings.pool ++ [(u.plane, u.cls, u.dst)] }
  | _ => s

/-- CREDIT_RETURN: credit `k` of those on their way back reaches its source or its pool (R252). -/
def creditReturn (k : Nat) (s : State) : State :=
  match s.rings.back[k]? with
  | none => s
  | some (c, p, cls, src, dst) =>
    let s := { s with rings.back := dropAt s.rings.back k }
    if c = 1 then { s with rings.own := s.rings.own.erase (p, cls, src, dst) }
    else { s with rings.pool := s.rings.pool.erase (p, cls, dst) }

/-- R263: a host's write that came as BI_RSP for a line it does not hold EXCL moves into the REQ buffer of its stop as soon as one of
the shared entries is free there; its BI_RSP credit goes back. -/
def rebuffer (s : State) : State :=
  s.rings.arrived.zipIdx.foldl (fun s e =>
    match e.1.body with
    | .mem a =>
      if e.1.cls = 0 && !holdsExcl s a && decide (poolUsed s e.1.plane 3 e.1.dst < poolSize 3) then
        let s := leaveBuffer e.1 s
        { s with
          rings.pool := s.rings.pool ++ [(e.1.plane, 3, e.1.dst)],
          rings.arrived := s.rings.arrived.set e.2 { e.1 with cls := 3, credit := 2 } }
      else s
    | _ => s) s

/-- R252: CREDIT_RETURN. -/
def execCreditReturn (k : Nat) (s : State) : Host.Outcome State Fault Refusal :=
  .next (whenCarries (fun s => rebuffer (creditReturn k s)) s)

/-! ## Injection, R253, R257, R261, R268-R273 -/

/-- The state of an arbiter. -/
def arbOf (s : State) (id : ArbId) : Arb :=
  ((s.rings.arbs.find? (fun e => decide (e.1 = id))).map (·.2)).getD { ptr := 0, owner := none, hints := [] }

/-- Store an arbiter. -/
def putArb (id : ArbId) (a : Arb) (s : State) : State :=
  { s with rings.arbs := (s.rings.arbs.filter (fun e => decide (e.1 ≠ id))) ++ [(id, a)] }

/-- A plane's state. -/
def planeSt (s : State) (p : Nat) : PlaneSt := tgetD s.rings.planes p .normal

/-- The reserved slot of a stop, direction and frame cycle. -/
def slotAtCycle (s : State) (stop : Nat) (cw : Bool) (cycle : Nat) : Option Rsv :=
  s.rings.rsv.find? (fun r => r.src == stop && r.cycle == cycle && goesCw r.src r.dst == cw)

/-- R257, R260: may the unit be injected in the frame cycle? Cycle 0 is for back-invalidate units; from cycle 992 the
packet must end in its frame; no link cycle reserved for another slot may be used. -/
def cycleFree (s : State) (u : RUnit) (cycle : Nat) (slot : Option Rsv) : Bool :=
  let others := match slot with | some r => s.rings.rsv.erase r | none => s.rings.rsv
  (cycle != 0 || u.cls == 0 || u.cls == 2)
    && (decide (cycle < 992) || decide (cycle + ringCost u.src u.dst + u.len ≤ 1025))
    && (packetCycles u.src u.dst cycle u.len).all (fun x => others.all (fun r => !(unitCycles r.src r.dst r.cycle).contains x))

/-- R261: a request at a pipeline stop, or a response at a memory stop. -/
def slotKind (u : RUnit) : Bool :=
  if [2, 22, 26, 46].contains u.src then u.cls == 1
  else u.cls == 3 || (u.cls == 0 && match u.body with | .mem _ => true | _ => false)

/-- R268 rule 1: the rank of a unit in the frame cycle. -/
def slotRank (u : RUnit) (cycle : Nat) (slot : Option Rsv) : Nat :=
  if cycle = 0 then (if u.cls = 0 then 2 else 1)
  else match slot with
    | some r => if u.dst == r.dst && u.host == some r.host && u.priv.isNone && slotKind u then 3 else 0
    | none => 0

/-- The eligible units of a ring arbiter, by their place in the list of waiting units (R268). -/
def ringCands (s : State) (plane stop : Nat) (cw : Bool) (cycle : Nat) : List Cand :=
  let slot := slotAtCycle s stop cw cycle
  if planeSt s plane = .stopped then []
  else s.rings.wait.zipIdx.filterMap (fun e =>
    let u := e.1
    if u.plane == plane && u.src == stop && goesCw u.src u.dst == cw && (creditFor s u).isSome && cycleFree s u cycle slot then
      some { idx := e.2, req := u.cls, deadline := u.deadline, since := u.since, priv := u.priv.isSome,
             first := slotRank u cycle slot }
    else none)

/-- The counters of a ring arbiter's group: RING counters of the COUNTERS block (R528). -/
def cntRing (plane stop : Nat) (cw : Bool) (g : Nat) : Nat := 0x40000 + ((plane * 48 + stop) * 2 + b2n (!cw)) * 0x100 + g * 0x20

/-- The counting group of a unit. -/
def ringGroup (u : RUnit) : Nat := if u.priv.isSome then 5 else u.cls

/-- The end of a decision: the pointer moves (R269), the owner stays where parking is on (R272), hints go out (R273), an
overdue grant is reported. -/
def afterGrant (id : ArbId) (n num den : Nat) (w : Cand) (cs : List Cand) (s : State) : State :=
  let a := arbOf s id
  let s := if w.overdue s.now then s.setEvent Reg.arbEvents 5 else s
  putArb id { ptr := (w.req + 1) % n, owner := if bitAt s.rings.ctl 1 then some w.req else none,
              hints := hintsOf s.now a.ptr n num den w cs } s

/-- R272, R528: the wait that a grant counts: 0 where the grant was parked on its requester and no other is eligible. -/
def grantWait (s : State) (a : Arb) (w : Cand) (cs : List Cand) : Nat :=
  if a.owner == some w.req && cs.length == 1 && bitAt s.rings.ctl 1 then 0 else s.now - w.since

/-- One decision of a ring injection arbiter. -/
def ringGrant (plane stop : Nat) (cw : Bool) (cycle : Nat) (s : State) : State :=
  let id := ArbId.ring plane stop cw
  let a := arbOf s id
  let cs := privHead (ringCands s plane stop cw cycle)
  match grantOf s.now a.ptr 5 cs with
  | none => s
  | some w =>
    match s.rings.wait[w.idx]? with
    | none => s
    | some u =>
      let c := (creditFor s u).getD 0
      let s := cs.foldl (fun s x =>
        if x.idx = w.idx then s
        else match s.rings.wait[x.idx]? with
          | some v => s.count (cntRing plane stop cw (ringGroup v) + 8) 48 1
          | none => s) s
      let s := countGrant (cntRing plane stop cw (ringGroup u)) (grantWait s a w cs) s
      let s := if w.first = 3 then s.count (cntHost (u.host.getD 0) 0x40) 48 1 else s
      let s := returnRsp u (afterGrant id 5 (5 * u.len) 192 w cs (takeCredit c u s))
      { s with rings.wait := dropAt s.rings.wait w.idx, rings.flight := s.rings.flight ++ [{ u with credit := c }] }

/-! ## Issue of trackers, R105, R107, R114 -/

/-- May the lines of a partner's posted write be issued: every line has passed the checks of R87 (R583)? -/
def writeChecked (x : Item) : Bool := x.checked

/-- Have the tracker's holds ended (R126, R583)? The tracker of an interrupt write or a zero-length read issues nothing: its item is
released. -/
def trkFree (s : State) (t : Trk) : Bool :=
  match t.src with
  | .leg i _ =>
    (match s.item? i with
    | some x => holdEnded s i x && (match x.body with
      | .write _ => writeChecked x
      | .read _ | .atom _ _ => true
      | .intr _ | .wire _ _ | .note _ | .cpl _ _ | .zlr _ => false)
    | none => true)
  | _ => true

/-- Is the target reached through the FABRIC-DEVICE or ISL port? -/
def throughPort (p : Nat) : Target → Bool
  | .fabric q | .isl q _ => q == p
  | .hbm | .tick | .legacy _ | .hostLink _ | .partner => false

/-- Requests outstanding toward a FABRIC-DEVICE or ISL port. -/
def outTo (s : State) (p : Nat) : Nat :=
  (s.bridge.trks.filter (fun e => (decide (e.2.st = .issued) || decide (e.2.st = .held)) &&
    (throughPort p e.2.target || (e.2.also.map (fun x => throughPort p x.2.1)).getD false))).length

/-- A non-posted CXL.io TLP needs a tag; a CXL.mem message that is sent needs one unless it has no answer. -/
def needsTag (t : Trk) : Bool :=
  match t.tlp with
  | some (.mwr ..) | some (.msg _ _) => false
  | some _ => true
  | none => match t.op with | .read _ | .write .. => true | .specRd | .inv | .clnEvct | .atom .. => false

/-- The CXL.mem message of a line operation on a partner's link (R110, R122); one that is not sent still crosses to the
outbound half, which generates its Cmp. -/
def memMsg (s : State) (t : Trk) (leg : Bool) (dpa tag : Nat) : MemReq :=
  (m2sOf t.op dpa tag (if leg then winSwap s t.win else 0)).getD
    { op := match t.op with | .inv => .inv | _ => .clnEvct, addr := dpa, tag, data := 0#512, mask := fullMask, poison := false }

/-- The egress item of a request toward a port. -/
def memEgr (s : State) (t : Trk) (leg : Bool) (pool dpa tag pbr : Nat) : Egr :=
  { kind := .mem, body := .mem (if leg then ldOf s pool else 0) (memMsg s t leg dpa tag) pbr, deadline := t.deadline,
    from_ := none, tag := if leg && needsTag t then some tag else none, line := dpa / 64, read := none, since := s.now, group := 3, item := none }

/-- The TLP of a host's CXL.io request as the outbound half sends it: the device's Requester ID and its tag (R116). -/
def ioEgrTlp (s : State) (lp tag : Nat) : Tlp → Tlp
  | .mwr a f l d _ ep at_ => .mwr a f l d (vbId s lp) ep at_
  | .mrd a n f l _ _ => .mrd a n f l (vbId s lp) tag
  | .atom a op _ _ => .atom a op (vbId s lp) tag
  | .cfg w a d _ _ => .cfg w a d (vbId s lp) tag
  | t => t

/-- The egress item of a CXL.io request. -/
def ioEgr (s : State) (t : Trk) (lp tag : Nat) (tlp : Tlp) : Egr :=
  let posted := match tlp with | .mwr .. | .msg _ _ => true | _ => false
  { kind := if posted then .posted else .nonPosted, body := .tlp (ioEgrTlp s lp tag tlp), deadline := t.deadline,
    from_ := match t.src with | .io hp _ _ => some (hp, t.seq) | _ => none, tag := if posted then none else some tag,
    line := 0, read := none, since := s.now, group := if posted then 0 else 1, item := none }

/-- Draw the lowest free tag of a legacy port for a tracker (R114). -/
def drawTag (p k : Nat) (second : Bool) (s : State) : Option (Nat × State) :=
  match s.leg? p with
  | none => none
  | some l =>
    match freeTag s p l with
    | none => none
    | some g =>
      let owed := ((s.trk? k).map (·.owed)).getD 0
      some (g, s.modLeg p (fun l =>
        { l with tags := tset l.tags g { who := .trk k, second, start := none, timer := 0, owed, partial_ := false } }))

/-- Does an operation have an answer that a tracker's response space is for? -/
def hasAnswer (t : Trk) : Bool :=
  match t.tlp with
  | some (.mwr ..) | some (.msg _ _) => false
  | some _ => true
  | none => decide (t.op ≠ .specRd)

/-- R107: a tracker takes, before its unit is injected, one response credit of the target stop on the unit's plane, and where it
goes to a legacy port one of the port's outbound half (assumption 72: the spec gives no number of these, so none is refused). -/
def reserveRsp (k : Nat) (t : Trk) (plane dst : Nat) (leg : List Nat) (s : State) : State :=
  if hasAnswer t then s.modTrk k (fun t => { t with rsp := t.rsp ++ [(plane, dst)], outRsp := t.outRsp ++ leg }) else s

/-- Inject one request unit of a tracker toward a target; none while it must wait for a tag, for room at the port, or for IDE on a
port that requires it (R47). -/
def injectReq (k : Nat) (t : Trk) (second : Bool) (target : Target) (pool dpa : Nat) (s : State) : Option State :=
  let src := bpStop (k / 4096)
  let injectUnit := fun (u : RUnit) (s : State) =>
    let leg := match target with | .legacy p => [p] | _ => []
    injectUnit u (reserveRsp k t u.plane u.dst leg s)
  let unit := fun (plane dst cls len : Nat) (b : UBody) => { mkUnit plane src dst cls t.deadline len (some t.host) b with
    poison := match t.op with | .write _ _ _ p _ => p | _ => false }
  match target with
  | .hbm =>
    let a := trkAcc s k t second pool dpa
    some (injectUnit (unit (planeOf pool) (memStop (chanOfLine s (hlineOf s dpa))) (accClass a) (accLen a) (.mem a)) s)
  | .tick =>
    let a := trkAcc s k t second pool dpa
    some (injectUnit (unit (planeOf pool) (tickStop (chanOfLine s (hlineOf s dpa))) (accClass a) (accLen a) (.tick a)) s)
  | .legacy p =>
    let plane := match t.tlp with | some _ => k % 4096 % 24 | none => planeOf pool
    let go := fun (g : Nat) (s : State) =>
      let e := match t.tlp with | some tlp => ioEgr s t p g tlp | none => memEgr s t true pool dpa g 0
      injectUnit (unit plane (bpStop (homeBp p)) 3 (accLen (trkAcc s k t second pool dpa)) (.out (.trk k) p e)) s
    if needsTag t then (drawTag p k second s).map (fun x => go x.1 x.2) else some (go 0 s)
  | .fabric p =>
    if ideOk s p && decide (outTo s p < 1024) then
      some (injectUnit (unit (planeOf pool) (bpStop (pipeOf p (dpa / 64))) 3 (accLen (trkAcc s k t second pool dpa))
        (.out (.trk k) p (memEgr s t false pool dpa k 0))) s)
    else none
  | .isl p pbr =>
    if ideOk s p && decide (outTo s p < 1024) then
      some (injectUnit (unit (planeOf pool) (bpStop (pipeOf p (dpa / 64))) 3 (accLen (trkAcc s k t second pool dpa))
        (.out (.trk k) p (memEgr s t false pool dpa k pbr))) s)
    else none
  | .hostLink _ | .partner => none

/-- A request of a partner to its owning host's memory leaves on the stream's host link, or waits for one (R112, R113). -/
def issueHostLink (k i : Nat) (t : Trk) (s : State) : State :=
  match s.item? i with
  | none => s
  | some x =>
    match hostLink s x.port x.stream with
    | none => startHostWait x.port s
    | some q =>
      let issued := fun (g : Option Nat) (s : State) => s.modTrk k (fun t =>
        { t with st := .issued, target := .hostLink q, tag := g, issuedAt := s.now, timer := timerOf s (.hostLink q) })
      let s := fixLink x.port x.stream q s
      if !ideOk s q then s else match t.tlp with
      | some (.mrd a n f l r _) =>
        (match hostTag s q with
        | some g => tlpToHost q 1 t.deadline none (.mrd a n f l r g) (issued (some g) s)
        | none => s)
      | some (.atom a op r _) =>
        (match hostTag s q with
        | some g => tlpToHost q 1 t.deadline none (.atom a op r g) (issued (some g) s)
        | none => s)
      | some tlp => tlpToHost q 0 t.deadline (some i) tlp (issued none s)
      | none => s

/-- Requests outstanding toward the partner that travel on a TWIN port. -/
def outToTwin (s : State) (q : Nat) : Nat :=
  (s.bridge.trks.filter (fun e => (decide (e.2.st = .issued) || decide (e.2.st = .held)) && decide (e.2.target = .partner) &&
    twinPort s e.2.host e.2.addr == some q)).length

/-- A request for the partner's sets or homes crosses the twin link (R450); it waits while the loss of the partner is being
decided (R457, R460), and while its TWIN port has 1,024 outstanding (R49). Its deadline is converted (R453). A journal entry of the tracker's earlier request is spent
(assumption 33). -/
def issuePartner (k : Nat) (t : Trk) (s : State) : State :=
  let full := match twinPort s t.host t.addr with | some q => decide (1024 ≤ outToTwin s q) | none => false
  let noIde := (twinPort s t.host t.addr).isNone && (s.portsOf 5).any s.linkIsUp
  if s.pair.waitUntil.isSome || s.pair.tkOpen.isSome || full || noIde then s
  else
    let a := trkAcc s k t false t.pool t.dpa
    let s := { s with home.journal := s.home.journal.filter (fun e => e.2.1 != k) }
    (s.modTrk k (fun t => { t with st := .issued, issuedAt := s.now, timer := timerOf s .partner })).emit
      (.twinForward k { a with deadline := toPartner4 s a.deadline })

/-- The contained legacy ports among a tracker's targets. -/
def deadPorts (s : State) (t : Trk) : List Nat :=
  (owedTargets t).filterMap (fun e => match e.2 with
    | .legacy p => if ((tget s.links p).map (·.contained)).getD false then some p else none
    | .hbm | .tick | .fabric _ | .isl _ _ | .hostLink _ | .partner => none)

/-- Inject the units of a tracker's request, two for a write during a migration (R93); the target that had to wait. -/
def injectAll (k : Nat) (t : Trk) : List (Bool × Target) → State → Except Target State
  | [], s => .ok s
  | (second, tg) :: r, s =>
    let (pool, dpa) := match second, t.also with | true, some (pool, _, dpa) => (pool, dpa) | _, _ => (t.pool, t.dpa)
    match injectReq k t second tg pool dpa s with
    | some s => injectAll k t r s
    | none => .error tg

/-- The units of a tracker in WAIT whose holds have ended. A request that finds no tag stays and sets TAG_WAIT (R114). -/
def issueUnits (k : Nat) (s : State) : State :=
  match s.trk? k with
  | none => s
  | some t =>
    match injectAll k t (owedTargets t) s with
    | .error (.legacy _) => bridgeEvent 4 (k / 4096) s
    | .error _ => s
    | .ok s =>
      match t.op, t.tlp with
      | .specRd, none => freeTrk k s
      | _, _ => s.modTrk k (fun t => { t with st := .issued, issuedAt := s.now, timer := timerOf s t.target })

/-- TRACKER_ISSUE: WAIT to ISSUED when every hold has ended, a tag is held where one is needed and the response space is
reserved (R105, R107, R114). What goes to a contained port ends here (R154). -/
def trackerIssue (k : Nat) (s : State) : State :=
  match s.trk? k with
  | none => s
  | some t =>
    if t.st ≠ .wait || !trkFree s t then s
    else match t.target, t.src with
      | .hostLink _, .leg i _ => issueHostLink k i t s
      | .hostLink _, _ => s
      | .partner, _ => issuePartner k t s
      | _, _ =>
        let legAtom := match t.target, t.op with
          | .legacy _, .atom .. | .fabric _, .atom .. | .isl _ _, .atom .. => t.tlp.isNone
          | _, _ => false
        if legAtom then finishTrk k (errAnswer .targetUr) s
        else issueUnits k ((deadPorts s t).foldl (fun s p => withContain (endContainedTrk p k s)) s)

/-- R105: TRACKER_ISSUE. -/
def execTrackerIssue (k : Nat) (s : State) : Host.Outcome State Fault Refusal :=
  .next (whenCarries (fun s => letIn (trackerIssue k s)) s)

/-! ## Delivery, R251, R254, R263 -/

/-- R255 step 1: a plane starts recovery. -/
def startRecovery (p : Nat) (s : State) : State :=
  if planeSt s p = .stopped then s
  else { s with rings.planes := tset s.rings.planes p .stopped }.setEvent Reg.arbEvents 4

/-- R254: a header error discards the unit: the event, the record, the plane's count, its recovery. -/
def dropUnit (u : RUnit) (s : State) : State :=
  let s := (s.setEvent Reg.arbEvents 3).raise 0x50 .contained .ring u.plane (raInfo u.plane u.dst 0xFF)
  let s := { s with rings.drops := tset s.rings.drops u.plane (satAdd 16 (tgetD s.rings.drops u.plane 0) 1) }
  startRecovery u.plane s

/-- The unit with its data poisoned (R254). -/
def poisonUnit (u : RUnit) : RUnit :=
  let op : LineOp → LineOp := fun o => match o with
    | .write d m f _ v => .write d m f true v
    | .atom o off b => .atom { o with ep := true } off b
    | .read _ | .specRd | .inv | .clnEvct => o
  let tlp : Tlp → Tlp := fun t => match t with
    | .mwr a f l d r _ at_ => .mwr a f l d r true at_
    | .atom a o r g => .atom a { o with ep := true } r g
    | .cpl st c r g n lo d _ => .cpl st c r g n lo d true
    | .mrd .. | .cfg .. | .msg .. => t
  { u with
    poison := true,
    body := match u.body with
      | .mem a => .mem { a with op := op a.op }
      | .tick a => .tick { a with op := op a.op }
      | .rsp w a => .rsp w { a with poison := true }
      | .out w p e =>
        .out w p { e with
          body := match e.body with
          | .mem l r g => .mem l { r with poison := true } g
          | .tlp t => .tlp (tlp t)
          | b => b }
      | .snp p e => .snp p e }

/-- R120: the pieces of a posted write that is larger than the partner's MPS, each but the first from an MPS boundary, with the
attributes of the original; its own byte enables stand for its first and its last DW. -/
def splitMwr (mps reqId : Nat) (ep : Bool) (attr lbe : Nat) : Nat → Nat → Nat → List Byte → List Tlp
  | 0, _, _, _ => []
  | n + 1, addr, fbe, data =>
    let room := mps - addr % mps
    if data.length ≤ room then
      [if data.length ≤ 4 then .mwr addr lbe 0 data reqId ep attr else .mwr addr fbe lbe data reqId ep attr]
    else
      .mwr addr fbe (if room = 4 then 0 else 15) (data.take room) reqId ep attr
        :: splitMwr mps reqId ep attr lbe n (addr + room) 15 (data.drop room)

/-- Does a target lie behind the port? -/
def behind (p : Nat) (x : Target) : Bool := decide (x = .legacy p) || throughPort p x

/-- Is the unit that reaches a port's outbound half the second write of a migration (R93)? -/
def unitSecond (p : Nat) (e : Egr) (t : Trk) : Bool := !(behind p t.target && (t.also.isNone || e.line == t.dpa / 64))

/-- Is the request of a unit that reaches an outbound half still to be sent: its tracker is ISSUED and owed this answer, and its
tag is still its own (R115, R154)? -/
def unitLive (s : State) (k p : Nat) (e : Egr) : Bool :=
  match s.trk? k with
  | none => false
  | some t =>
    decide (t.st = .issued) && (owedTargets t).any (fun x => x.1 == unitSecond p e t) &&
      (match e.tag, s.leg? p with
      | some g, some l => ((tget l.tags g).map (fun x => decide (x.who = .trk k))).getD false
      | _, _ => true)

/-- A request reaches the outbound half of its port. One for a port that is down ends with kind CONTAINED (R135); the
outbound half itself completes MemInv and MemClnEvct (R110). -/
def arriveOut (u : RUnit) (w : Who) (p : Nat) (e : Egr) (s : State) : State :=
  let live := match w with | .trk k => unitLive s k p e | .eng _ _ | .own => true
  let second := match w with | .trk k => ((s.trk? k).map (unitSecond p e)).getD false | .eng _ _ | .own => false
  let reply := fun (a : Answer) (s : State) => sendAnswer u.plane u.dst u.deadline u.host w { a with second } s
  match e.body with
  | .mem _ r _ =>
    (match r.op with
    | .specRd => if s.linkIsUp p then toEgress p e s else s
    | .inv | .invNT | .clnEvct => if live then reply okAnswer s else s
    | .rd _ | .rdData _ | .wr _ | .wrPtl _ =>
      if !live then s else if s.linkIsUp p then toEgress p e s else reply (errAnswer .contained) s)
  | .tlp (.mwr a f l d r ep at_) =>
    if !live then s
    else if d.length ≤ mpsOf s p then toEgress p e s
    else (splitMwr (mpsOf s p) r ep at_ l 64 (a / 4 * 4) f d).foldl (fun s t => toEgress p { e with body := .tlp t } s) s
  | _ => if live then toEgress p e s else s

/-- R192: is a grant for the line still on its way to the host, so that a BIConflictAck waits? -/
def grantAhead (s : State) (host line : Nat) : Bool :=
  (s.rings.wait ++ s.rings.flight ++ s.rings.arrived).any (fun u =>
    match u.body with
    | .rsp (.trk k) _ => ((s.trk? k).map (fun t => t.host == host && t.pool == line)).getD false
    | _ => false)

/-- RING_UNIT_DELIVERED: unit `k` in flight reaches its destination stop and is taken by its target, or waits in the
stop's buffer (R251). `chk`: what the check code finds. -/
def unitDelivered (k : Nat) (chk : UnitCheck) (s : State) : State :=
  match s.rings.flight[k]? with
  | none => s
  | some u =>
    let s' := { s with rings.flight := dropAt s.rings.flight k }
    match chk with
    | .headerErr => dropUnit u s'
    | _ =>
      let u := if chk = .dataErr then poisonUnit u else u
      match u.body with
      | .mem _ => rebuffer (pumpStops { s' with rings.arrived := s'.rings.arrived ++ [u] })
      | .tick a => leaveBuffer u { s' with tick.inbox := s'.tick.inbox ++ [a] }
      | .out w p e => leaveBuffer u (arriveOut u w p e s')
      | .snp p e =>
        (match e.body, u.host with
        | .biAck line, some h => if grantAhead s' h line then s else leaveBuffer u (toEgress p e s')
        | _, _ => leaveBuffer u (toEgress p e s'))
      | .rsp (.eng e g) a => { s' with rings.engAns := s'.rings.engAns ++ [(.eng e g, a)] }
      | .rsp _ _ => { s' with rings.arrived := s'.rings.arrived ++ [u] }

/-- R251: RING_UNIT_DELIVERED. -/
def execRingUnitDelivered (k : Nat) (chk : UnitCheck) (s : State) : Host.Outcome State Fault Refusal :=
  .next (whenCarries (unitDelivered k chk) s)

/-! ## Recovery of a plane, R255 -/

/-- PLANE_RECOVERY_RESYNC: no unit is on the plane's links; every source sets its credits from the free entries of the
stops, so that only units in the buffers hold one. Injection resumes. -/
def planeResync (p : Nat) (s : State) : State :=
  if planeSt s p ≠ .stopped || s.rings.flight.any (fun u => u.plane == p && u.src != u.dst) then s
  else
    let held := s.rings.arrived.filter (fun u => u.plane == p)
    { s with
      rings.own := s.rings.own.filter (fun c => c.1 != p) ++
        (held.filter (fun u => u.credit == 1)).map (fun u => (u.plane, u.cls, u.src, u.dst)),
      rings.pool := s.rings.pool.filter (fun c => c.1 != p) ++
        (held.filter (fun u => u.credit == 2)).map (fun u => (u.plane, u.cls, u.dst)),
      rings.back := s.rings.back.filter (fun c => c.2.1 != p),
      rings.planes := tset s.rings.planes p .safe }

/-- R255: PLANE_RECOVERY_SAFE_END: 1,024 cycles after injection resumed. -/
def execPlaneRecoverySafeEnd (p : Nat) (s : State) : Host.Outcome State Fault Refusal :=
  .next (whenCarries (fun s =>
    if planeSt s p = .safe then { s with rings.planes := terase s.rings.planes p } else s) s)

/-! ## Registers of RING_ARB -/

/-- Bytes per second of the contracts at EFF_LINES. -/
def contracted (s : State) : Nat :=
  ((contractsOf s.tabs).map (fun k => tgetD s.rings.eff k.host 0 * lineCharge (pairFormed s) k * framesPerSecond)).sum

/-- HBM_CAPACITY; 0 before the end of LOAD. -/
def readHbmCapacity (s : State) : Word :=
  if s.mode.carries then
    mkFld 47 32 (hbmCapacity s / 10 ^ 9) ||| mkFld 31 16 ((contracted s + 10 ^ 9 - 1) / 10 ^ 9) ||| mkFld 15 0 (fixedCharges s)
  else 0#64

/-- ARB_STATUS. -/
def readArbStatus (s : State) : Word :=
  let safe := (List.range 24).foldl (fun a p => if planeSt s p = .normal then a else a + 2 ^ p) 0
  let shrunk := ((contractsOf s.tabs).filter (fun k => tgetD s.rings.eff k.host 0 < k.lines)).length
  mkFld 47 24 safe ||| mkFld 14 8 shrunk
    ||| mkFld 0 0 (b2n (s.mode == .load || s.mode == .test || bitAt s.rings.ctl 2))

/-- CONTRACT_nn. -/
def readContract (s : State) (h : Nat) : Word :=
  match (contractsOf s.tabs).find? (fun k => k.host == h) with
  | none => 0#64
  | some k =>
    mkFld 63 63 1 ||| mkFld 60 58 k.prio ||| mkFld 57 48 k.charge ||| mkFld 47 38 k.mirrorCharge
      ||| mkFld 31 16 (tgetD s.rings.eff h 0) ||| mkFld 15 0 k.lines

/-- PLANE_STATUS_pp. -/
def readPlaneStatus (s : State) (p : Nat) : Word :=
  mkFld 42 32 (maxLinkRsv s.rings.rsv) ||| mkFld 15 0 (tgetD s.rings.drops p 0)

end Sys2Proof.Machine
end

