-- ==== Sys2Proof/Machine/LegacyOut.lean ====
section
/-! DEFINITION. The outbound half and the ends of requests: egress, answers of partners and hosts, acknowledgements,
timeouts, late answers, protocol errors, containment and its release, partners' events (R105, R110, R112-R117, R125-R132,
R136-R139, R145-R170).
Assumptions 27, 54. -/
namespace Sys2Proof.Machine

/-! ## Egress, R120, R121, R125, R130-R132 -/

/-- The counters of a port's egress group (R529). -/
def cntEgr (p g : Nat) : Nat := cntPort p (0x60 + g * 0x18)

/-- The message of an egress item. -/
def egrMsg (p : Nat) : EgrBody → Msg
  | .tlp t => .tlp p t
  | .mem ld r pbr => .memReq p ld pbr r
  | .rsp tag m g => .memRsp p tag m g
  | .snp tag host line t => .biSnp p tag host line t
  | .biAck line => .biAck p line

/-- Payload bytes of an egress item. -/
def egrBytes : EgrBody → Nat
  | .tlp (.mwr _ _ _ d _ _ _) | .tlp (.cfg _ _ d _ _) | .tlp (.cpl _ _ _ _ _ _ d _) => d.length
  | .tlp (.atom _ op _ _) => op.size
  | .mem _ r _ => if hasData r then 64 else 0
  | .rsp _ (.memData _ _) _ => 64
  | _ => 0

/-- Send an egress item: the message and the port's counts. After the Cmp of another Sirjo's failed write, the message of R138
follows. -/
def sendEgr (p : Nat) (e : Egr) (s : State) : State :=
  let s := ((s.count (cntPort p 8) 48 1).count (cntPort p 0x18) 48 (egrBytes e.body)).emit (egrMsg p e.body)
  match e.islErr with
  | some (tag, k) => s.emit (.islError p tag k)
  | none => s

/-- The counts of an egress decision (R528). -/
def countEgr (p : Nat) (q : List Egr) (w : Cand) (wait : Nat) (cs : List Cand) (s : State) : State :=
  let s := cs.foldl (fun s x =>
    if x.idx = w.idx then s
    else match q[x.idx]? with | some e => s.count (cntEgr p e.group + 8) 48 1 | none => s) s
  match q[w.idx]? with
  | none => s
  | some e =>
    countGrant (cntEgr p e.group) wait s

/-- An egress candidate. -/
def egrCand (e : Egr) (i : Nat) : Cand := { idx := i, req := e.group, deadline := e.deadline, since := e.since, priv := false, first := 0 }

/-- Is a posted CXL.io request of the HOST port, earlier in sequence, still to be sent toward the port (R130, R131)? A posted
request keeps its tracker until it has been sent. -/
def postedAhead (s : State) (p hp seq : Nat) : Bool :=
  s.bridge.trks.any (fun e => decide (e.2.target = .legacy p) && decide (e.2.seq < seq) &&
    (match e.2.src, e.2.tlp with
    | .io q _ _, some (.mwr ..) | .io q _ _, some (.msg _ _) => q == hp
    | _, _ => false))

/-- Has the request of a tracker been sent on its port (its tag's timer runs)? -/
def trkSent (s : State) (p k : Nat) : Bool :=
  ((s.leg? p).map (fun l => l.tags.any (fun e => e.2.who == .trk k && e.2.start.isSome))).getD false

/-- Is a non-posted CXL.io request of the HOST port, earlier in sequence, still to be sent toward the port? -/
def nonPostedAhead (s : State) (p hp seq : Nat) : Bool :=
  s.bridge.trks.any (fun e => decide (e.2.target = .legacy p) && decide (e.2.seq < seq) && !trkSent s p e.1 &&
    (decide (e.2.st = .wait) || decide (e.2.st = .issued)) &&
    (match e.2.src, e.2.tlp with
    | .io _ _ _, some (.mwr ..) | .io _ _ _, some (.msg _ _) => false
    | .io q _ _, some _ => q == hp
    | _, _ => false))

/-- May the item go next (R130, R131)? `ahead` are the items before it in the port's queue. -/
def egrMayGo (s : State) (p : Nat) (ahead : List Egr) (e : Egr) : Bool :=
  match e.kind, e.from_ with
  | .posted, some (hp, q) => !postedAhead s p hp q && !ahead.any (fun a => decide (a.kind = .posted) && a.from_ == e.from_)
  | .posted, none => true
  | .nonPosted, some (hp, q) => !postedAhead s p hp q && !nonPostedAhead s p hp q
  | .nonPosted, none => true
  | .cpl, from_ =>
    (match from_ with
    | some (hp, q) => !postedAhead s p hp q
    | none => !ahead.any (fun a => decide (a.kind = .posted)))
    && !ahead.any (fun a => match a.read, e.read with | some x, some y => x.1 == y.1 | _, _ => false)
  | .mem, _ => !ahead.any (fun a => decide (a.kind = .mem) && a.line == e.line)

/-- The tracker of a posted CXL.io request, by its HOST port and sequence number. -/
def postedTrk (s : State) (p hp seq : Nat) : Option Nat :=
  (s.bridge.trks.find? (fun e => decide (e.2.target = .legacy p) && e.2.seq == seq &&
    (match e.2.src, e.2.tlp with
    | .io q _ _, some (.mwr ..) | .io q _ _, some (.msg _ _) => q == hp
    | _, _ => false))).map (·.1)

/-- What sending an item of a legacy port does beyond the message: its target timer starts (R146); a posted request whose
last TLP has been sent ends. -/
def afterLegSend (p : Nat) (e : Egr) (s : State) : State :=
  let s := match e.tag with
    | some g => s.modLeg p (fun l =>
        { l with tags := tmod l.tags g (fun t => { t with start := some s.now, timer := s.rf (Reg.bxeCtl (legIndex s p)) 47 32 * 10000 }) })
    | none => s
  match e.kind, e.from_ with
  | .posted, some (hp, q) =>
    if ((s.leg? p).map (fun l => l.egress.any (fun a => a.from_ == e.from_))).getD false then s
    else match postedTrk s p hp q with
      | some k => finishTrk k okAnswer s
      | none => s
  | _, _ => s

/-- Is the item a CXL.mem write whose request has ended in a synthesised error before it is sent? It changes no byte (R136,
R137). -/
def egrStale (s : State) (e : Egr) : Bool :=
  match e.body with
  | .mem _ r _ => hasData r && endedInError s (.trk r.tag)
  | _ => false

/-- EGRESS_SEND: the scheduler of a legacy port sends the item with the nearest deadline of those that may go (R132). -/
def egressSend (p : Nat) (s : State) : State :=
  match s.leg? p with
  | none => s
  | some l =>
    if !s.linkIsUp p then s
    else
      let q := l.egress
      let id := ArbId.egress p
      let a := arbOf s id
      let cs := q.zipIdx.filterMap (fun x => if egrMayGo s p (q.take x.2) x.1 then some (egrCand x.1 x.2) else none)
      match grantOf s.now a.ptr 6 cs with
      | none => s
      | some w =>
        match q[w.idx]? with
        | none => s
        | some e =>
          let s := countEgr p q w (grantWait s a w cs) cs s
          let s := afterGrant id 6 1280 (max 1 (portSpeed s p)) w cs s
          afterLegSend p e (sendEgr p e (s.modLeg p (fun l => { l with egress := dropAt l.egress w.idx })))

/-- R132: EGRESS_SEND. -/
def execEgressSend (port : Nat) (s : State) : Host.Outcome State Fault Refusal :=
  .next (whenCarries (fun s => letIn (egressSend port s)) s)

/-! ## What leaves a HOST port, R125, R126 -/

/-- Does a later held item of the stream also leave on the host link (R125)? -/
def leavesOn (s : State) (q : Nat) (x : Item) : Bool :=
  match x.body with
  | .write h => h
  | .read _ | .atom _ _ => x.toHost
  | .intr _ | .note _ => hostLink s x.port x.stream == some q
  | .wire _ _ => s.hostUpPort (portOwner s x.port) == some q
  | .cpl hp _ => hp == q
  | .zlr _ => false

/-- R125: a host-link write has been sent: it is acknowledged when every later held item of its stream leaves on that link;
otherwise a zero-length read follows it, as soon as the link has a free tag. -/
def hostWriteSent (q i : Nat) (s : State) : State :=
  match s.item? i with
  | none => s
  | some x =>
    let held := s.bridge.items.filter (fun e => e.1 > i && e.2.port == x.port && e.2.stream == x.stream && !e.2.released
      && !holdEnded s e.1 e.2)
    if held.all (fun e => leavesOn s q e.2) then
      x.trks.foldl (fun s k => s.modTrk k (fun t => { t with st := .respond, ans := some okAnswer })) s
    else startFlush i s

/-- Is an item still to leave a HOST port with another entry of its egress queue? -/
def stillQueued (s : State) (q i : Nat) : Bool := (tgetD s.bridge.egress q []).any (fun e => e.item == some i)

/-- What sending an item at a HOST port does beyond the message: the inbound item is delivered (R126), or the host-link
write sent. -/
def afterHostSend (q : Nat) (e : Egr) (s : State) : State :=
  match e.item with
  | none => s
  | some i =>
    match s.item? i with
    | none => s
    | some x =>
      match x.body with
      | .write _ => hostWriteSent q i s
      | .intr _ | .note _ | .cpl _ _ => releasePort x.port (endItem i s)
      | .wire _ _ => if stillQueued s q i then s else releasePort x.port (endItem i s)
      | .read _ | .atom _ _ | .zlr _ => s

/-- May an item leave a port that requires IDE before IDE is active? Configuration traffic may (R47). -/
def ideLets (s : State) (p : Nat) (e : Egr) : Bool :=
  ideOk s p || e.conf || (match e.body with | .tlp (.cfg ..) => true | _ => false)

/-- One decision of the egress arbiter of a HOST, FABRIC-DEVICE or ISL port. A BIConflictAck follows every answer queued
before it (R192). -/
def egressGrant (p : Nat) (s : State) : State :=
  let s := { s with bridge.egress := tmod s.bridge.egress p (fun q => q.filter (fun e => !egrStale s e)) }
  let q := tgetD s.bridge.egress p []
  let id := ArbId.egress p
  let a := arbOf s id
  let mayGo := fun (e : Egr) (i : Nat) => match e.body with
    | .biAck _ => !(q.take i).any (fun x => match x.body with | .rsp _ _ _ => true | _ => false)
    | .mem _ _ _ => !(q.take i).any (fun x => (match x.body with | .mem _ _ _ => true | _ => false) && x.line == e.line)
    | _ => true
  let cs := if s.linkIsUp p then
    q.zipIdx.filterMap (fun x => if mayGo x.1 x.2 && ideLets s p x.1 then some (egrCand x.1 x.2) else none) else []
  match grantOf s.now a.ptr 6 cs with
  | none => s
  | some w =>
    match q[w.idx]? with
    | none => s
    | some e =>
      let s := countEgr p q w (grantWait s a w cs) cs s
      let s := afterGrant id 6 1280 (max 1 (portSpeed s p)) w cs s
      afterHostSend p e (sendEgr p e { s with bridge.egress := tset s.bridge.egress p (dropAt q w.idx) })

/-! ## Late answers, R150, R151 -/

/-- A late answer at a tracker: counted for the pipeline; at most one record in each 1 ms. -/
def lateTrk (bp tag : Nat) (s : State) : State :=
  let s := (bxCount (Reg.lateTrk bp) s).setEvent Reg.bxgEvents 3
  let due := match tget s.bridge.lastLateTrk bp with | some t => decide (t + 1000000 ≤ s.now) | none => true
  if due then pipeRecord 0x25 .corrected bp none tag { s with bridge.lastLateTrk := tset s.bridge.lastLateTrk bp s.now } else s

/-- A late answer at a legacy port's tag table: counted, and the tag leaves quarantine (R115). -/
def lateTag (p tag : Nat) (s : State) : State :=
  let i := legIndex s p
  let s := (bxCount (Reg.lateCompletion i) s).setEvent (Reg.bxeEvents i) 2
  let s := s.modLeg p (fun l => { l with quar := terase l.quar tag })
  let due := match (s.leg? p).bind (·.lastLate) with | some t => decide (t + 1000000 ≤ s.now) | none => true
  if due then (legRecord 0x25 .corrected p none tag s).modLeg p (fun l => { l with lastLate := some s.now }) else s

/-! ## What an ISL target leaves behind, R138 -/

/-- R138, R139: what an ISL target's answer leaves behind: to whom a later error message belongs. -/
def noteIsl (k : Nat) (s : State) : State :=
  match s.trk? k with
  | some t => (match t.target with
    | .isl _ _ => if t.op.isWrite then { s with bridge.islDone := tset s.bridge.islDone k (t.host, t.addr) } else s
    | _ => s)
  | none => s

/-! ## Protocol errors, R46, R139 -/

/-- R61, R135: every request outstanding toward a FABRIC-DEVICE or ISL port that has gone down ends with kind CONTAINED, but for an
answer that is on its way to its tracker. What an ISL partner asked for is answered to nobody. -/
def fabricDown (p : Nat) (s : State) : State :=
  let s := { orphanTrks p s with bridge.egress := terase s.bridge.egress p }
  let ks := (s.bridge.trks.filter (fun e => decide (e.2.st = .issued) &&
    (owedTargets e.2).any (fun x => throughPort p x.2))).map (·.1)
  ks.foldl (fun s k => ((((s.trk? k).map owedTargets).getD []).filter (fun x => throughPort p x.2 && !answerComing s k x.1)).foldl
    (fun s x => trkAnswer k { errAnswer .contained with second := x.1 } s) s) s

/-- PROTOCOL_ERROR_RECEIVED, by the port's role. The offending message is discarded. -/
def protocolError (p : Nat) (e : ProtoErr) (s : State) : State :=
  if (s.link? p).isNone || !s.linkIsUp p then s
  else
    let s := if e = .credits then s.linkEvent p 7 else s
    let code := match e with | .malformed => 5 | .credits => 6
    let rec_ := fun (s : State) => s.raiseRec { mkRec s 0x26 .contained .port p (bxInfo none 0 none) with port := some p }
    match s.role p with
    | 1 =>
      let h := portHost s p
      let old := tgetD s.bridge.viewAer h []
      let s := rec_ (s.setEvent Reg.bxgEvents 0)
      let s := { s with bridge.viewAer := tset s.bridge.viewAer h (if old.contains code then old else old ++ [code]) }
      tlpToHost p 0 (deadlineOf s (s.rf (Reg.hostArb h) 31 16)) none (.msg .errFatal 0) s
    | 2 | 4 => fabricDown p ((linkLeaves p 0 ((rec_ s).wb (Reg.portCtl p) 0 false)).modLink p (fun l => { l with fails := 0 }))
    | 3 => legProtocol p code s
    | _ => rec_ s

/-- R139: PROTOCOL_ERROR_RECEIVED. -/
def execProtocolErrorReceived (port : Nat) (e : ProtoErr) (s : State) : Host.Outcome State Fault Refusal :=
  .next (whenCarries (fun s => letIn (protocolError port e s)) s)

/-! ## RESPONSE_ARRIVES -/

/-- A response unit at its pipeline: accepted when its tracker index and DEADLINE match a tracker in ISSUED or held (R151);
a late one, and one that matches none, is counted (R150). -/
def unitAnswer (k : Nat) (s : State) : State :=
  match s.rings.arrived[k]? with
  | none => s
  | some u =>
    match u.body with
    | .rsp (.trk t) a =>
      let s := takeArrived k u s
      (match s.trk? t with
      | some x =>
        if x.deadline % 65536 ≠ u.deadline % 65536 then lateTrk (t / 4096) t s
        else if x.st = .issued then trkAnswer t a s
        else if x.st = .held then freeTrk t (lateTrk (t / 4096) t s)
        else lateTrk (t / 4096) t s
      | none => lateTrk (t / 4096) t s)
    | _ => s

/-- A S2M message of a FABRIC-DEVICE or ISL partner: its tag is the tracker's index. A back-invalidate message is a
protocol error (R46). -/
def linkAnswer (p k : Nat) (m : S2M) (s : State) : State :=
  if !(s.linkIsUp p && (s.role p == 2 || s.role p == 4)) then s
  else
    let s := (s.count (cntPort p 0) 48 1).count (cntPort p 0x10) 48 (match m with | .memData _ _ => 64 | _ => 0)
    let a : Answer := match m with | .memData d x => { okAnswer with data := d, poison := x } | _ => okAnswer
    match m, s.trk? k with
    | .bi, _ => protocolError p .malformed s
    | _, none => lateTrk (k / 4096) k s
    | _, some t =>
      match (owedTargets t).find? (fun x => throughPort p x.2) with
      | none => lateTrk (k / 4096) k s
      | some (second, _) =>
      if t.st = .issued then
        let (pool, dpa) := match second, t.also with | true, some (pool, _, dpa) => (pool, dpa) | _, _ => (t.pool, t.dpa)
        trkAnswer k { a with second }
          (noteIsl k (s.modTrk k (fun t => { t with rsp := t.rsp.erase (planeOf pool, bpStop (pipeOf p (dpa / 64))) })))
      else if t.st = .held then freeTrk k (lateTrk (k / 4096) k s)
      else lateTrk (k / 4096) k s

/-- The twin's answer to a request that this member forwarded (R450). -/
def twinAnswer (k : Nat) (a : Answer) (s : State) : State :=
  match s.trk? k with
  | none => lateTrk (k / 4096) k s
  | some t =>
    if t.target ≠ .partner then lateTrk (k / 4096) k s
    else if t.st = .issued then trkAnswer k a s
    else if t.st = .held then freeTrk k (lateTrk (k / 4096) k s)
    else lateTrk (k / 4096) k s

/-! ## LINE_WRITE_ACK, R125, R126 -/

/-- A line write, or a host-link write, of a partner's posted write is acknowledged: its tracker is free; with the last of
them the item is acknowledged and held items are released. -/
def lineAck (k : Nat) (s : State) : State :=
  match s.trk? k with
  | none => s
  | some t =>
    match t.st, t.src with
    | .respond, .leg i _ =>
      let s := (freeTrk k s).modItem i (fun x => { x with trks := x.trks.erase k })
      (match s.item? i with
      | none => s
      | some x =>
        if !x.trks.isEmpty then s
        else if x.fails.isEmpty then releasePort x.port (dropItem i s)
        else withContain (failWrite i s))
    | _, _ => s

/-- R125: LINE_WRITE_ACK. -/
def execLineWriteAck (k : Nat) (s : State) : Host.Outcome State Fault Refusal :=
  .next (whenCarries (fun s => letIn (lineAck k s)) s)

/-! ## Answers of a legacy partner, R110, R114-R116, R148 -/

/-- A tag's request has its last answer: the tag is free and the run of timeouts ends (R114, R148). -/
def tagDone (p g : Nat) (s : State) : State := s.modLeg p (fun l => { l with tags := terase l.tags g, ctoRun := 0 })

/-- Poisoned data in a partner's answer: event and record. -/
def poisonAnswer (p : Nat) (s : State) : State :=
  legRecord 0x20 .deferred p (some .poison) 0 (s.setEvent (Reg.bxeEvents (legIndex s p)) 0)

/-- LEGACY_COMPLETION: matched by tag and forwarded to the host as an item of class C, with its Requester ID and tag
restored and its completer ID unchanged (R116, R126). -/
def legCompletion (p : Nat) (c : CplIn) (s : State) : State :=
  match s.leg? p with
  | none => s
  | some l =>
    if !(s.role p == 3 && s.linkIsUp p && s.mode.carries) then s
    else
      let s := (s.count (cntPort p 0) 48 1).count (cntPort p 0x10) 48 c.data.length
      match tget l.tags c.tag with
      | none => if (tget l.quar c.tag).isSome then lateTag p c.tag s else s
      | some e =>
        let s := match c.status with
          | .ur => legRecord 0x21 .corrected p (some .targetUr) c.tag s
          | .ca => legRecord 0x22 .contained p (some .targetCa) c.tag s
          | .sc => s
        let s := if c.ep then poisonAnswer p s else s
        match e.who with
        | .trk k =>
          (match s.trk? k with
          | none => tagDone p c.tag s
          | some t =>
            match t.src with
            | .io hp r g =>
              let s := s.modTrk k (fun t => { t with owed := t.owed - c.data.length })
              let s := if c.last then tagDone p c.tag (s.modTrk k (fun t => { t with st := .respond, rsp := [], outRsp := [] }))
                else s.modLeg p (fun l => { l with tags := tmod l.tags c.tag (fun e => { e with partial_ := true }) })
              if t.orphan then
                let s := s.count (cntPort hp 0x38) 48 1
                if c.last then freeTrk k s else s
              else
                let (st, s) := joinStream p c.cplId c.ido s
                let (i, s) := addItem p st .c (.cpl hp (.cpl c.status c.cplId r g c.byteCount c.lower c.data c.ep)) 0 0 true
                  t.deadline s
                let s := if c.ep then s.count (cntHost t.host 0x50) 48 1 else s
                releaseItem i (s.modItem i (fun x => { x with trks := if c.last then [k] else [], conf := isCfg t.tlp }))
            | _ => tagDone p c.tag s)
        | .eng _ _ | .own => tagDone p c.tag s

/-- R116: LEGACY_COMPLETION. -/
def execLegacyCompletion (port : Nat) (c : CplIn) (s : State) : Host.Outcome State Fault Refusal :=
  .next (whenCarries (fun s => letIn (legCompletion port c s)) s)

/-- An answer of the outbound half crosses the ring to its tracker; the port's response credit returns (R107). -/
def replyTrk (p k : Nat) (second : Bool) (a : Answer) (s : State) : State :=
  match s.trk? k with
  | none => s
  | some t =>
    let pool := match second, t.also with | true, some (pool, _, _) => pool | _, _ => t.pool
    let plane := match t.tlp with | some _ => k % 4096 % 24 | none => planeOf pool
    sendAnswer plane (bpStop (homeBp p)) t.deadline (some t.host) (.trk k) { a with second }
      (s.modTrk k (fun t => { t with outRsp := t.outRsp.erase p }))

/-- LEGACY_CXL_RESPONSE: data, with its bytes swapped (R122), or Cmp to the requester; a BI message is a protocol error
(R110). -/
def cxlResponse (p tag : Nat) (m : S2M) (s : State) : State :=
  match s.leg? p with
  | none => s
  | some l =>
    if !(s.role p == 3 && s.linkIsUp p && s.mode.carries) then s
    else
      let s := (s.count (cntPort p 0) 48 1).count (cntPort p 0x10) 48 (match m with | .memData _ _ => 64 | _ => 0)
      match m, tget l.tags tag with
      | .bi, _ => protocolError p .malformed s
      | _, none => if (tget l.quar tag).isSome then lateTag p tag s else s
      | _, some e =>
        let poison := match m with | .memData _ x => x | _ => false
        let s := if poison then poisonAnswer p s else s
        match e.who with
        | .trk k =>
          let swap := ((s.trk? k).map (fun t => winSwap s t.win)).getD 0
          let a : Answer := match m with
            | .memData d x => { okAnswer with data := swapLine swap d, poison := x }
            | _ => okAnswer
          replyTrk p k e.second a (tagDone p tag s)
        | .eng _ _ | .own => tagDone p tag s

/-- R110: LEGACY_CXL_RESPONSE. -/
def execLegacyCxlResponse (port tag : Nat) (m : S2M) (s : State) : Host.Outcome State Fault Refusal :=
  .next (whenCarries (fun s => letIn (cxlResponse port tag m s)) s)

/-! ## Completions of the host for a partner's request, R117 -/

/-- The completions to a partner for `data` that starts `x.sent` bytes into a read, resized to the partner's MPS (R110). `from_`: the
HOST port they come from and its next sequence number (R130). -/
def resizeCpl : Nat → Nat → Option (Nat × Nat) → LegRead → Bool → List Byte → State → State
  | 0, _, _, _, _, _, s => s
  | n + 1, i, from_, r, ep, data, s =>
    match s.item? i with
    | none => s
    | some x =>
      if data.isEmpty then s
      else
        let base := (readSpan r).1
        let a := base + x.sent
        let b := cplEnd (mpsOf s x.port) a (a + data.length)
        let b := if b ≤ a then a + data.length else b
        let skip := if x.sent = 0 then firstByte r.fbe else 0
        let s := cplToPartner x.port x.deadline .sc r.reqId r.tag (readLeft r x.sent) ((a + skip) % 128) (data.take (b - a)) ep
          (some (i, a)) s (from_ := from_)
        resizeCpl n i from_ r ep (data.drop (b - a)) (s.modItem i (fun x => { x with sent := x.sent + (b - a) }))

/-- The end of a partner's request to host memory. -/
def hostReqDone (k i : Nat) (s : State) : State :=
  match s.item? i with
  | none => freeTrk k s
  | some x => releasePort x.port (dropItem i (freeTrk k s))

/-- HOST_LINK_COMPLETION: a host's completion is mapped back by its tag and forwarded to the partner. -/
def hostCompletion (q : Nat) (c : CplIn) (s : State) : State :=
  if !(s.role q == 1 && s.linkIsUp q) then s
  else
    let s := (s.count (cntPort q 0) 48 1).count (cntPort q 0x10) 48 c.data.length
    match s.bridge.trks.find? (fun e => e.2.target == .hostLink q && e.2.tag == some c.tag) with
    | none => s
    | some (k, t) =>
      if t.st = .held then freeTrk k (lateTrk (k / 4096) c.tag s)
      else match t.st, t.src with
        | .issued, .leg i _ =>
          (match s.item? i with
          | none => freeTrk k s
          | some x =>
            let from_ := some (q, tgetD s.bridge.seqs q 0)
            let bad := fun (r : LegRead) (left : Nat) =>
              hostReqDone k i (cplToPartner x.port x.deadline c.status r.reqId r.tag left 0 [] false (some (i, 0)) s (from_ := from_))
            match x.body with
            | .write _ =>
              if x.flushing then
                (s.modTrk k (fun t => { t with st := .respond, tag := none, ans := some okAnswer })).modItem i (fun x =>
                  { x with flushing := false })
              else s
            | .read r =>
              if c.status ≠ .sc then bad r (readLeft r x.sent)
              else
                let s := resizeCpl 64 i from_ r c.ep c.data s
                if c.last then hostReqDone k i s else s
            | .atom r op =>
              if c.status ≠ .sc then bad r 4
              else
                hostReqDone k i (cplToPartner x.port x.deadline .sc r.reqId r.tag op.size (r.addr % 128) c.data c.ep none s (from_ := from_))
            | .intr _ | .wire _ _ | .note _ | .cpl _ _ | .zlr _ => s)
        | _, _ => s

/-- R117: HOST_LINK_COMPLETION. -/
def execHostLinkCompletion (port : Nat) (c : CplIn) (s : State) : Host.Outcome State Fault Refusal :=
  .next (whenCarries (fun s => letIn (hostCompletion port c s)) s)

/-! ## Timeouts, R113, R115, R146-R148, R151 -/

/-- TAG_QUARANTINE_EXPIRY: twice the port's completion timeout has passed (R115). -/
def quarExpiry (p tag : Nat) (s : State) : State :=
  match (s.leg? p).bind (fun l => tget l.quar tag) with
  | none => s
  | some t => (s.reach t).modLeg p (fun l => { l with quar := terase l.quar tag })

/-- R115: TAG_QUARANTINE_EXPIRY. -/
def execTagQuarantineExpiry (port tag : Nat) (s : State) : Host.Outcome State Fault Refusal :=
  .next (whenCarries (quarExpiry port tag) s)

/-- TARGET_TIMEOUT: the tag goes to quarantine, the answer of kind TARGET_TIMEOUT goes to its tracker, and the run of
timeouts may contain the port (R147, R148). -/
def targetTimeout (p tag : Nat) (s : State) : State :=
  match (s.leg? p).bind (fun l => tget l.tags tag) with
  | none => s
  | some e =>
    match e.start with
    | none => s
    | some t0 =>
      let s := s.reach (t0 + e.timer)
      let i := legIndex s p
      let s := (bxCount (Reg.ctoCount i) s).setEvent (Reg.bxeEvents i) 1
      let s := legRecord 0x23 .contained p (some .targetTimeout) tag s
      let s := s.modLeg p (fun l =>
        { l with tags := terase l.tags tag, quar := tset l.quar tag (s.now + 2 * e.timer), ctoRun := min 255 (l.ctoRun + 1) })
      let s := match e.who with | .trk k => replyTrk p k e.second (errAnswer .targetTimeout) s | .eng _ _ | .own => s
      let limit := s.rf (Reg.bxeCtl i) 31 24
      if limit ≠ 0 ∧ ((s.leg? p).map (·.ctoRun)).getD 0 ≥ limit then contain p 6 s else s

/-- R147: TARGET_TIMEOUT. -/
def execTargetTimeout (port tag : Nat) (s : State) : Host.Outcome State Fault Refusal :=
  .next (whenCarries (fun s => letIn (targetTimeout port tag s)) s)

/-- Is a unit of the tracker on the rings, or at the egress of its legacy port? -/
def unitAlive (s : State) (k : Nat) (t : Trk) : Bool :=
  (s.rings.wait ++ s.rings.flight ++ s.rings.arrived).any (fun u => match u.body with | .out (.trk j) _ _ => j == k | _ => false)
    || (match t.target, t.src with
      | .legacy p, .io hp _ _ => ((s.leg? p).map (fun l => l.egress.any (fun e => e.from_ == some (hp, t.seq)))).getD false
      | _, _ => false)

/-- Does the tracker's timer run: one that is ISSUED and owed an answer? A host's posted CXL.io request is owed none, and ends when
it is sent; its timer acts only where its ring unit has been lost (R145, R582; assumption 70). -/
def hasTimer (s : State) (k : Nat) (t : Trk) : Bool :=
  decide (t.st = .issued) && (match t.src, t.tlp with
    | .io _ _ _, some (.mwr ..) | .io _ _ _, some (.msg _ _) => !unitAlive s k t
    | _, _ => true)

/-- R115: the legacy tags of a request that ends in a synthesised error enter quarantine, and what of it has not been sent is not
sent. -/
def quarantineTags (k : Nat) (s : State) : State :=
  { s with
    bridge.legs := tmap (fun p l =>
      let gs := (l.tags.filter (fun e => decide (e.2.who = .trk k))).map (·.1)
      { l with
        tags := l.tags.filter (fun e => !gs.contains e.1),
        quar := gs.foldl (fun q g => tset q g (s.now + 2 * (s.rf (Reg.bxeCtl (legIndex s p)) 47 32 * 10000))) l.quar,
        egress := l.egress.filter (fun e => match e.tag with | some g => !gs.contains g | none => true) }) s.bridge.legs }

/-- The end of a tracker whose timer has expired: the answer of kind BACKSTOP_TIMEOUT is synthesised and the tracker held (R151). A
write of a migration whose destination alone has not answered abandons it (R95). -/
def backstop (k : Nat) (t : Trk) (s : State) : State :=
  let rec_ := fun (x : Target) (s : State) => match x with
    | .legacy p => legRecord 0x24 .contained p (some .backstopTimeout) k s
    | .hbm | .tick | .fabric _ | .isl _ _ | .hostLink _ | .partner => pipeRecord 0x24 .contained (k / 4096) (some .backstopTimeout) k s
  let s := rec_ (((owedTargets t).head?.map (·.2)).getD t.target) s
  let dst := t.also.isSome && (t.ans.map (fun b => !b.second && b.kind.isNone)).getD false
  withContain (synthTrk k ((t.ans.bind (·.kind)).getD .backstopTimeout) (quarantineTags k (if dst then abandonMigration t s else s)))

/-- TRACKER_TIMEOUT (R147). A host's posted write whose unit was lost ends with kind INTERNAL (R135, R582). -/
def trackerTimeout (k : Nat) (s : State) : State :=
  match s.trk? k with
  | none => s
  | some t =>
    if !hasTimer s k t then s
    else
      let s := (s.reach (t.issuedAt + t.timer)).setEvent Reg.bxgEvents 2
      match t.tlp with
      | some (.mwr ..) | some (.msg _ _) =>
        (match t.src with
        | .io _ _ _ => finishTrk k (errAnswer .internal) (pipeRecord 0x2A .fatalUnit (k / 4096) (some .internal) k s)
        | _ => backstop k t s)
      | _ => backstop k t s

/-- R147: TRACKER_TIMEOUT. -/
def execTrackerTimeout (k : Nat) (s : State) : Host.Outcome State Fault Refusal :=
  .next (whenCarries (fun s => letIn (trackerTimeout k s)) s)

/-- TRACKER_HOLD_EXPIRY: twice its timer after the expiry the held tracker is free (R151). -/
def holdExpiry (k : Nat) (s : State) : State :=
  match s.trk? k with
  | none => s
  | some t => if t.st = .held then freeTrk k (s.reach (t.heldAt + 2 * t.timer)) else s

/-- R151: TRACKER_HOLD_EXPIRY. -/
def execTrackerHoldExpiry (k : Nat) (s : State) : Host.Outcome State Fault Refusal :=
  .next (whenCarries (fun s => letIn (holdExpiry k s)) s)

/-- HOST_LINK_WAIT_TIMEOUT: the port's waiting requests end UNREACHABLE, its waiting interrupts and messages are discarded,
and it is contained (R113). -/
def hostWaitTimeout (p : Nat) (s : State) : State :=
  match (s.leg? p).bind (·.hostWait) with
  | none => s
  | some t0 =>
    let s := (s.reach t0).modLeg p (fun l => { l with hostWait := none })
    let mine := fun (i : Nat) => ((s.item? i).map (fun x => x.port == p && holdEnded s i x)).getD false
    let ks := (s.bridge.trks.filter (fun e => decide (e.2.st = .wait) &&
      (match e.2.target, e.2.src with | .hostLink _, .leg i _ => mine i | _, _ => false))).map (·.1)
    let (s, ps) := ks.foldl (fun (x : State × List (Nat × Nat)) k =>
      let (s, ps) := completeTrk k (errAnswer .unreachable) x.1; (s, x.2 ++ ps)) (s, [])
    let gone := (s.bridge.items.filter (fun e => e.2.port == p && !e.2.released && holdEnded s e.1 e.2 &&
      (match e.2.body with | .intr _ | .note _ => true | _ => false))).map (·.1)
    let s := bridgeEvent 1 (homeBp p) (gone.foldl (fun s i => endItem i s) s)
    releasePort p (withContain (contain p 5 s, ps))

/-- R113: HOST_LINK_WAIT_TIMEOUT. -/
def execHostLinkWaitTimeout (port : Nat) (s : State) : Host.Outcome State Fault Refusal :=
  .next (whenCarries (fun s => letIn (hostWaitTimeout port s)) s)

/-! ## Containment commands, R153, R155, R156, R165 -/

/-- A write of 1 to BXE_CTL.FORCE_CONTAIN (R153): the bit clears when containment starts, and at once where the port is
contained already. -/
def forceContain (p : Nat) (s : State) : State := (contain p 7 s).wb (Reg.bxeCtl (legIndex s p)) 2 false

/-- R156: the release of a contained port, at once or when its last CONTAINED answer has been sent. -/
def startRelease (p : Nat) (s : State) : State :=
  if ((tget s.links p).map (·.contained)).getD false then tryRelease p (s.modLeg p (fun l => { l with releasing := true })) else s

/-- A write of 1 to BXE_CTL.RELEASE: for a port with no virtual bridge; the bit reads 1 until the release. -/
def releaseWrite (p : Nat) (s : State) : State :=
  let i := legIndex s p
  if portOwned s p || !((tget s.links p).map (·.contained)).getD false then s.wb (Reg.bxeCtl i) 3 false
  else startRelease p (s.wb (Reg.bxeCtl i) 3 true)

/-- R156: DPC_TRIGGER_CLEAR: the owning host clears DPC Trigger Status of its virtual bridge. -/
def execDpcTriggerClear (port : Nat) (s : State) : Host.Outcome State Fault Refusal :=
  .next (whenCarries (fun s => if portOwned s port then letIn (startRelease port s) else s) s)

/-- R153: DPC_SOFTWARE_TRIGGER. -/
def execDpcSoftwareTrigger (port : Nat) (s : State) : Host.Outcome State Fault Refusal :=
  .next (whenCarries (fun s => if portOwned s port then letIn (contain port 7 s) else s) s)

/-- CONTAINMENT_SIGNAL: after every item the port accepted before has been released or discarded, the containment is
signalled as the host has programmed DPC: by its interrupt, by ERR_COR, by both or by neither, or by ERR_FATAL when DPC is disabled
(R155). With no HOST port of the host up it is signalled to nobody (assumption 73). -/
def containSignal (p : Nat) (s : State) : State :=
  match s.leg? p with
  | none => s
  | some l =>
    match l.signal with
    | none => s
    | some m =>
      if itemsBefore s p m then s
      else
        let s := s.modLeg p (fun l => { l with signal := none })
        match (if portOwned s p then s.hostUpPort (portOwner s p) else none) with
        | none => s
        | some q =>
          if l.dpcEn = 0 then tlpToHost q 0 (devDeadline s p) none (.msg .errFatal (vbId s p)) s
          else
            let s := if l.dpcInt then s.emit (.dpcSignal q p l.dpcReason) else s
            if l.dpcErrCor then tlpToHost q 0 (devDeadline s p) none (.msg .errCor (vbId s p)) s else s

/-- R155: CONTAINMENT_SIGNAL. -/
def execContainmentSignal (port : Nat) (s : State) : Host.Outcome State Fault Refusal :=
  .next (whenCarries (containSignal port) s)

/-- INTX_DEASSERT_SEND: after the same items, the wires of the lost partner are deasserted upstream (R165). -/
def deassertSend (p : Nat) (s : State) : State :=
  match (s.leg? p).bind (·.deassert) with
  | none => s
  | some (m, _) =>
    if itemsBefore s p m then s
    else sendWires (portOwner s p) (s.modLeg p (fun l => { l with deassert := none, intxOut := 0 }))

/-- R165: INTX_DEASSERT_SEND. -/
def execIntxDeassertSend (port : Nat) (s : State) : Host.Outcome State Fault Refusal :=
  .next (whenCarries (deassertSend port) s)

/-! ## Events of CXL backing partners, R167-R170 -/

/-- LEGACY_CXL_EVENT: an error message of a backing-only partner is consumed and recorded; ERR_FATAL contains the port. An
event interrupt starts collection, or in host-assisted mode sets EVT_PENDING and posts a notice (R167-R169). -/
def cxlEvent (p : Nat) (e : CxlEvent) (s : State) : State :=
  if !legPort s p || !partnerBound s p then s
  else
    let i := legIndex s p
    match e with
    | .interrupt =>
      if portOwned s p then s
      else if s.assist 3 then (s.setEvent (Reg.bxeEvents i) 6).toFm (.eventNotice p)
      else s.modLeg p (fun l => match l.evtAt with | some _ => l | none => { l with evtAt := some s.now })
    | .err code =>
      if portOwned s p then s
      else
        let cor := decide (code = .errCor)
        let err : Bool := match code with | .errCor | .errNonfatal | .errFatal => true | _ => false
        if !err then s
        else
          let s := legRecord 0x28 (if cor then .corrected else .contained) p none 0 (s.setEvent (Reg.bxeEvents i) 5)
          if code = .errFatal then contain p 2 s else s

/-- R167: LEGACY_CXL_EVENT. -/
def execLegacyCxlEvent (port : Nat) (e : CxlEvent) (s : State) : Host.Outcome State Fault Refusal :=
  .next (whenCarries (fun s => letIn (cxlEvent port e s)) s)

/-- The pool extent and offset of a device physical address of a partner's logical device (R68). -/
def poolOfDpa (s : State) (p ld dpa : Nat) : Option (Nat × Nat) :=
  (s.tabs.backings.find? (fun e => e.2.typ == 1 && e.2.port == p && e.2.ld == ld && decide (e.2.dbase ≤ dpa / 2 ^ 28) &&
    decide (dpa / 2 ^ 28 < e.2.dbase + e.2.plen))).map (fun e => (e.2.pbase + dpa / 2 ^ 28 - e.2.dbase, dpa % 2 ^ 28))

/-- R77 the other way: the window offset of an extent slot and an offset in the extent. -/
def windowOffset (w : Win) (slot off : Nat) : Nat :=
  let ways := waysOf w.iw
  let g := 256 * 2 ^ w.ig
  slot / ways * (ways * 2 ^ 28) + (off / g * ways + slot % ways) * g + off % g

/-- Copy a partner's record into the pool view of the owning host of every window that names the extent, with the address
that R67 gives for that window (R168 step 3). -/
def copyEvent (p : Nat) (r : EvRec) (s : State) : State :=
  match r.dpa.bind (poolOfDpa s p r.ld) with
  | none => s
  | some (x, off) =>
    s.tabs.windows.foldl (fun s e =>
      (s.tabs.run e.2).zipIdx.foldl (fun s (y : Option Ext × Nat) =>
        match y.1 with
        | some ext =>
          if ext.st ≠ .absent && ext.names.contains x then
            viewEvent { host := e.2.host, sev := r.sev, typ := 4, code := r.code,
                        dpas := [viewDpa s.tabs e.2.host (e.2.hbase * 2 ^ 28 + windowOffset e.2 y.2 off)] } s
          else s
        | none => s) s) s

/-- EVENT_COLLECTION: the device reads a backing partner's event logs, copies each record to the pool views, sends each to
the fabric manager and clears them (R168). In host-assisted mode it does none of this (R169), and a steward gap holds it (R441). -/
def collectEvents (p : Nat) (rs : List EvRec) (s : State) : State :=
  if !legPort s p || !partnerBound s p || portOwned s p || s.assist 3 || s.inGap then s
  else
    let s := rs.foldl (fun s r => (copyEvent p r s).toFm (.partnerEvent p r)) (s.emit (.eventRecords p false))
    (s.emit (.eventRecords p true)).modLeg p (fun l => { l with evtAt := none, lastCollect := s.now })

/-- R168: EVENT_COLLECTION. -/
def execEventCollection (port : Nat) (rs : List EvRec) (s : State) : Host.Outcome State Fault Refusal :=
  .next (whenCarries (collectEvents port rs) s)

/-- R138: ISL_ERROR_MESSAGE: another Sirjo names a failed write of ours by its tag: the record of R137 goes to the
requester's pool view. -/
def execIslErrorMessage (port tag : Nat) (k : ErrKind) (s : State) : Host.Outcome State Fault Refusal :=
  .next (whenCarries (fun s =>
    match tget s.bridge.islDone tag with
    | some (h, a) => if s.role port == 4 then mediaEvent h a k s else s
    | none => s) s)

end Sys2Proof.Machine
end

