-- ==== Sys2Proof/Machine/Queue.lean ====
section
/-! DEFINITION. Message and job queues: cells, lists, commits, consumer commands, leases, notices, mirrored queues and resets
(R281-R316).
Assumption 52. -/
namespace Sys2Proof.Machine

/-! ## Configuration, R284 -/

/-- A queue configuration record. -/
structure QCfg where
  valid : Bool
  mirror : Bool
  home : Nat
  job : Bool
  consHost : Nat
  noticeEn : Bool
  noticeQ : Nat
  limit : Nat
  staleTmo : Nat
  leaseTmo : Nat
  page : Nat
  clusters : Nat
  deriving DecidableEq, Repr

/-- A queue configuration record from its two words. -/
def qcfgOf (w : List Word) : QCfg :=
  let a := w.getD 0 0#64
  let b := w.getD 1 0#64
  { valid := bitAt a 63, mirror := bitAt a 62, home := fld a 61 61, job := bitAt a 60, consHost := fld a 59 54,
    noticeEn := bitAt a 53, noticeQ := fld a 52 35, limit := fld a 27 0, staleTmo := fld b 63 48, leaseTmo := fld b 47 32,
    page := fld b 31 16, clusters := fld b 15 0 }

/-- A producer record: VALID, ENGINE, HOST, QUEUE and PAGE. -/
structure PCfg where
  valid : Bool
  engine : Bool
  host : Nat
  queue : Nat
  page : Nat
  deriving DecidableEq, Repr

/-- A producer record from its words. -/
def pcfgOf (w : List Word) : PCfg :=
  let a := w.getD 0 0#64
  { valid := bitAt a 63, engine := bitAt a 62, host := fld a 61 56, queue := fld a 55 38, page := fld (w.getD 1 0#64) 63 48 }

/-- The configuration of a queue, when it is configured. -/
def qcfg? (s : State) (q : Nat) : Option QCfg :=
  if q < s.tabs.qCount then
    match (tget s.tabs.queues q).map qcfgOf with
    | some c => if c.valid then some c else none
    | none => none
  else none

/-- A producer binding in use. -/
def pcfg? (s : State) (b : Nat) : Option PCfg :=
  match (tget s.tabs.queues (s.tabs.qCount + b)).map pcfgOf with
  | some c => if c.valid then some c else none
  | none => none

/-- Configured queues (QUEUE_STATUS.QUEUES). -/
def queueCount (s : State) : Nat :=
  (s.tabs.queues.filter (fun e => decide (e.1 < s.tabs.qCount) && (qcfgOf e.2).valid)).length

/-- R306: QUEUE_STATUS.TIMERS. -/
def qTimers (s : State) : Bool := decide (queueCount s ≤ 65536)

/-- The binding of a host's producer page (R289). -/
def bindOfPage (s : State) (h page : Nat) : Option Nat :=
  ((s.tabs.queues.find? (fun e => decide (s.tabs.qCount ≤ e.1) &&
    (let c := pcfgOf e.2; c.valid && c.host == h && c.page == page))).map (fun e => e.1 - s.tabs.qCount))

/-- The queue of a host's consumer page. -/
def queueOfPage (s : State) (h page : Nat) : Option Nat :=
  (s.tabs.queues.find? (fun e => decide (e.1 < s.tabs.qCount) &&
    (let c := qcfgOf e.2; c.valid && !c.job && c.consHost == h && c.page == page))).map (·.1)

/-- The device's own producer number (R308). -/
def deviceBind : Nat := 0x3FFFF

/-! ## The granary, R283 -/

/-- Cells of the granary. -/
def granaryCells (s : State) : Nat := s.tabs.granaryMib * 4096

/-- QUEUE_STATUS.FREE_CELLS. -/
def freeCells (s : State) : Nat := s.qu.freed.length + (granaryCells s - s.qu.nextCell)

/-- Allocate a data cell from the free list. -/
def takeCell (s : State) : Option Nat × State :=
  match s.qu.freed with
  | c :: r => (some c, { s with qu.freed := r })
  | [] =>
    if s.qu.nextCell < granaryCells s then (some s.qu.nextCell, { s with qu.nextCell := s.qu.nextCell + 1 }) else (none, s)

/-- Cells go back to the free list. -/
def giveCells (cs : List Nat) (s : State) : State := { s with qu.freed := cs ++ s.qu.freed }

/-- Cells of an item of a length. -/
def cellsFor (len : Nat) : Nat := (len + 16 + 247) / 248

/-- The cell of an item that holds a data word, and the 64-byte line of the item that does (R284). -/
def cellOfWord (i : Nat) : Nat := (16 + 8 * i) / 248
def lineOfWord (i : Nat) : Nat := 4 * cellOfWord i + (8 + (16 + 8 * i) % 248) / 64

/-- The link word of a cell, R284. -/
def linkWord (kind nextItem next : Nat) : Word := mkFld 55 54 kind ||| mkFld 53 27 nextItem ||| mkFld 26 0 next

/-- Word 1 of the item header, R284. -/
def headerWord (prod : Nat) : Word := mkFld 45 28 prod

/-- A cell of an item as it stands in the granary, R284: its link word and 31 words of the item's stream. -/
def cellWords (it : QItem) (nextItem i : Nat) : List Word :=
  let stream := it.commit :: headerWord it.prod :: it.data
  let next := it.cells.getD (i + 1) 0
  linkWord (if it.gap then 3 else if i = 0 then 1 else 2) (if i = 0 then nextItem else 0) next
    :: (List.range 31).map (fun k => stream.getD (31 * i + k) 0#64)

/-! ## Lists and descriptors, R284, R285 -/

/-- An empty list, and the descriptor of an empty queue. -/
def newList : QList := { items := [], rd := 0, mkd := 0 }
def newQueue : Queue :=
  { lists := [], gapState := 0, gapPrio := 0, cur := none, dropsHeld := 0, lease := none, stale := false, staleAt := none,
    lapsed := false, faulted := false }

/-- A queue, and a list of it. -/
def State.queue (s : State) (q : Nat) : Queue := tgetD s.qu.queues q newQueue
def Queue.list (x : Queue) (p : Nat) : QList := tgetD x.lists p newList

/-- Change a queue. -/
def State.modQueue (q : Nat) (f : Queue → Queue) (s : State) : State :=
  { s with qu.queues := tput newQueue s.qu.queues q (f (s.queue q)) }

/-- Change a list of a queue. -/
def Queue.modList (p : Nat) (f : QList → QList) (x : Queue) : Queue := { x with lists := tput newList x.lists p (f (x.list p)) }

/-- CELLS: cells of the queue's items, the gap cell excluded. -/
def Queue.cells (x : Queue) : Nat :=
  (x.lists.map (fun l => ((l.2.items.filter (fun i => !i.gap)).map (fun i => i.cells.length)).sum)).sum

/-- R285: the first unread item of a list. -/
def Queue.unread (x : Queue) (p : Nat) : Option QItem := (x.list p).items[(x.list p).rd]?

/-- The highest list with an unread item. -/
def Queue.firstList (x : Queue) : Option Nat := [3, 2, 1, 0].find? (fun p => (x.unread p).isSome)

/-- The current item. -/
def Queue.curItem (x : Queue) : Option QItem := x.cur.bind (fun p => x.unread p)

/-- Is some RD_p not 0? -/
def Queue.passedAny (x : Queue) : Bool := x.lists.any (fun l => decide (l.2.rd ≠ 0))

/-- Pointers of the descriptor: first cells of items, 0 for none. -/
def ptrOf (its : List QItem) (n : Nat) : Nat :=
  if n = 0 then 0 else ((its[n - 1]?).bind (fun i => i.cells.head?)).getD 0

/-- The 512-bit descriptor, R284. -/
def descriptor (s : State) (q : Nat) : BitVec 512 :=
  let x := s.queue q
  let ptrs := (List.range 4).foldl (fun a p =>
    let l := x.list p
    a + ptrOf l.items 1 * 2 ^ (27 * p) + ptrOf l.items l.items.length * 2 ^ (27 * (4 + p))
      + ptrOf l.items l.rd * 2 ^ (27 * (8 + p)) + ptrOf l.items l.mkd * 2 ^ (27 * (12 + p))) 0
  BitVec.ofNat 512 (ptrs + x.cells * 2 ^ 458 + x.dropsHeld * 2 ^ 486 + b2n x.stale * 2 ^ 502 + b2n x.lease.isSome * 2 ^ 503
    + x.cur.getD 0 * 2 ^ 504 + b2n x.cur.isSome * 2 ^ 506 + x.gapPrio * 2 ^ 507 + x.gapState * 2 ^ 509
    + b2n (qcfg? s q).isSome * 2 ^ 511)

/-! ## Records, events and counters -/

/-- A record of the queue unit: queue in bytes 0-2, binding or 0xFFFFFF in bytes 4-6. -/
def queueRecord (cls : Nat) (sev : Sev) (q : Nat) (bind : Option Nat) (s : State) : State :=
  s.raise cls sev .queue q (q + (bind.getD 0xFFFFFF) * 2 ^ 32)

/-- Was the last record of a kind less than 1 ms ago? -/
def recent (last : Option Nat) (s : State) : Bool := match last with | some t => decide (s.now < t + 1000000) | none => false

/-- R532: items and gap markers linked, and items passed. -/
def countLinked (q : Nat) (s : State) : State :=
  if s.cnt.frozen then s
  else { s with cnt.qDelivered := tput 0 s.cnt.qDelivered q ((tgetD s.cnt.qDelivered q 0 + 1) % 65536) }
def countPassed (q : Nat) (s : State) : State :=
  if s.cnt.frozen then s
  else { s with cnt.qPassed := tput 0 s.cnt.qPassed q ((tgetD s.cnt.qPassed q 0 + 1) % 32768) }

/-- R287: the queue becomes faulted. -/
def faultQueue (q : Nat) (s : State) : State :=
  if (s.queue q).faulted then s
  else queueRecord 0x61 .contained q none ((s.modQueue q (fun x => { x with faulted := true })).setEvent Reg.queueEvents 8)

/-- R286: a bad word or cell line was found. -/
def poisonFound (q : Nat) (bind : Option Nat) (s : State) : State :=
  queueRecord 0x60 .deferred q bind (s.setEvent Reg.queueEvents 6)

/-! ## Timers, R305, R306 -/

/-- The stale timer starts with an unread item, and stops when there is none. -/
def touchStale (q : Nat) (s : State) : State :=
  let on := qTimers s && ((qcfg? s q).map (fun c => decide (c.staleTmo ≠ 0))).getD false && (s.queue q).firstList.isSome
  s.modQueue q (fun x =>
    if !on then { x with staleAt := none }
    else if x.stale || x.staleAt.isSome then x
    else { x with staleAt := some s.now })

/-- A read of the consumer page or a command restarts the running lease timer and the stale timer. -/
def consumerTouch (q : Nat) (s : State) : State :=
  touchStale q (s.modQueue q (fun x =>
    { x with lease := x.lease.map (fun _ => s.now), stale := false, staleAt := none }))

/-! ## Notices, R308, R309 -/

/-- A notice in host-assisted mode: posted, or discarded with the mailbox full. -/
def postNotice (q kind : Nat) (s : State) : State :=
  if s.qu.notices.length < 256 then
    { s with qu.notices := s.qu.notices ++ [mkFld 63 63 1 ||| mkFld 62 60 kind ||| mkFld 59 42 q ||| mkFld 41 0 s.now] }
  else
    let s := { s with qu.noticeLost := true }.setEvent Reg.queueEvents 7
    let s := s.wf Reg.noticeLost 31 0 (satAdd 32 (s.rf Reg.noticeLost 31 0) 1)
    if recent s.qu.lastLost s then s
    else queueRecord 0x64 .corrected q none { s with qu.lastLost := some s.now }

/-- An event of a queue calls for a notice when its NOTICE_EN is 1: posted in host-assisted mode, else an operation on the
queue NOTICE_Q names. -/
def notify (q kind : Nat) (s : State) : State :=
  match qcfg? s q with
  | none => s
  | some c =>
    if !c.noticeEn then s
    else if s.assist 7 then postNotice q kind s
    else { s with qu.waits := s.qu.waits ++ [{ q := c.noticeQ, op := .notice q kind s.now, dest := .none }] }

/-! ## The gap marker, R298, R299, R303 -/

/-- Words 1 and 2 of the gap marker's data: SEQ and binding of a dropped item. -/
def dropWord (seq bind : Nat) : Word := mkFld 63 32 seq ||| mkFld 17 0 bind

/-- Link an item or the gap marker after TAIL_p. -/
def linkItem (q p : Nat) (it : QItem) (s : State) : State :=
  touchStale q (countLinked q (s.modQueue q (fun x => x.modList p (fun l => { l with items := l.items ++ [it] }))))

/-- The gap marker of a queue with its three data words. -/
def gapItem (q : Nat) (count first last : Word) : QItem :=
  { gap := true, cells := [q + 1], commit := 0#64, prod := deviceBind, data := [count, first, last], poison := [] }

/-- Change the gap marker in place. -/
def modGap (f : QItem → QItem) (x : Queue) : Queue :=
  { x with lists := tmap (fun _ l => { l with items := l.items.map (fun i => if i.gap then f i else i) }) x.lists }

/-- R298: a dropped item is recorded by the state of the gap cell. -/
def recordDrop (q seq bind prio : Nat) (s : State) : State :=
  let w := dropWord seq bind
  match (s.queue q).gapState with
  | 0 =>
    let s := linkItem q prio (gapItem q 1#64 w w) (s.modQueue q (fun x => { x with gapState := 1 }))
    notify q 1 s
  | 1 =>
    s.modQueue q (modGap (fun i => { i with data := [i.data.getD 0 0#64 + 1#64, i.data.getD 1 0#64, w] }))
  | _ => s.modQueue q (fun x => { x with dropsHeld := satAdd 16 x.dropsHeld 1, gapPrio := prio })

/-- R299: the gap cell was freed while items were dropped behind it. -/
def relinkGap (q : Nat) (s : State) : State :=
  let x := s.queue q
  if x.gapState = 0 ∧ x.dropsHeld ≠ 0 then
    linkItem q x.gapPrio (gapItem q (BitVec.ofNat 64 x.dropsHeld) (mkFld 31 31 1) (mkFld 31 31 1))
      (s.modQueue q (fun x => { x with dropsHeld := 0, gapState := 1 }))
  else s

/-! ## Selecting and the consumer commands, R300-R303 -/

/-- R300: select the current item when none is. -/
def selectItem (q : Nat) (s : State) : State :=
  s.modQueue q (fun x => if x.cur.isSome then x else { x with cur := x.firstList })

/-- NEXT with an item current in list `p`: RD_p names it; the lease timer starts when every RD was 0 (R305). -/
def passCurrent (q p : Nat) (s : State) : State :=
  match (s.queue q).unread p with
  | none => s.modQueue q (fun x => { x with cur := none })
  | some it =>
    let s := s.modQueue q (fun x =>
      { x.modList p (fun l => { l with rd := l.rd + 1 }) with
        cur := none, gapState := if it.gap then 2 else x.gapState, lease := if x.passedAny then x.lease else some s.now })
    touchStale q (countPassed q s)

/-- NEXT, R301. -/
def cmdNext (q : Nat) (s : State) : State :=
  let s := selectItem q s
  match (s.queue q).cur with
  | some p => passCurrent q p s
  | none => s

/-- Is the gap marker among the passed items? -/
def gapPassed (x : Queue) : Bool := x.lists.any (fun l => (l.2.items.take l.2.rd).any QItem.gap)

/-- MARK, R301. -/
def cmdMark (q : Nat) (s : State) : State :=
  s.modQueue q (fun x => { x with lists := tmap (fun _ l => { l with mkd := l.rd }) x.lists })

/-- REWIND, R301, R303: a gap marker that is unread again is PENDING again. -/
def cmdRewind (q : Nat) (s : State) : State :=
  touchStale q (s.modQueue q (fun x =>
    let y := { x with lists := tmap (fun _ l => { l with rd := l.mkd }) x.lists, cur := none }
    { y with gapState := if x.gapState = 2 ∧ !gapPassed y then 1 else x.gapState }))

/-- RELEASE, R301-R303: the passed items' cells are freed. -/
def cmdRelease (q : Nat) (s : State) : State :=
  let x := s.queue q
  let gone := (x.lists.map (fun l => l.2.items.take l.2.rd)).flatten
  let s := giveCells ((gone.filter (fun i => !i.gap)).map QItem.cells).flatten s
  let s := s.count 0x10B0 48 (gone.filter (fun i => !i.gap)).length
  let s := s.modQueue q (fun x =>
    { x with
      lists := tfilter (fun _ l => decide (l ≠ newList))
        (tmap (fun _ l => { l with items := l.items.drop l.rd, rd := 0, mkd := 0 }) x.lists),
      gapState := if gone.any QItem.gap then 0 else x.gapState, lease := none, lapsed := false })
  touchStale q (relinkGap q s)

/-- R300: RELEASE and the lease's expiry end the selection of the current item. -/
def clearCur (q : Nat) (s : State) : State := s.modQueue q (fun x => { x with cur := none })

/-- A consumer command. -/
def consumerCmd (q : Nat) (c : QCmd) (s : State) : State :=
  match c with
  | .next => cmdNext q s
  | .mark => cmdMark q s
  | .rewind => cmdRewind q s
  | .release => clearCur q (cmdRelease q s)

/-- LEASE_EXPIRY acts as REWIND followed by RELEASE (R305). -/
def leaseLapse (q : Nat) (s : State) : State :=
  let s := clearCur q (cmdRelease q (cmdRewind q s))
  let s := (s.modQueue q (fun x => { x with lapsed := true })).setEvent Reg.queueEvents 5
  notify q 4 (queueRecord 0x62 .corrected q none s)

/-! ## Open items, R291-R293 -/

/-- Die of a queue's half (R282). -/
def queueDie (q : Nat) : Nat := q % 2

/-- Assembly contexts in use on a die. -/
def contextsOf (s : State) (die : Nat) : Nat :=
  (s.qu.opens.filter (fun e => e.2.ctx && ((pcfg? s e.1).map (fun c => queueDie c.queue == die)).getD false)).length

/-- Close the open item of a binding: its cells and context are freed. -/
def closeOpen (b : Nat) (s : State) : State :=
  match tget s.qu.opens b with
  | none => s
  | some o => giveCells (o.cells.map (·.2)) { s with qu.opens := terase s.qu.opens b }

/-- Open an item on a page: it takes an assembly context, or is no-room (R291). Its timer starts (R293). -/
def openItem (b q : Nat) (s : State) : State :=
  if (tget s.qu.opens b).isSome then s
  else
    let room := decide (contextsOf s (queueDie q) < 2048)
    let o : OpenItem :=
      { words := [], poisoned := [], cells := [], ctx := room, noRoom := !room, badWrite := false,
        deadline := s.now + s.rf Reg.queueCtl 47 32 * 1000 }
    { s with qu.opens := tset s.qu.opens b o }

/-- One word of an open item: its cell is allocated when it is the first to reach it; with no free cell the item is no-room
and its data is discarded from then on. That the word was written still counts (row 4 of R294 comes before row 6). -/
def writeWord (b i : Nat) (v : Word) (poison : Bool) (s : State) : State :=
  match tget s.qu.opens b with
  | none => s
  | some o =>
    let (o, s) :=
      if o.noRoom || (tget o.cells (cellOfWord i)).isSome then (o, s)
      else match takeCell s with
        | (some c, s) => ({ o with cells := tset o.cells (cellOfWord i) c }, s)
        | (none, s) => ({ o with noRoom := true }, s)
    let o := { o with
      words := tset o.words i (if o.noRoom then 0#64 else v),
      poisoned := if poison && !o.poisoned.contains (lineOfWord i) then o.poisoned ++ [lineOfWord i] else o.poisoned }
    { s with qu.opens := tset s.qu.opens b o }

/-- A write to ITEM of a binding's page. -/
def itemWrite (b q : Nat) (ws : List (Nat × Word)) (part poison : Bool) (s : State) : State :=
  let s := openItem b q s
  let s := ws.foldl (fun s w => writeWord b w.1 w.2 poison s) s
  let s := if poison then poisonFound q (some b) s else s
  if part then { s with qu.opens := tmod s.qu.opens b (fun o => { o with badWrite := true }) } else s

/-! ## Commits, R294-R298 -/

/-- NEXT_SEQ and LAST_RESULT of a binding. -/
def prodState (s : State) (b : Nat) : Nat × Nat := tgetD s.qu.prods b (0, 0)

/-- Set them. -/
def setProd (b seq res : Nat) (s : State) : State := { s with qu.prods := tput (0, 0) s.qu.prods b (seq % 2 ^ 32, res) }

/-- The value of PROD_STATUS, and of a Swap's answer. -/
def prodWord (seq : Nat) (open_ dup : Bool) (res : Nat) : Word :=
  mkFld 63 32 seq ||| mkFld 5 5 (b2n open_) ||| mkFld 4 4 (b2n dup) ||| mkFld 3 0 res

/-- LENGTH, PRIO and SEQ of a commit word. -/
def commitLen (w : Word) : Nat := fld w 14 0
def commitPrio (w : Word) : Nat := fld w 31 30
def commitSeq (w : Word) : Nat := fld w 63 32

/-- The words of an item and whether each of them is written: a QPUSH brings them all. -/
def itemWords (s : State) (b : Nat) (data : Option (List Word)) : Tbl Word :=
  match data with
  | some d => (List.range d.length).map (fun i => (i, d.getD i 0#64))
  | none => ((tget s.qu.opens b).map (·.words)).getD []

/-- The row of R294 that applies: 1 to 8. -/
def commitRow (s : State) (q b : Nat) (w : Word) (data : Option (List Word)) : Nat :=
  let n := (prodState s b).1
  let behind := (n + 2 ^ 32 - commitSeq w) % 2 ^ 32
  let len := commitLen w
  let ws := itemWords s b data
  let o := tget s.qu.opens b
  let lim := ((qcfg? s q).map (·.limit)).getD 0
  if behind = 1 then 1
  else if 1 ≤ behind ∧ behind ≤ 2 ^ 31 then 2
  else if behind ≠ 0 then 3
  else if len = 0 ∨ 16384 < len ∨ (List.range ((len + 7) / 8)).any (fun i => (tget ws i).isNone) then 4
  else if data.isNone ∧ (o.map (·.badWrite)).getD false then 5
  else if (data.isNone ∧ (o.map (·.noRoom)).getD false) ∨ (data.isSome ∧ freeCells s < cellsFor len) then 6
  else if (s.queue q).cells + cellsFor len > lim then 7
  else 8

/-- Result code of a row 2 to 8. -/
def rowResult (row : Nat) : Nat :=
  match row with
  | 2 => 4 | 3 => 7 | 4 => 5 | 5 => 6 | 6 => 3 | 7 => 2 | _ => 1

/-- The data words of an item of a length, the bytes beyond it zero (R296). -/
def paddedWords (len : Nat) (ws : Tbl Word) : List Word :=
  (List.range ((len + 7) / 8)).map (fun i =>
    let v := tgetD ws i 0#64
    if 8 * i + 8 ≤ len then v else BitVec.ofNat 64 (v.toNat % 2 ^ (8 * (len - 8 * i))))

/-- Take `n` data cells. -/
def takeCells : Nat → State → List Nat × State
  | 0, s => ([], s)
  | n + 1, s =>
    match takeCell s with
    | (some c, s) => let (r, s) := takeCells n s; (c :: r, s)
    | (none, s) => ([], s)

/-- A binding's host, charged with its commits and drops. -/
def bindHost (s : State) (b : Nat) : Option Nat := (pcfg? s b).map (·.host)

/-- Row 8: the item is linked after TAIL_PRIO of its queue; the cells of the open item are kept, those beyond its LENGTH
freed (R295, R296). -/
def deliver (q b : Nat) (w : Word) (data : Option (List Word)) (s : State) : State :=
  let n := cellsFor (commitLen w)
  let ws := itemWords s b data
  let o := tget s.qu.opens b
  let (cells, s) := match data, o with
    | none, some o =>
      let keep := (tfilter (fun i _ => decide (i < n)) o.cells).map Prod.snd
      let rest := (tfilter (fun i _ => decide (n ≤ i)) o.cells).map Prod.snd
      (keep, giveCells rest { s with qu.opens := terase s.qu.opens b })
    | _, _ => takeCells n s
  let it : QItem :=
    { gap := false, cells, commit := w, prod := b, data := paddedWords (commitLen w) ws,
      poison := match data, o with | none, some o => o.poisoned.filter (fun l => decide (l < 4 * n)) | _, _ => [] }
  linkItem q (commitPrio w) it s

/-- The end of a delivered commit: the binding's NEXT_SEQ, the counters. -/
def delivered (b : Nat) (s : State) : State :=
  let s := setProd b ((prodState s b).1 + 1) 1 (s.count 0x10A0 48 1)
  match bindHost s b with
  | some h => s.count (cntHost h 0x68) 48 1
  | none => s

/-- Rows 6 and 7: the item is dropped as a whole (R298). -/
def dropItemOf (q b : Nat) (w : Word) (res : Nat) (s : State) : State :=
  let s := setProd b ((prodState s b).1 + 1) res (s.count 0x10A8 48 1)
  let s := match bindHost s b with
    | some h => s.count (cntHost h 0x70) 48 1
    | none => s
  let s := s.setEvent Reg.queueEvents (if res = 2 then 0 else 1)
  let s := if res = 3 && !recent s.qu.lastNoCell s then
      queueRecord 0x63 .corrected q (some b) { s with qu.lastNoCell := some s.now } else s
  let s := recordDrop q (commitSeq w) b (commitPrio w) s
  if res = 3 then notify q 2 s else s

/-! ## Notices as items, R308 -/

/-- The commit word and the data of a notice. -/
def noticeCommit (seq : Nat) : Word := mkFld 63 32 seq ||| mkFld 31 30 3 ||| mkFld 14 0 16
def noticeData (about kind dtb : Nat) : List Word := [mkFld 31 0 about ||| mkFld 39 32 kind, BitVec.ofNat 64 dtb]

/-- A notice follows rows 7 and 8 of R294, and R298; a notice that finds no free cell is dropped in the same way (the spec
names no row for it; DEDUCED, assumption 28). Its SEQ is the device's count, which steps either way. -/
def pushNotice (q about kind dtb : Nat) (s : State) : State :=
  let seq := (prodState s deviceBind).1
  let w := noticeCommit seq
  let s := { s with qu.prods := tput (0, 0) s.qu.prods deviceBind ((seq + 1) % 2 ^ 32, 0) }
  match qcfg? s q with
  | none => s
  | some c =>
    if (s.queue q).cells + 1 > c.limit || freeCells s = 0 || (s.queue q).faulted then
      (if (s.queue q).faulted then s else recordDrop q seq deviceBind 3 s)
    else deliver q deviceBind w (some (noticeData about kind dtb)) s

/-! ## Reading, R300 -/

/-- HEAD_0 and HEAD_1 of an item. -/
def head0Of (it : QItem) (prio : Nat) : Word :=
  mkFld 63 63 1 ||| mkFld 62 62 (b2n it.gap) ||| mkFld 61 61 (b2n (!it.poison.isEmpty)) ||| mkFld 60 59 prio
    ||| mkFld 58 44 (if it.gap then 24 else commitLen it.commit) ||| mkFld 43 26 it.prod
def head1Of (it : QItem) : Word := mkFld 31 0 (if it.gap then 0 else commitSeq it.commit)

/-- CONS_STATUS. -/
def consStatus (x : Queue) : Word :=
  let bits := fun (f : Nat → Bool) => (List.range 4).foldl (fun a p => if f p then a + 2 ^ p else a) 0
  mkFld 63 36 x.cells ||| mkFld 35 20 x.dropsHeld ||| mkFld 19 18 x.gapState
    ||| mkFld 15 12 (bits (fun p => (x.unread p).isSome)) ||| mkFld 11 8 (bits (fun p => decide ((x.list p).rd ≠ 0)))
    ||| mkFld 2 2 (b2n x.faulted) ||| mkFld 1 1 (b2n x.stale) ||| mkFld 0 0 (b2n x.lapsed)

/-- The 8-byte word at a consumer page offset. -/
def consWord (x : Queue) (status : Word) (off : Nat) : Word :=
  let it := if x.faulted then none else x.curItem
  if off < 0x4000 then ((it.map (fun i => i.data.getD (off / 8) 0#64))).getD 0#64
  else if off = 0x4000 then (it.map (fun i => head0Of i (x.cur.getD 0))).getD 0#64
  else if off = 0x4008 then (it.map head1Of).getD 0#64
  else if off = 0x4018 then status
  else 0#64

/-- A read of the consumer page: it selects when it touches HEAD_0, HEAD_1 or ITEM, restarts the timers, and is poisoned when
it covers a poisoned line of the item. -/
def consRead (q off dws : Nat) (s : State) : QAns × State :=
  let status := consStatus (s.queue q)
  let s := if off < 0x4010 && !(s.queue q).faulted then selectItem q s else s
  let s := consumerTouch q s
  let x := s.queue q
  let bytes := (List.range (4 * dws)).map (fun k => byteOf (consWord x status ((off + k) / 8 * 8)) ((off + k) % 8))
  let ep := match (if x.faulted then none else x.curItem) with
    | some it => (List.range (4 * dws)).any (fun k => decide (off + k < 0x4000) && it.poison.contains (lineOfWord ((off + k) / 8)))
    | none => false
  (.data bytes ep, s)

/-! ## Mirrored queues, R311 -/

/-- Does an operation on the queue go to the mirror first? -/
def queueMirrored (s : State) (q : Nat) : Bool := ((qcfg? s q).map (·.mirror)).getD false && mirrorOn s

/-- Does the queue's round hold as many items as it may (R325)? -/
def roundFull (s : State) (q : Nat) : Bool :=
  match tget s.qu.rounds q with | some r => decide (r.limit ≤ r.count) | none => false

/-- Has the lease of a queue run out? A command that was processed before its expiry stopped or restarted it (R305, R6). -/
def leaseDue (s : State) (q : Nat) : Bool :=
  match (s.queue q).lease, qcfg? s q with
  | some t, some c => decide (t + c.leaseTmo * 1000000 ≤ s.now)
  | _, _ => false

/-- Has the assembly timer of a binding's open item run out? A commit processed before its expiry stopped it (R293). -/
def openDue (s : State) (b : Nat) : Bool := ((tget s.qu.opens b).map (fun o => decide (o.deadline ≤ s.now))).getD false

/-- What an operation sends to the mirror: nothing when it changes no queue state. -/
def mirrorOpOf (s : State) (q : Nat) (op : QOp) : Option QMirOp :=
  if (s.queue q).faulted then (match op with | .reset => some .reset | _ => none)
  else match op with
    | .commit b w d =>
      (match commitRow s q b w d with
      | 8 => some (.deliver b w (paddedWords (commitLen w) (itemWords s b d)))
      | 6 => some (.drop b w 3)
      | 7 => some (.drop b w 2)
      | _ => none)
    | .notice a k t =>
      let w := noticeCommit (prodState s deviceBind).1
      if (s.queue q).cells + 1 > ((qcfg? s q).map (·.limit)).getD 0 || freeCells s = 0 then some (.drop deviceBind w 2)
      else some (.deliver deviceBind w (noticeData a k t))
    | .select => if roundFull s q then none else ((s.queue q).cur.orElse (fun _ => (s.queue q).firstList)).map QMirOp.pass
    | .cmd .next | .pop =>
      ((s.queue q).cur.orElse (fun _ => (s.queue q).firstList)).map QMirOp.pass
    | .cmd c => some (.cmd c)
    | .roundEnd => some (.cmd (if ((tget s.qu.rounds q).map (·.rewind)).getD false then .rewind else .release))
    | .lease => if leaseDue s q then some .lease else none
    | .reset => some .reset
    | .write .. | .status _ | .read .. | .abandon _ => none

/-! ## Answers -/

/-- The answer of a queue operation goes to whoever sent it. -/
def queueReply (dest : QTo) (a : QAns) (s : State) : State :=
  match dest with
  | .none => s
  | .eng n =>
    let waits := fun (g : Eng) => (match g.wait with | .queue m _ _ _ => m == n | _ => false)
      || (match g.job with | some j => decide (j.step = .selecting) && j.ask == n | none => false)
    if s.mill.engs.any (fun e => waits e.2) then { s with mill.answers := s.mill.answers ++ [(n, a)] } else s
  | .twin id => s.emit (.twinQueueAns id a)
  | .host p reqId tag lower count deadline =>
    let cpl := fun (st : CplStatus) (d : List Byte) (ep : Bool) =>
      tlpToHost p 2 deadline none (.cpl st (Config.viewId p) reqId tag count (lower % 128) d ep) s
    match a with
    | .value v => cpl .sc (((wordBytes v).drop (lower % 8)).take count) false
    | .data bs ep => cpl .sc bs ep
    | .error k => cpl (cplStatusOf k false false) [] false
    | .item .. | .empty | .done => s

/-! ## One operation, R282 -/

/-- Close the items open on the queue's producer pages as R293 does. -/
def abandonItem (b : Nat) (s : State) : State :=
  match tget s.qu.opens b with
  | none => s
  | some _ =>
    let s := closeOpen b s
    (setProd b (prodState s b).1 8 s).setEvent Reg.queueEvents 2

/-- R316, steps 1 to 4. -/
def resetQueue (q : Nat) (s : State) : State :=
  let bs := (s.qu.opens.filter (fun e => ((pcfg? s e.1).map (fun c => c.queue == q)).getD false)).map (·.1)
  let s := bs.foldl (fun s b => abandonItem b s) s
  let its := ((s.queue q).lists.map (fun l => l.2.items)).flatten
  let s := giveCells ((its.filter (fun i => !i.gap)).map QItem.cells).flatten s
  { s with qu.queues := terase s.qu.queues q }.unisolate .queue q

/-- An item as the queue unit hands it to an engine (R352) or a cluster (R327). -/
def itemAns (it : QItem) (prio : Nat) : QAns :=
  .item (head0Of it prio) (head1Of it) it.data it.commit it.prod it.gap (!it.poison.isEmpty)

/-- The item that NEXT would pass is answered and passed. -/
def popItem (q : Nat) (s : State) : QAns × State :=
  let s := selectItem q s
  match (s.queue q).cur, (s.queue q).curItem with
  | some p, some it => (itemAns it p, passCurrent q p s)
  | _, _ => (.empty, s)

/-- A new item of the round (R325): a round opens with the first item passed since the last RELEASE. -/
def joinRound (q : Nat) (s : State) : State :=
  let r := (tget s.qu.rounds q).getD
    { limit := s.rf Reg.millCtl 14 8, count := 0, ended := 0, rewind := false, refreshAt := s.now + 1000000 }
  { s with qu.rounds := tset s.qu.rounds q { r with count := r.count + 1 } }

/-- Perform an operation that may proceed; the flag says that a commit's cells are still to be accepted (R295). -/
def performOp (q : Nat) (op : QOp) (dest : QTo) (s : State) : Bool × State :=
  let x := s.queue q
  match op with
  | .write b ws part poison => (false, itemWrite b q ws part poison s)
  | .commit b w d =>
    let (n, res) := prodState s b
    if x.faulted then
      (false, queueReply dest (.value (prodWord n false false 3)) (if d.isNone then closeOpen b s else s))
    else match commitRow s q b w d with
      | 1 =>
        let s := (if d.isNone then closeOpen b s else s).setEvent Reg.queueEvents 3
        (false, queueReply dest (.value (prodWord n false true res)) s)
      | 2 =>
        let s := (if d.isNone then closeOpen b s else s).setEvent Reg.queueEvents 3
        (false, queueReply dest (.value (prodWord n false false 4)) s)
      | 6 =>
        let s := dropItemOf q b w 3 (if d.isNone then closeOpen b s else s)
        (false, queueReply dest (.value (prodWord ((n + 1) % 2 ^ 32) false false 3)) s)
      | 7 =>
        let s := dropItemOf q b w 2 (if d.isNone then closeOpen b s else s)
        (false, queueReply dest (.value (prodWord ((n + 1) % 2 ^ 32) false false 2)) s)
      | 8 => (true, s)
      | r =>
        let s := (if d.isNone then closeOpen b s else s).setEvent Reg.queueEvents 2
        (false, queueReply dest (.value (prodWord n false false (rowResult r))) s)
  | .status b =>
    let (n, res) := prodState s b
    (false, queueReply dest (.value (prodWord n (tget s.qu.opens b).isSome false res)) s)
  | .read off dws => let (a, s) := consRead q off dws s; (false, queueReply dest a s)
  | .cmd c => (false, queueReply dest .done (if x.faulted then s else consumerTouch q (consumerCmd q c s)))
  | .pop =>
    if x.faulted then (false, queueReply dest .empty s)
    else let (a, s) := popItem q s; (false, queueReply dest a (consumerTouch q s))
  | .select =>
    if x.faulted || roundFull s q then (false, queueReply dest .empty s)
    else
      let (a, s) := popItem q s
      (false, queueReply dest a (consumerTouch q (match a with | .item .. => joinRound q s | _ => s)))
  | .roundEnd =>
    let s' := { s with qu.rounds := terase s.qu.rounds q }
    if x.faulted then (false, s')
    else (false, consumerTouch q
      (consumerCmd q (if ((tget s.qu.rounds q).map (·.rewind)).getD false then .rewind else .release) s'))
  | .abandon b => (false, if openDue s b then abandonItem b s else s)
  | .lease => (false, if x.faulted || !leaseDue s q then s else leaseLapse q s)
  | .notice a k t => (false, pushNotice q a k t s)
  | .reset => (true, resetQueue q s)

/-- Run an operation on an idle queue: a change of a mirrored queue goes to the mirror first. -/
def startOp (q : Nat) (op : QOp) (dest : QTo) (s : State) : State :=
  match (if queueMirrored s q then mirrorOpOf s q op else none) with
  | some m =>
    let s := claimSet (((qcfg? s q).map QCfg.home).getD 0) s
    { s with
      home.mirTag := s.home.mirTag + 1,
      qu.busy := tset s.qu.busy q { act := .mirror s.home.mirTag, op, dest } }.emit (.twinQueueOp s.home.mirTag q m)
  | none =>
    let s := match qcfg? s q with
      | some c =>
        if c.mirror && s.pair.present then
          let s := claimSet c.home s
          if (mirrorOpOf s q op).isSome then peerStale c.home s else s
        else s
      | none => s
    let (more, s) := performOp q op dest s
    if more then
      { s with qu.busy := tset s.qu.busy q { act := (match op with | .reset => .reset | _ => .cells), op, dest } }
    else s

/-- Does a queue's set wait for its move (R467), or its messages for the plane of their queue number, which injects nothing while it
recovers (R250, R255, R288)? -/
def queueHeld (s : State) (q : Nat) : Bool :=
  decide (planeSt s (q % 24) = .stopped) ||
    (match qcfg? s q with | some c => c.mirror && setWaits s c.home | none => false)

/-- Run what waits on queues that are idle, oldest first. The fuel bounds the operations. -/
def pumpQueues : Nat → State → State
  | 0, s => s
  | n + 1, s =>
    match s.qu.waits.findIdx? (fun w => (tget s.qu.busy w.q).isNone && !queueHeld s w.q) with
    | none => s
    | some i =>
      match s.qu.waits[i]? with
      | none => s
      | some w => pumpQueues n (startOp w.q w.op w.dest { s with qu.waits := dropAt s.qu.waits i })

/-- Operations that one command can set off: at most one a queue beyond those that wait. -/
def pumpAll (s : State) : State := pumpQueues (s.qu.waits.length + 262144) s

/-- An operation reaches its half: it waits behind those before it on its queue (R282). -/
def submitOp (q : Nat) (op : QOp) (dest : QTo) (s : State) : State :=
  pumpAll { s with qu.waits := s.qu.waits ++ [{ q, op, dest }] }

/-- R255: PLANE_RECOVERY_RESYNC: injection resumes, and the queue messages that waited for the plane go on. -/
def execPlaneRecoveryResync (p : Nat) (s : State) : Host.Outcome State Fault Refusal :=
  .next (whenCarries (fun s => pumpAll (planeResync p s)) s)

/-- Where a queue is served (R28, R311, R450). -/
def queueServed (s : State) (q : Nat) : Option Bool :=
  match qcfg? s q with
  | some c => homeServed s c.mirror c.home
  | none => some false

/-- An operation goes to the member that serves the queue; an offline queue's is answered with its error (R290). -/
def routeOp (q : Nat) (op : QOp) (dest : QTo) (s : State) : State :=
  match queueServed s q with
  | none => queueReply dest (.error .offline) s
  | some false => submitOp q op dest s
  | some true =>
    let id := s.home.mirTag
    let s := { s with
      home.mirTag := id + 1, qu.fwd := match dest with | .none => s.qu.fwd | _ => tset s.qu.fwd id (q, op, dest) }
    s.emit (.twinQueue id q op)

/-! ## BAR 4, R288-R290 -/

/-- A page of the queue window: the producer or the consumer page, its index and the offset in it. The BAR is 4 GiB, so that
its offset is the low 32 bits of the host-side address. -/
def pageOf (addr : Nat) : Bool × Nat × Nat :=
  let off := addr % 2 ^ 32
  if off < 0x80000000 then (true, off / 0x8000, off % 0x8000) else (false, (off - 0x80000000) / 0x8000, off % 0x8000)

/-- R289: a violation of type QUEUE_RIGHTS. -/
def queueViolation (p addr reqId : Nat) (s : State) : State :=
  s.violation
    { dtb := 0, typ := 5, addrKind := 1, addr := addr % 2 ^ 52, reqKind := 2, host := portHost s p, port := p, engine := 0, reqId,
      contrib := 0, vseq := 0, op := 4, object := (pageOf addr).2.1 }

/-- Log an error in the AER capability of a host's pool view (codes of `Leg.aer`). -/
def viewAerLog (h code : Nat) (s : State) : State :=
  let l := tgetD s.bridge.viewAer h []
  if l.contains code then s else { s with bridge.viewAer := tset s.bridge.viewAer h (l ++ [code]) }

/-- Which bytes of a write are enabled. -/
def enabledBytes (off fbe lbe : Nat) (data : List Byte) : List (Nat × Byte) :=
  (List.range data.length).filterMap (fun k =>
    let be := if k < 4 then fbe / 2 ^ k else if k + 4 ≥ data.length then lbe / 2 ^ (k + 4 - data.length) else 1
    if be % 2 = 1 then some (off + k, data.getD k 0#8) else none)

/-- The words that a write covers whole, and whether it covers one in part (R292). -/
def wholeWords (bs : List (Nat × Byte)) : List (Nat × Word) × Bool :=
  let idx := (bs.map (fun b => b.1 / 8)).eraseDups
  let whole := fun (i : Nat) => decide ((bs.filter (fun b => b.1 / 8 == i)).length = 8)
  ((idx.filter whole).map (fun i =>
      (i, BitVec.ofNat 64 (leNat ((List.range 8).map (fun k => ((bs.find? (fun b => b.1 == 8 * i + k)).map (·.2)).getD 0#8))))),
    idx.any (fun i => !whole i))

/-- The command of a CMD word: none for a reserved OP. -/
def cmdOf (w : Word) : Option QCmd :=
  match fld w 2 0 with
  | 1 => some .next | 2 => some .mark | 3 => some .rewind | 4 => some .release | _ => none

/-- What a BAR 4 request asks of which queue; none: it breaks R289. A reserved OP asks nothing. -/
def bar4Op (s : State) (h : Nat) (t : Bar4) : Option (Nat × Option QOp) :=
  match t with
  | .mwr off fbe lbe data ep =>
    let (prod, i, o) := pageOf off
    let bs := enabledBytes o fbe lbe data
    let word := BitVec.ofNat 64 (leNat data)
    let full := decide (data.length = 8) && decide (bs.length = 8)
    if prod then
      match bindOfPage s h i with
      | none => none
      | some b =>
        let q := ((pcfg? s b).map (·.queue)).getD 0
        if o + data.length ≤ 0x4000 then
          let (ws, part) := wholeWords bs
          some (q, some (.write b ws part ep))
        else if o = 0x4000 ∧ full then some (q, some (.commit b word none))
        else none
    else match queueOfPage s h i with
      | none => none
      | some q => if o = 0x4010 ∧ full then some (q, (cmdOf word).map QOp.cmd) else none
  | .mrd off dws =>
    let (prod, i, o) := pageOf off
    if prod then
      match bindOfPage s h i with
      | none => none
      | some b =>
        if 0x4008 ≤ o ∧ o + 4 * dws ≤ 0x4010 then some (((pcfg? s b).map (·.queue)).getD 0, some (.status b)) else none
    else match queueOfPage s h i with
      | none => none
      | some q => if o + 4 * dws ≤ 0x4010 ∨ (0x4018 ≤ o ∧ o + 4 * dws ≤ 0x4020) then some (q, some (.read o dws)) else none
  | .atom off op =>
    let (prod, i, o) := pageOf off
    if prod ∧ o = 0x4000 ∧ op.kind = .swap ∧ op.size = 8 then
      (bindOfPage s h i).map (fun b => (((pcfg? s b).map (·.queue)).getD 0, some (.commit b (BitVec.ofNat 64 op.a) none)))
    else none

/-- The offset of a BAR 4 request, its payload, and whether it is posted. -/
def bar4Off : Bar4 → Nat
  | .mwr o _ _ _ _ | .mrd o _ | .atom o _ => o
def bar4Bytes : Bar4 → Nat
  | .mwr _ _ _ d _ => d.length | .mrd _ _ => 0 | .atom _ op => op.size
def bar4Posted : Bar4 → Bool
  | .mwr .. => true | .mrd .. | .atom .. => false

/-- A BAR 4 request of a HOST port, with the Requester ID and tag of a non-posted one. `fault`: a record, descriptor or link
word of the queue is found uncorrectable (R287); `bad`: a cell line or a word held on chip is found bad (R286). -/
def bar4 (p : Nat) (t : Bar4) (reqId tag : Nat) (fault bad : Bool) (s : State) : State :=
  if !(s.role p == 1 && s.linkIsUp p && s.mode.carries && ideOk s p) then s
  else
    let h := portHost s p
    let s := (s.count (cntPort p 0) 48 1).count (cntPort p 0x10) 48 (bar4Bytes t)
    let s := s.count (cntHost h 0x10) 48 1
    let deadline := deadlineOf s (s.rf (Reg.hostArb h) 31 16)
    let (lower, count) := match t with
      | .mrd off dws => (off, 4 * dws) | .atom _ op => (0, op.size) | .mwr .. => (0, 0)
    let dest : QTo := if bar4Posted t then .none else .host p reqId tag lower count deadline
    match bar4Op s h t with
    | none =>
      let s := queueViolation p (bar4Off t) reqId s
      if bar4Posted t then viewAerLog h 0 s else queueReply dest (.error .violation) s
    | some (_, none) => s
    | some (q, some op) =>
      let s := if fault then faultQueue q s else s
      let s := if bad then poisonFound q none s else s
      if bar4Posted t && (queueServed s q).isNone then viewAerLog h 1 s
      else routeOp q op dest s

/-- A line of the current item that a read finds uncorrectable is poisoned (R286). -/
def poisonCurrent (p : Nat) (t : Bar4) (lines : List Nat) (s : State) : State :=
  match bar4Op s (portHost s p) t with
  | some (q, some (.read _ _)) =>
    if lines.isEmpty || (tget s.qu.busy q).isSome || !s.linkIsUp p then s
    else
      let s := selectItem q s
      (match (s.queue q).cur with
      | none => s
      | some pr => s.modQueue q (fun x => x.modList pr (fun l =>
          match l.items[l.rd]? with
          | some it => { l with items := setAt l.items l.rd { it with poison := (it.poison ++ lines).eraseDups } }
          | none => l)))
  | _ => s

/-- R291: ITEM_WRITE. A write to a producer page's ITEM, or one that breaks R289. -/
def execItemWrite (p addr fbe lbe reqId : Nat) (data : List Byte) (ep : Bool) (s : State) : Host.Outcome State Fault Refusal :=
  .next (bar4 p (.mwr addr fbe lbe data ep) reqId 0 false false s)

/-- R294: COMMIT, by an 8-byte MWr, or by a Swap with its tag. -/
def execCommit (p addr : Nat) (w : Word) (reqId : Nat) (swap : Option Nat) (fault : Bool) (s : State) :
    Host.Outcome State Fault Refusal :=
  .next (match swap with
    | none => bar4 p (.mwr addr 15 15 (wordBytes w) false) reqId 0 fault false s
    | some t => bar4 p (.atom addr { kind := .swap, size := 8, a := w.toNat, b := 0 }) reqId t fault false s)

/-- R300: CONSUMER_READ: every read of BAR 4. `bad`: lines of the item found uncorrectable. -/
def execConsumerRead (p addr dws reqId tag : Nat) (bad : List Nat) (fault : Bool) (s : State) :
    Host.Outcome State Fault Refusal :=
  .next (bar4 p (.mrd addr dws) reqId tag fault (!bad.isEmpty) (poisonCurrent p (.mrd addr dws) bad s))

/-- R301: a consumer command written to CMD. -/
def cmdWrite (p addr reqId op : Nat) (s : State) : State :=
  bar4 p (.mwr addr 15 15 (wordBytes (BitVec.ofNat 64 op)) false) reqId 0 false false s

/-- R301: NEXT. -/
def execNext (p addr reqId : Nat) (s : State) : Host.Outcome State Fault Refusal := .next (cmdWrite p addr reqId 1 s)
/-- R301: MARK. -/
def execMark (p addr reqId : Nat) (s : State) : Host.Outcome State Fault Refusal := .next (cmdWrite p addr reqId 2 s)
/-- R301: REWIND. -/
def execRewind (p addr reqId : Nat) (s : State) : Host.Outcome State Fault Refusal := .next (cmdWrite p addr reqId 3 s)
/-- R301: RELEASE. -/
def execRelease (p addr reqId : Nat) (s : State) : Host.Outcome State Fault Refusal := .next (cmdWrite p addr reqId 4 s)

/-! ## The end of an operation -/

/-- The cells of a delivered commit are all accepted: the item is linked and the result sent (R295). -/
def cellsAccepted (q : Nat) (s : State) : State :=
  match tget s.qu.busy q with
  | some { act := .cells, op := .commit b w d, dest } =>
    let s := delivered b (deliver q b w d { s with qu.busy := terase s.qu.busy q })
    pumpAll (queueReply dest (.value (prodWord (prodState s b).1 false false 1)) s)
  | _ => s

/-- R295: COMMIT_CELLS_ACCEPTED. -/
def execCommitCellsAccepted (q : Nat) (s : State) : Host.Outcome State Fault Refusal := .next (whenCarries (cellsAccepted q) s)

/-- The mirror has applied an operation: the home acts on it (R311). -/
def queueAck (id : Nat) (s : State) : State :=
  match s.qu.busy.find? (fun b => decide (b.2.act = .mirror id)) with
  | none => s
  | some (q, b) =>
    let (more, s) := performOp q b.op b.dest { s with qu.busy := terase s.qu.busy q }
    let s := if more then
        { s with qu.busy := tset s.qu.busy q { b with act := (match b.op with | .reset => .reset | _ => .cells) } }
      else s
    pumpAll s

/-- R198: MIRROR_ACK_RECEIVED: of a line, of a tick's record, or of a queue operation. -/
def execMirrorAckReceived (id : Nat) (s : State) : Host.Outcome State Fault Refusal :=
  .next (whenCarries (fun s => queueAck id (homeAck id s)) s)

/-- The mirror applies an operation to its own copy (R311). -/
def mirrorApply (q : Nat) (op : QMirOp) (s : State) : State :=
  match op with
  | .deliver b w d =>
    let s := deliver q b w (some d) s
    if b = deviceBind then setProd b (commitSeq w + 1) 0 s else setProd b (commitSeq w + 1) 1 s
  | .drop b w r =>
    let s := setProd b (commitSeq w + 1) (if b = deviceBind then 0 else r) s
    let x := s.queue q
    let g := dropWord (commitSeq w) b
    (match x.gapState with
    | 0 => linkItem q (commitPrio w) (gapItem q 1#64 g g) (s.modQueue q (fun x => { x with gapState := 1 }))
    | 1 => s.modQueue q (modGap (fun i => { i with data := [i.data.getD 0 0#64 + 1#64, i.data.getD 1 0#64, g] }))
    | _ => s.modQueue q (fun x => { x with dropsHeld := satAdd 16 x.dropsHeld 1, gapPrio := commitPrio w }))
  | .pass p => passCurrent q p s
  | .cmd c => consumerCmd q c s
  | .lease => (clearCur q (cmdRelease q (cmdRewind q s))).modQueue q (fun x => { x with lapsed := true })
  | .reset => resetQueue q s

/-- R311: MIRROR_QUEUE_OP. The timers run at the home only. -/
def mirrorQueueOp (id q : Nat) (op : QMirOp) (s : State) : State :=
  if !mirrorOn s then s
  else ((mirrorApply q op s).modQueue q (fun x => { x with lease := none, staleAt := none })).emit (.twinAck id)

/-- R311: MIRROR_QUEUE_OP. -/
def execMirrorQueueOp (id q : Nat) (op : QMirOp) (s : State) : Host.Outcome State Fault Refusal :=
  .next (whenCarries (mirrorQueueOp id q op) s)

/-- The partner's answer to a forwarded operation. -/
def partnerQueueAns (id : Nat) (a : QAns) (s : State) : State :=
  match tget s.qu.fwd id with
  | some (_, _, dest) => queueReply dest a { s with qu.fwd := terase s.qu.fwd id }
  | none => s

/-- R105: RESPONSE_ARRIVES. -/
def execResponseArrives (r : RspFrom) (s : State) : Host.Outcome State Fault Refusal :=
  .next (whenCarries (fun s => letIn (match r with
    | .unit k => unitAnswer k s
    | .link p g m => linkAnswer p g m s
    | .twin id kind data poison grant old => twinAnswer id { kind, data, poison, grant, old, second := false } s
    | .twinQueue id a => partnerQueueAns id a s)) s)

/-! ## Timers -/

/-- R293: the assembly timer of a binding's open item expires. -/
def assemblyTimeout (b : Nat) (s : State) : State :=
  match tget s.qu.opens b, pcfg? s b with
  | some o, some c => submitOp c.queue (.abandon b) .none (s.reach o.deadline)
  | _, _ => s

/-- R293: ITEM_ASSEMBLY_TIMEOUT. -/
def execItemAssemblyTimeout (b : Nat) (s : State) : Host.Outcome State Fault Refusal :=
  .next (whenCarries (assemblyTimeout b) s)

/-- R305: the lease timer of a queue reaches LEASE_TMO. -/
def leaseExpiry (q : Nat) (s : State) : State :=
  match (s.queue q).lease, qcfg? s q with
  | some t, some c => submitOp q .lease .none (s.reach (t + c.leaseTmo * 1000000))
  | _, _ => s

/-- R305: LEASE_EXPIRY. -/
def execLeaseExpiry (q : Nat) (s : State) : Host.Outcome State Fault Refusal := .next (whenCarries (leaseExpiry q) s)

/-- R306: the stale timer of a queue expires. -/
def staleExpiry (q : Nat) (s : State) : State :=
  match (s.queue q).staleAt, qcfg? s q with
  | some t, some c =>
    let s := s.reach (t + c.staleTmo * 1000000)
    let s := (s.modQueue q (fun x => { x with stale := true, staleAt := none })).setEvent Reg.queueEvents 4
    pumpAll (notify q 3 s)
  | _, _ => s

/-- R306: STALE_EXPIRY. -/
def execStaleExpiry (q : Nat) (s : State) : Host.Outcome State Fault Refusal := .next (whenCarries (staleExpiry q) s)

/-- R325: every 1 ms while a round is open, its queue's lease timer restarts. -/
def roundRefresh (q : Nat) (s : State) : State :=
  match tget s.qu.rounds q with
  | none => s
  | some r =>
    let s := s.reach r.refreshAt
    let s := { s with qu.rounds := tset s.qu.rounds q { r with refreshAt := r.refreshAt + 1000000 } }
    s.modQueue q (fun x => { x with lease := x.lease.map (fun _ => s.now) })

/-- R325: ROUND_LEASE_REFRESH. -/
def execRoundLeaseRefresh (q : Nat) (s : State) : Host.Outcome State Fault Refusal := .next (whenCarries (roundRefresh q) s)

/-! ## Resetting a queue, R316 -/

/-- A write of Q_RESET: while GO is 1 it changes nothing. -/
def qResetWrite (data : Word) (s : State) : State :=
  if s.rb Reg.qReset 63 then s
  else
    let s := s.wr Reg.qReset (data &&& (fldMask 63 63 ||| fldMask 17 0))
    let q := fld data 17 0
    if !bitAt data 63 then s
    else if (queueServed s q) = some false then submitOp q .reset .none s
    else s.wb Reg.qReset 63 false

/-- The reset ends: GO clears and the operations that waited proceed. -/
def resetDone (s : State) : State :=
  let q := s.rf Reg.qReset 17 0
  match tget s.qu.busy q with
  | some { act := .reset, .. } => pumpAll ({ s with qu.busy := terase s.qu.busy q }.wb Reg.qReset 63 false)
  | _ => s

/-- R316: QUEUE_RESET_COMPLETE. -/
def execQueueResetComplete (s : State) : Host.Outcome State Fault Refusal := .next (whenCarries resetDone s)

/-! ## Registers and LOAD -/

/-- A read of NOTICE_REQ takes the oldest notice (R309). -/
def noticeTake (s : State) : Word × State :=
  let (w, r) := mailRead s.qu.notices
  (w, { s with qu.notices := r })

/-- QUEUE_CTL, its two status bits from the function split (R436). -/
def readQueueCtl (s : State) : Word :=
  setFld (setFld (s.rd Reg.queueCtl) 1 1 (b2n (s.assist 8))) 0 0 (b2n (s.assist 7))

/-- QUEUE_STATUS. -/
def readQueueStatus (s : State) : Word :=
  mkFld 63 36 (freeCells s) ||| mkFld 35 23 (s.qu.opens.filter (fun e => e.2.ctx)).length ||| mkFld 22 4 (queueCount s)
    ||| mkFld 1 1 (b2n s.qu.noticeLost) ||| mkFld 0 0 (b2n (qTimers s))

/-- The queue word of a queue, R532. -/
def queueWord (s : State) (q : Nat) : Nat :=
  if (qcfg? s q).isNone then 0
  else tgetD s.cnt.qDelivered q 0 * 65536 + tgetD s.cnt.qPassed q 0 * 2 + b2n (s.queue q).firstList.isSome

end Sys2Proof.Machine
end

