-- ==== Sys2Proof/Machine/EngCode.lean ====
section
/-! DEFINITION. The instructions of the mill engines: their forms, their 32-bit encodings, and which words are reserved
(R340, the encoding tables of 10). -/
namespace Sys2Proof.Machine

/-- Integer ALU functions. -/
inductive AluOp where
  | add | sub | and | or | xor | sll | srl | sra | slt | sltu | min | max | minu | maxu | mul | mulh | mulhu | div | divu
  | rem | remu | clz | ctz | popc | brev8
  deriving DecidableEq, Repr

/-- Immediate forms of opcodes 0x01-0x04, 0x07 and 0x08. -/
inductive ImmOp where
  | addi | andi | ori | xori | slti | sltiu
  deriving DecidableEq, Repr

/-- The shifts of SHI. -/
inductive ShOp where
  | sll | srl | sra
  deriving DecidableEq, Repr

/-- Scalar floating-point operations. -/
inductive FpuOp where
  | add | sub | mul | div | min | max | sqrt | eq | lt | le | cvtI | cvtF | cvtX
  deriving DecidableEq, Repr

/-- Branch conditions. -/
inductive BrOp where
  | eq | ne | lt | ge | ltu | geu
  deriving DecidableEq, Repr

/-- VALU operations. -/
inductive VOp where
  | add | sub | mul | min | max | and | or | xor | sll | srl | sra | fma | abs | neg | div | sel
  deriving DecidableEq, Repr

/-- VRED operations. -/
inductive ROp where
  | add | min | max | and | or | xor
  deriving DecidableEq, Repr

/-- VCMP operations. -/
inductive COp where
  | eq | ne | lt | le | ltu | leu
  deriving DecidableEq, Repr

/-- QREL commands. -/
inductive RelOp where
  | release | mark | rewind
  deriving DecidableEq, Repr

/-- The barriers. -/
inductive OrdOp where
  | l | s | a
  deriving DecidableEq, Repr

/-- An engine instruction with its fields. A field that an operation does not use and that no table marks as 0 is kept as it
stands (`x`, `y`). -/
inductive EOp where
  | alu (f : AluOp) (rd ra rb : Nat)
  | imm (f : ImmOp) (rd ra im : Nat)
  | shi (f : ShOp) (rd ra x amt : Nat)
  | lui (rd im : Nat)
  | fpu (f : FpuOp) (fmt src rd ra rb : Nat)
  | load (k : LoadK) (rd ra im : Nat)
  /-- 2 ^ `sz` bytes -/
  | store (sz rs ra im : Nat)
  | vld (vd ra im : Nat)
  | vst (vs ra im : Nat)
  | vstm (vd ra typ p : Nat)
  | br (c : BrOp) (a b off annul : Nat)
  | jump (off : Nat)
  | jal (off : Nat)
  | jr (rd ra x : Nat)
  | loop (ra len : Nat)
  | loopi (count len : Nat)
  | qpush (rd ra x slot : Nat)
  | qpop (rd ra x slot : Nat)
  | qrel (c : RelOp) (x y slot : Nat)
  | waitH (x im : Nat)
  | trap (x im : Nat)
  | rfe (x : Nat)
  | setm (x ra y : Nat)
  | mfs (rd x im : Nat)
  | mts (x ra im : Nat)
  | ord (k : OrdOp) (x : Nat)
  | done (x : Nat)
  | valu (f : VOp) (typ vd va vb p : Nat)
  | vred (f : ROp) (typ rd va x p : Nat)
  | vcmp (f : COp) (typ pd va vb p : Nat)
  | vbcast (typ vd ra x p : Nat)
  | vext (typ rd va rb p : Nat)
  | vins (typ vd ra rb p : Nat)
  | mfp (typ rd ra x p : Nat)
  | mtp (typ rd ra x p : Nat)
  deriving DecidableEq, Repr

/-! ## Codes -/

def AluOp.code : AluOp → Nat
  | .add => 0x00 | .sub => 0x01 | .and => 0x02 | .or => 0x03 | .xor => 0x04 | .sll => 0x05 | .srl => 0x06 | .sra => 0x07
  | .slt => 0x08 | .sltu => 0x09 | .min => 0x0A | .max => 0x0B | .minu => 0x0C | .maxu => 0x0D | .mul => 0x10
  | .mulh => 0x11 | .mulhu => 0x12 | .div => 0x14 | .divu => 0x15 | .rem => 0x16 | .remu => 0x17 | .clz => 0x18
  | .ctz => 0x19 | .popc => 0x1A | .brev8 => 0x1B

def aluOf : Nat → Option AluOp
  | 0x00 => some .add | 0x01 => some .sub | 0x02 => some .and | 0x03 => some .or | 0x04 => some .xor | 0x05 => some .sll
  | 0x06 => some .srl | 0x07 => some .sra | 0x08 => some .slt | 0x09 => some .sltu | 0x0A => some .min | 0x0B => some .max
  | 0x0C => some .minu | 0x0D => some .maxu | 0x10 => some .mul | 0x11 => some .mulh | 0x12 => some .mulhu
  | 0x14 => some .div | 0x15 => some .divu | 0x16 => some .rem | 0x17 => some .remu | 0x18 => some .clz | 0x19 => some .ctz
  | 0x1A => some .popc | 0x1B => some .brev8 | _ => none

def ImmOp.code : ImmOp → Nat
  | .addi => 0x01 | .andi => 0x02 | .ori => 0x03 | .xori => 0x04 | .slti => 0x07 | .sltiu => 0x08

def ShOp.code : ShOp → Nat
  | .sll => 0 | .srl => 1 | .sra => 2

def shOf : Nat → Option ShOp
  | 0 => some .sll | 1 => some .srl | 2 => some .sra | _ => none

def FpuOp.code : FpuOp → Nat
  | .add => 0x00 | .sub => 0x01 | .mul => 0x02 | .div => 0x03 | .min => 0x04 | .max => 0x05 | .sqrt => 0x06 | .eq => 0x08
  | .lt => 0x09 | .le => 0x0A | .cvtI => 0x10 | .cvtF => 0x11 | .cvtX => 0x12

def fpuOf : Nat → Option FpuOp
  | 0x00 => some .add | 0x01 => some .sub | 0x02 => some .mul | 0x03 => some .div | 0x04 => some .min | 0x05 => some .max
  | 0x06 => some .sqrt | 0x08 => some .eq | 0x09 => some .lt | 0x0A => some .le | 0x10 => some .cvtI | 0x11 => some .cvtF
  | 0x12 => some .cvtX | _ => none

def LoadK.code : LoadK → Nat
  | .b => 0 | .bu => 1 | .h => 2 | .hu => 3 | .w => 4 | .wu => 5 | .d => 6

def BrOp.code : BrOp → Nat
  | .eq => 0 | .ne => 1 | .lt => 2 | .ge => 3 | .ltu => 4 | .geu => 5

def VOp.code : VOp → Nat
  | .add => 0x00 | .sub => 0x01 | .mul => 0x02 | .min => 0x03 | .max => 0x04 | .and => 0x05 | .or => 0x06 | .xor => 0x07
  | .sll => 0x08 | .srl => 0x09 | .sra => 0x0A | .fma => 0x0B | .abs => 0x0C | .neg => 0x0D | .div => 0x0E | .sel => 0x0F

def vopOf : Nat → Option VOp
  | 0x00 => some .add | 0x01 => some .sub | 0x02 => some .mul | 0x03 => some .min | 0x04 => some .max | 0x05 => some .and
  | 0x06 => some .or | 0x07 => some .xor | 0x08 => some .sll | 0x09 => some .srl | 0x0A => some .sra | 0x0B => some .fma
  | 0x0C => some .abs | 0x0D => some .neg | 0x0E => some .div | 0x0F => some .sel | _ => none

def ROp.code : ROp → Nat
  | .add => 0 | .min => 1 | .max => 2 | .and => 3 | .or => 4 | .xor => 5

def redOf : Nat → Option ROp
  | 0 => some .add | 1 => some .min | 2 => some .max | 3 => some .and | 4 => some .or | 5 => some .xor | _ => none

def COp.code : COp → Nat
  | .eq => 0 | .ne => 1 | .lt => 2 | .le => 3 | .ltu => 4 | .leu => 5

def cmpOf : Nat → Option COp
  | 0 => some .eq | 1 => some .ne | 2 => some .lt | 3 => some .le | 4 => some .ltu | 5 => some .leu | _ => none

def RelOp.code : RelOp → Nat
  | .release => 0 | .mark => 1 | .rewind => 2

def relOf : Nat → Option RelOp
  | 0 => some .release | 1 => some .mark | 2 => some .rewind | _ => none

def OrdOp.code : OrdOp → Nat
  | .l => 1 | .s => 2 | .a => 3

/-! ## The formats -/

/-- Format R and the forms of format V: five fields below the major opcode. -/
def fmtR (op a b c f : Nat) : Nat := op * 2 ^ 26 + a * 2 ^ 21 + b * 2 ^ 16 + c * 2 ^ 11 + f
/-- Formats I and S. -/
def fmtI (op a b im : Nat) : Nat := op * 2 ^ 26 + a * 2 ^ 21 + b * 2 ^ 16 + im
/-- Format V: function, type and mask in [10:0]. -/
def fmtV (op a b c vop typ p : Nat) : Nat := fmtR op a b c (vop * 64 + typ * 8 + p)

/-- The word of an instruction. -/
def engEncode : EOp → Nat
  | .alu f rd ra rb => fmtR 0x00 rd ra rb f.code
  | .imm f rd ra im => fmtI f.code rd ra im
  | .shi f rd ra x amt => fmtI 0x05 rd ra (f.code * 2 ^ 14 + x * 2 ^ 6 + amt)
  | .lui rd im => fmtI 0x06 rd 0 im
  | .fpu f fmt src rd ra rb => fmtR 0x09 rd ra rb (fmt * 512 + src * 128 + f.code)
  | .load k rd ra im => fmtI (0x10 + k.code) rd ra im
  | .store sz rs ra im => fmtI (0x18 + sz) rs ra im
  | .vld vd ra im => fmtI 0x1C vd ra im
  | .vst vs ra im => fmtI 0x1D vs ra im
  | .vstm vd ra typ p => fmtV 0x1E vd ra 0 0 typ p
  | .br c a b off annul => fmtI (0x20 + c.code) a b (off * 2 + annul)
  | .jump off => 0x26 * 2 ^ 26 + off
  | .jal off => 0x27 * 2 ^ 26 + off
  | .jr rd ra x => fmtI 0x28 rd ra x
  | .loop ra len => fmtI 0x29 0 ra len
  | .loopi count len => 0x2A * 2 ^ 26 + count * 2 ^ 16 + len
  | .qpush rd ra x slot => fmtI 0x2C rd ra (x * 16 + slot)
  | .qpop rd ra x slot => fmtI 0x2D rd ra (x * 16 + slot)
  | .qrel c x y slot => 0x2E * 2 ^ 26 + x * 2 ^ 16 + c.code * 2 ^ 14 + y * 16 + slot
  | .waitH x im => 0x30 * 2 ^ 26 + x * 256 + im
  | .trap x im => 0x31 * 2 ^ 26 + x * 2 ^ 16 + im
  | .rfe x => 0x32 * 2 ^ 26 + x
  | .setm x ra y => fmtI 0x33 x ra y
  | .mfs rd x im => fmtI 0x34 rd x im
  | .mts x ra im => fmtI 0x35 x ra im
  | .ord k x => 0x36 * 2 ^ 26 + x * 4 + k.code
  | .done x => 0x37 * 2 ^ 26 + x
  | .valu f typ vd va vb p => fmtV 0x38 vd va vb f.code typ p
  | .vred f typ rd va x p => fmtV 0x39 rd va x f.code typ p
  | .vcmp f typ pd va vb p => fmtV 0x3A pd va vb f.code typ p
  | .vbcast typ vd ra x p => fmtV 0x3B vd ra x 0 typ p
  | .vext typ rd va rb p => fmtV 0x3B rd va rb 1 typ p
  | .vins typ vd ra rb p => fmtV 0x3B vd ra rb 2 typ p
  | .mfp typ rd ra x p => fmtV 0x3B rd ra x 3 typ p
  | .mtp typ rd ra x p => fmtV 0x3B rd ra x 4 typ p

/-- Is a lane type a floating type (BF16, F32, F64)? -/
def typFloat (typ : Nat) : Bool := decide (4 ≤ typ) && decide (typ ≤ 6)

/-- May a VALU operation be used on a lane type (R349)? -/
def valuTypeOk (f : VOp) (typ : Nat) : Bool :=
  match f with
  | .sll | .srl | .sra => decide (typ ≤ 3)
  | .div => typFloat typ
  | _ => decide (typ ≤ 6)

/-- May a VCMP operation be used on a lane type (R350)? -/
def cmpTypeOk (f : COp) (typ : Nat) : Bool :=
  match f with
  | .ltu | .leu => decide (typ ≤ 3)
  | _ => decide (typ ≤ 6)

/-- An answer only where a test holds. -/
def onlyIf {α : Type} (c : Bool) (x : α) : Option α := if c then some x else none

/-- The instruction of a word; none for a reserved encoding (R340) and for a type that its operation does not take. -/
def engDecode (w : Nat) : Option EOp :=
  let a := w / 2 ^ 21 % 32
  let b := w / 2 ^ 16 % 32
  let c := w / 2 ^ 11 % 32
  let im := w % 2 ^ 16
  let f := w % 2 ^ 11
  let vop := f / 64
  let typ := f / 8 % 8
  let p := f % 8
  match w / 2 ^ 26 with
  | 0x00 => if vop = 0 then (aluOf (f % 64)).map (fun o => .alu o a b c) else none
  | 0x01 => some (.imm .addi a b im)
  | 0x02 => some (.imm .andi a b im)
  | 0x03 => some (.imm .ori a b im)
  | 0x04 => some (.imm .xori a b im)
  | 0x05 => (shOf (im / 2 ^ 14)).map (fun o => .shi o a b (im / 64 % 256) (im % 64))
  | 0x06 => onlyIf (b == 0) (.lui a im)
  | 0x07 => some (.imm .slti a b im)
  | 0x08 => some (.imm .sltiu a b im)
  | 0x09 =>
    if f / 64 % 2 = 0 ∧ f / 512 ≤ 2 then
      (fpuOf (f % 64)).bind (fun o =>
        onlyIf (match o with | .cvtX => decide (f / 128 % 4 ≤ 2) | _ => f / 128 % 4 == 0) (.fpu o (f / 512) (f / 128 % 4) a b c))
    else none
  | 0x10 => some (.load .b a b im)
  | 0x11 => some (.load .bu a b im)
  | 0x12 => some (.load .h a b im)
  | 0x13 => some (.load .hu a b im)
  | 0x14 => some (.load .w a b im)
  | 0x15 => some (.load .wu a b im)
  | 0x16 => some (.load .d a b im)
  | 0x18 => some (.store 0 a b im)
  | 0x19 => some (.store 1 a b im)
  | 0x1A => some (.store 2 a b im)
  | 0x1B => some (.store 3 a b im)
  | 0x1C => onlyIf (decide (a < 16)) (.vld a b im)
  | 0x1D => onlyIf (decide (a < 16)) (.vst a b im)
  | 0x1E => onlyIf (decide (a < 16) && c == 0 && vop == 0 && decide (typ ≤ 6)) (.vstm a b typ p)
  | 0x20 => some (.br .eq a b (im / 2) (w % 2))
  | 0x21 => some (.br .ne a b (im / 2) (w % 2))
  | 0x22 => some (.br .lt a b (im / 2) (w % 2))
  | 0x23 => some (.br .ge a b (im / 2) (w % 2))
  | 0x24 => some (.br .ltu a b (im / 2) (w % 2))
  | 0x25 => some (.br .geu a b (im / 2) (w % 2))
  | 0x26 => some (.jump (w % 2 ^ 26))
  | 0x27 => some (.jal (w % 2 ^ 26))
  | 0x28 => some (.jr a b im)
  | 0x29 => onlyIf (a == 0) (.loop b im)
  | 0x2A => some (.loopi (w / 2 ^ 16 % 1024) im)
  | 0x2C => some (.qpush a b (im / 16) (w % 16))
  | 0x2D => some (.qpop a b (im / 16) (w % 16))
  | 0x2E => (relOf (im / 2 ^ 14)).map (fun o => .qrel o (w / 2 ^ 16 % 1024) (im / 16 % 1024) (w % 16))
  | 0x30 => some (.waitH (w % 2 ^ 26 / 256) (w % 256))
  | 0x31 => some (.trap (w / 2 ^ 16 % 1024) im)
  | 0x32 => some (.rfe (w % 2 ^ 26))
  | 0x33 => some (.setm a b im)
  | 0x34 => some (.mfs a b im)
  | 0x35 => some (.mts a b im)
  | 0x36 =>
    match w % 4 with
    | 1 => some (.ord .l (w % 2 ^ 26 / 4))
    | 2 => some (.ord .s (w % 2 ^ 26 / 4))
    | 3 => some (.ord .a (w % 2 ^ 26 / 4))
    | _ => none
  | 0x37 => some (.done (w % 2 ^ 26))
  | 0x38 => (vopOf vop).bind (fun o =>
      onlyIf (valuTypeOk o typ && decide (a < 16) && decide (b < 16) && decide (c < 16)) (.valu o typ a b c p))
  | 0x39 => (redOf vop).bind (fun o => onlyIf (decide (typ ≤ 6) && decide (b < 16) && decide (c < 16)) (.vred o typ a b c p))
  | 0x3A => (cmpOf vop).bind (fun o =>
      onlyIf (cmpTypeOk o typ && decide (a < 16) && decide (b < 16) && decide (c < 16)) (.vcmp o typ a b c p))
  | 0x3B =>
    if typ ≤ 6 then
      match vop with
      | 0 => onlyIf (decide (a < 16) && decide (c < 16)) (.vbcast typ a b c p)
      | 1 => onlyIf (decide (b < 16)) (.vext typ a b c p)
      | 2 => onlyIf (decide (a < 16)) (.vins typ a b c p)
      | 3 => onlyIf (decide (c < 16)) (.mfp typ a b c p)
      | 4 => onlyIf (decide (c < 16)) (.mtp typ a b c p)
      | _ => none
    else none
  | _ => none

/-- Every field of an instruction lies in the range that its encoding gives it, and the encoding is not reserved. -/
def engWf : EOp → Bool
  | .alu _ rd ra rb => decide (rd < 32 ∧ ra < 32 ∧ rb < 32)
  | .imm _ rd ra im => decide (rd < 32 ∧ ra < 32 ∧ im < 2 ^ 16)
  | .shi _ rd ra x amt => decide (rd < 32 ∧ ra < 32 ∧ x < 256 ∧ amt < 64)
  | .lui rd im => decide (rd < 32 ∧ im < 2 ^ 16)
  | .fpu f fmt src rd ra rb =>
    decide (fmt ≤ 2 ∧ rd < 32 ∧ ra < 32 ∧ rb < 32) && (match f with | .cvtX => decide (src ≤ 2) | _ => src == 0)
  | .load _ rd ra im => decide (rd < 32 ∧ ra < 32 ∧ im < 2 ^ 16)
  | .store sz rs ra im => decide (sz < 4 ∧ rs < 32 ∧ ra < 32 ∧ im < 2 ^ 16)
  | .vld vd ra im => decide (vd < 16 ∧ ra < 32 ∧ im < 2 ^ 16)
  | .vst vs ra im => decide (vs < 16 ∧ ra < 32 ∧ im < 2 ^ 16)
  | .vstm vd ra typ p => decide (vd < 16 ∧ ra < 32 ∧ typ ≤ 6 ∧ p < 8)
  | .br _ a b off annul => decide (a < 32 ∧ b < 32 ∧ off < 2 ^ 15 ∧ annul < 2)
  | .jump off => decide (off < 2 ^ 26)
  | .jal off => decide (off < 2 ^ 26)
  | .jr rd ra x => decide (rd < 32 ∧ ra < 32 ∧ x < 2 ^ 16)
  | .loop ra len => decide (ra < 32 ∧ len < 2 ^ 16)
  | .loopi count len => decide (count < 1024 ∧ len < 2 ^ 16)
  | .qpush rd ra x slot => decide (rd < 32 ∧ ra < 32 ∧ x < 4096 ∧ slot < 16)
  | .qpop rd ra x slot => decide (rd < 32 ∧ ra < 32 ∧ x < 4096 ∧ slot < 16)
  | .qrel _ x y slot => decide (x < 1024 ∧ y < 1024 ∧ slot < 16)
  | .waitH x im => decide (x < 2 ^ 18 ∧ im < 256)
  | .trap x im => decide (x < 1024 ∧ im < 2 ^ 16)
  | .rfe x => decide (x < 2 ^ 26)
  | .setm x ra y => decide (x < 32 ∧ ra < 32 ∧ y < 2 ^ 16)
  | .mfs rd x im => decide (rd < 32 ∧ x < 32 ∧ im < 2 ^ 16)
  | .mts x ra im => decide (x < 32 ∧ ra < 32 ∧ im < 2 ^ 16)
  | .ord _ x => decide (x < 2 ^ 24)
  | .done x => decide (x < 2 ^ 26)
  | .valu f typ vd va vb p => decide (vd < 16 ∧ va < 16 ∧ vb < 16 ∧ p < 8) && valuTypeOk f typ
  | .vred _ typ rd va x p => decide (typ ≤ 6 ∧ rd < 32 ∧ va < 16 ∧ x < 16 ∧ p < 8)
  | .vcmp f typ pd va vb p => decide (pd < 16 ∧ va < 16 ∧ vb < 16 ∧ p < 8) && cmpTypeOk f typ
  | .vbcast typ vd ra x p => decide (typ ≤ 6 ∧ vd < 16 ∧ ra < 32 ∧ x < 16 ∧ p < 8)
  | .vext typ rd va rb p => decide (typ ≤ 6 ∧ rd < 32 ∧ va < 16 ∧ rb < 32 ∧ p < 8)
  | .vins typ vd ra rb p => decide (typ ≤ 6 ∧ vd < 16 ∧ ra < 32 ∧ rb < 32 ∧ p < 8)
  | .mfp typ rd ra x p => decide (typ ≤ 6 ∧ rd < 32 ∧ ra < 32 ∧ x < 16 ∧ p < 8)
  | .mtp typ rd ra x p => decide (typ ≤ 6 ∧ rd < 32 ∧ ra < 32 ∧ x < 16 ∧ p < 8)

end Sys2Proof.Machine
end

