-- ==== Sys2Proof/Machine/EngOps.lean ====
section
/-! DEFINITION. What the engine instructions that work on registers compute: integer, floating-point and vector operations,
the register file, the next address, the loop step (R337-R350).
Assumption 48. -/
namespace Sys2Proof.Machine

/-! ## The register file, R337 -/

/-- The registers of an engine with no job. -/
def newArch : Arch :=
  { pc := 0, slot := none, g := [], v := [], p := [], epc := 0#64, status := 0#64, cause := 0#64, faultAddr := 0#64,
    mode := 0#64, loop0 := 0#64, loop1 := 0#64, evec := 0#64, sel := 0 }

/-- g0 reads as 0. -/
def Arch.gr (a : Arch) (r : Nat) : Word := if r = 0 then 0#64 else tgetD a.g r 0#64
/-- A write of g0 is discarded. -/
def Arch.setG (r : Nat) (v : Word) (a : Arch) : Arch := if r = 0 then a else { a with g := tput 0#64 a.g r v }
/-- A vector register. -/
def Arch.vr (a : Arch) (r : Nat) : Line := tgetD a.v r 0#512
def Arch.setV (r : Nat) (v : Line) (a : Arch) : Arch := { a with v := tput 0#512 a.v r v }
/-- p0 reads as all ones. -/
def Arch.pr (a : Arch) (r : Nat) : Word := if r = 0 then BitVec.allOnes 64 else tgetD a.p r 0#64
/-- A write of p0 is discarded. -/
def Arch.setP (r : Nat) (v : Word) (a : Arch) : Arch := if r = 0 then a else { a with p := tput 0#64 a.p r v }

/-- MODE.RND and MODE.SAT. -/
def Arch.rnd (a : Arch) : Nat := fld a.mode 1 0
def Arch.sat (a : Arch) : Bool := bitAt a.mode 2
/-- STATUS.HND. -/
def Arch.hnd (a : Arch) : Bool := bitAt a.status 0

/-- Set the sticky flags of STATUS. -/
def Arch.flags (f : FpFlags) (a : Arch) : Arch :=
  { a with status := a.status ||| mkFld 12 12 (b2n f.nv) ||| mkFld 11 11 (b2n f.dz) ||| mkFld 10 10 (b2n f.of_)
             ||| mkFld 9 9 (b2n f.uf) ||| mkFld 8 8 (b2n f.nx) }

/-- A 16-bit immediate, sign-extended. -/
def sext16 (im : Nat) : Word := (BitVec.ofNat 16 im).signExtend 64

/-! ## Scalar integer operations, R341 -/

/-- Count of leading zeros. -/
def clz64 (a : Word) : Nat := if a = 0#64 then 64 else 63 - a.toNat.log2
/-- Count of trailing zeros. -/
def ctz64 (a : Word) : Nat := ((List.range 64).find? (fun i => a.getLsbD i)).getD 64
/-- Count of ones. -/
def popc64 (a : Word) : Nat := ((List.range 64).filter (fun i => a.getLsbD i)).length
/-- The 8 bytes of a word reversed. -/
def brev8 (a : Word) : Word := BitVec.ofNat 64 (leNat (wordBytes a).reverse)

/-- An ALU function. -/
def aluVal (f : AluOp) (a b : Word) : Word :=
  match f with
  | .add => a + b
  | .sub => a - b
  | .and => a &&& b
  | .or => a ||| b
  | .xor => a ^^^ b
  | .sll => a <<< (b.toNat % 64)
  | .srl => a >>> (b.toNat % 64)
  | .sra => a.sshiftRight (b.toNat % 64)
  | .slt => if a.slt b then 1#64 else 0#64
  | .sltu => if a.ult b then 1#64 else 0#64
  | .min => if a.slt b then a else b
  | .max => if a.slt b then b else a
  | .minu => if a.ult b then a else b
  | .maxu => if a.ult b then b else a
  | .mul => a * b
  | .mulh => BitVec.ofInt 64 (a.toInt * b.toInt / 2 ^ 64)
  | .mulhu => BitVec.ofNat 64 (a.toNat * b.toNat / 2 ^ 64)
  | .div => if b = 0#64 then BitVec.allOnes 64 else a.sdiv b
  | .divu => if b = 0#64 then BitVec.allOnes 64 else a.udiv b
  | .rem => if b = 0#64 then a else a.srem b
  | .remu => if b = 0#64 then a else a.umod b
  | .clz => BitVec.ofNat 64 (clz64 a)
  | .ctz => BitVec.ofNat 64 (ctz64 a)
  | .popc => BitVec.ofNat 64 (popc64 a)
  | .brev8 => brev8 a

/-- An immediate form. -/
def immVal (f : ImmOp) (a : Word) (im : Nat) : Word :=
  match f with
  | .addi => a + sext16 im
  | .andi => a &&& BitVec.ofNat 64 im
  | .ori => a ||| BitVec.ofNat 64 im
  | .xori => a ^^^ BitVec.ofNat 64 im
  | .slti => if a.slt (sext16 im) then 1#64 else 0#64
  | .sltiu => if a.ult (sext16 im) then 1#64 else 0#64

/-- SHI. -/
def shVal (f : ShOp) (a : Word) (amt : Nat) : Word :=
  match f with
  | .sll => a <<< amt
  | .srl => a >>> amt
  | .sra => a.sshiftRight amt

/-- LUI. -/
def luiVal (im : Nat) : Word := (BitVec.ofNat 32 (im * 2 ^ 16)).signExtend 64

/-! ## Scalar floating point, R342 -/

/-- The format of FMT or SRC. -/
def fmtOf (n : Nat) : Fmt := match n with | 0 => fmt32 | 1 => fmt64 | _ => fmtBf

/-- The comparisons: FEQ is quiet, FLT and FLE signal on every NaN, as IEEE 754 defines them (assumption 29). -/
def fpCompare (f : FpuOp) (a b : Fp) : Bool × FpFlags :=
  let quiet := { noFlags with nv := a.isSig || b.isSig }
  let loud := { noFlags with nv := a.isNan || b.isNan }
  match f with
  | .lt => (!a.isNan && !b.isNan && fpLess false a b, loud)
  | .le => (!a.isNan && !b.isNan && (fpLess false a b || fpEq a b), loud)
  | _ => (fpEq a b, quiet)

/-- A scalar floating-point operation on two register values. -/
def fpuVal (f : FpuOp) (fmt src rnd : Nat) (x y : Word) : Nat × FpFlags :=
  let m := fmtOf fmt
  let a := unpack m (x.toNat % 2 ^ m.bits)
  let b := unpack m (y.toNat % 2 ^ m.bits)
  match f with
  | .add => fpAdd m rnd a b
  | .sub => fpAdd m rnd a b.negate
  | .mul => fpMulAdd m rnd a b none
  | .div => fpDiv m rnd a b
  | .min => fpMinMax m false (x.toNat % 2 ^ m.bits) (y.toNat % 2 ^ m.bits)
  | .max => fpMinMax m true (x.toNat % 2 ^ m.bits) (y.toNat % 2 ^ m.bits)
  | .sqrt => fpSqrt m rnd a
  | .eq | .lt | .le => let r := fpCompare f a b; (b2n r.1, r.2)
  | .cvtI => let r := fpToInt rnd a; ((BitVec.ofInt 64 r.1).toNat, r.2)
  | .cvtF => fpOfInt m rnd x.toInt
  | .cvtX => let q := fmtOf src; fpConvert m rnd (unpack q (x.toNat % 2 ^ q.bits))

/-! ## Vector operations, R349, R350 -/

/-- Bytes in a lane of a type. -/
def laneBytes (typ : Nat) : Nat := match typ with | 0 => 1 | 1 => 2 | 2 => 4 | 3 => 8 | 4 => 2 | 5 => 4 | _ => 8
/-- Lanes of a type. -/
def laneCount (typ : Nat) : Nat := 64 / laneBytes typ
/-- The format of a floating type. -/
def laneFmt (typ : Nat) : Fmt := match typ with | 4 => fmtBf | 5 => fmt32 | _ => fmt64
/-- Lane `i` of a vector register. -/
def lane (typ : Nat) (v : Line) (i : Nat) : Nat := lineNat v (laneBytes typ * i) (laneBytes typ)
/-- A vector register from its lanes. -/
def ofLanes (typ : Nat) (xs : List Nat) : Line :=
  BitVec.ofNat 512 (xs.zipIdx.foldl (fun a e => a + e.1 % 2 ^ (8 * laneBytes typ) * 2 ^ (8 * laneBytes typ * e.2)) 0)

/-- A number of `n` bytes read as signed. -/
def sgnOf (n x : Nat) : Int := if x < 2 ^ (8 * n - 1) then (x : Int) else (x : Int) - 2 ^ (8 * n)
/-- An integer cut to `n` bytes. -/
def cutInt (n : Nat) (x : Int) : Nat := (x % 2 ^ (8 * n)).toNat
/-- R349: an integer result wraps, or saturates as a signed integer when MODE.SAT is 1. -/
def fitInt (sat : Bool) (n : Nat) (x : Int) : Nat :=
  if sat then cutInt n (max (-(2 ^ (8 * n - 1))) (min x (2 ^ (8 * n - 1) - 1))) else cutInt n x

/-- The lane result of a VALU operation: `a`, `b` of va and vb, `d` of vd. -/
def laneOp (f : VOp) (typ rnd : Nat) (sat : Bool) (a b d : Nat) : Nat × FpFlags :=
  let n := laneBytes typ
  let m := laneFmt typ
  let sa := sgnOf n a
  let sb := sgnOf n b
  let int := fun (x : Nat) => (x, noFlags)
  match f with
  | .and => int (a &&& b)
  | .or => int (a ||| b)
  | .xor => int (a ^^^ b)
  | .sel => int a
  | .sll => int (a * 2 ^ (b % (8 * n)) % 2 ^ (8 * n))
  | .srl => int (a / 2 ^ (b % (8 * n)))
  | .sra => int (cutInt n (sa / 2 ^ (b % (8 * n))))
  | .div => fpDiv m rnd (unpack m a) (unpack m b)
  | .add => if typFloat typ then fpAdd m rnd (unpack m a) (unpack m b) else int (fitInt sat n (sa + sb))
  | .sub => if typFloat typ then fpAdd m rnd (unpack m a) (unpack m b).negate else int (fitInt sat n (sa - sb))
  | .mul => if typFloat typ then fpMulAdd m rnd (unpack m a) (unpack m b) none else int (a * b % 2 ^ (8 * n))
  | .fma =>
    if typFloat typ then fpMulAdd m rnd (unpack m a) (unpack m b) (some (unpack m d))
    else int (fitInt sat n (sgnOf n d + sa * sb))
  | .min => if typFloat typ then fpMinMax m false a b else int (if sa < sb then a else b)
  | .max => if typFloat typ then fpMinMax m true a b else int (if sa < sb then b else a)
  | .abs => if typFloat typ then int (a % m.signBit) else int (fitInt sat n sa.natAbs)
  | .neg => if typFloat typ then int ((a + m.signBit) % 2 ^ m.bits) else int (fitInt sat n (-sa))

/-- R349: a VALU operation: the value of vd and the flags of its active lanes. VSEL writes every lane. -/
def valuVal (f : VOp) (typ rnd : Nat) (sat : Bool) (mask : Word) (va vb vd : Line) : Line × FpFlags :=
  let rs := (List.range (laneCount typ)).map (fun i =>
    if mask.getLsbD i then laneOp f typ rnd sat (lane typ va i) (lane typ vb i) (lane typ vd i)
    else (if f = .sel then lane typ vb i else lane typ vd i, noFlags))
  (ofLanes typ (rs.map Prod.fst), rs.foldl (fun a r => a.or r.2) noFlags)

/-- The VALU operation of a reduction step. -/
def ROp.vop : ROp → VOp
  | .add => .add | .min => .min | .max => .max | .and => .and | .or => .or | .xor => .xor

/-- A lane value as a general register holds it: sign-extended for integer types, zero-extended for floating types. -/
def laneExt (typ x : Nat) : Word :=
  if typFloat typ then BitVec.ofNat 64 x else BitVec.ofInt 64 (sgnOf (laneBytes typ) x)

/-- R350: VRED, in ascending lane order. -/
def vredVal (f : ROp) (typ rnd : Nat) (sat : Bool) (mask : Word) (va : Line) : Word × FpFlags :=
  let xs := ((List.range (laneCount typ)).filter (fun i => mask.getLsbD i)).map (lane typ va)
  match xs with
  | [] => (0#64, noFlags)
  | x :: r =>
    let t := r.foldl (fun (acc : Nat × FpFlags) y =>
      let z := laneOp f.vop typ rnd sat acc.1 y 0
      (z.1, acc.2.or z.2)) (x, noFlags)
    (laneExt typ t.1, t.2)

/-- A lane comparison. -/
def laneCmp (f : COp) (typ a b : Nat) : Bool × FpFlags :=
  let n := laneBytes typ
  if typFloat typ then
    let m := laneFmt typ
    let x := unpack m a
    let y := unpack m b
    match f with
    | .eq => fpCompare .eq x y
    | .ne => let r := fpCompare .eq x y; (!r.1, r.2)
    | .lt | .ltu => fpCompare .lt x y
    | .le | .leu => fpCompare .le x y
  else
    (match f with
     | .eq => a == b
     | .ne => a != b
     | .lt => decide (sgnOf n a < sgnOf n b)
     | .le => decide (sgnOf n a ≤ sgnOf n b)
     | .ltu => decide (a < b)
     | .leu => decide (a ≤ b), noFlags)

/-- R350: VCMP: 0 for inactive lanes and at or above the lane count. -/
def vcmpVal (f : COp) (typ : Nat) (mask : Word) (va vb : Line) : Word × FpFlags :=
  let rs := (List.range (laneCount typ)).map (fun i =>
    if mask.getLsbD i then laneCmp f typ (lane typ va i) (lane typ vb i) else (false, noFlags))
  (BitVec.ofNat 64 (rs.zipIdx.foldl (fun a e => if e.1.1 then a + 2 ^ e.2 else a) 0),
   rs.foldl (fun a r => a.or r.2) noFlags)

/-- R350: VBCAST. -/
def bcastVal (typ : Nat) (mask x : Word) (vd : Line) : Line :=
  ofLanes typ ((List.range (laneCount typ)).map (fun i => if mask.getLsbD i then x.toNat else lane typ vd i))

/-- R350: VINS. -/
def insVal (typ : Nat) (x idx : Word) (vd : Line) : Line :=
  ofLanes typ ((List.range (laneCount typ)).map (fun i => if i = idx.toNat % laneCount typ then x.toNat else lane typ vd i))

/-- R350: VEXT. -/
def extVal (typ : Nat) (idx : Word) (va : Line) : Word := laneExt typ (lane typ va (idx.toNat % laneCount typ))

/-- The instructions that only compute on registers: the registers they leave; none for every other instruction. -/
def computeOp (op : EOp) (a : Arch) : Option Arch :=
  match op with
  | .alu f rd ra rb => some (a.setG rd (aluVal f (a.gr ra) (a.gr rb)))
  | .imm f rd ra im => some (a.setG rd (immVal f (a.gr ra) im))
  | .shi f rd ra _ amt => some (a.setG rd (shVal f (a.gr ra) amt))
  | .lui rd im => some (a.setG rd (luiVal im))
  | .fpu f fmt src rd ra rb =>
    let r := fpuVal f fmt src a.rnd (a.gr ra) (a.gr rb)
    some ((a.setG rd (BitVec.ofNat 64 r.1)).flags r.2)
  | .valu f typ vd va vb p =>
    let r := valuVal f typ a.rnd a.sat (a.pr p) (a.vr va) (a.vr vb) (a.vr vd)
    some ((a.setV vd r.1).flags r.2)
  | .vred f typ rd va _ p =>
    let r := vredVal f typ a.rnd a.sat (a.pr p) (a.vr va)
    some ((a.setG rd r.1).flags r.2)
  | .vcmp f typ pd va vb p =>
    let r := vcmpVal f typ (a.pr p) (a.vr va) (a.vr vb)
    some ((a.setP (pd % 8) r.1).flags r.2)
  | .vbcast typ vd ra _ p => some (a.setV vd (bcastVal typ (a.pr p) (a.gr ra) (a.vr vd)))
  | .vext typ rd va rb _ => some (a.setG rd (extVal typ (a.gr rb) (a.vr va)))
  | .vins typ vd ra rb _ => some (a.setV vd (insVal typ (a.gr ra) (a.gr rb) (a.vr vd)))
  | .mfp _ rd ra _ _ => some (a.setG rd (a.pr (ra % 8)))
  | .mtp _ rd ra _ _ => some (a.setP (rd % 8) (a.gr ra))
  | _ => none

/-! ## The next address, R344, R347, R374 -/

/-- Is loop level `n` active? -/
def Arch.act (n : Nat) (a : Arch) : Bool := bitAt a.status (2 + n)
/-- LOOP_n. -/
def Arch.loopReg (n : Nat) (a : Arch) : Word := if n = 0 then a.loop0 else a.loop1
/-- END of an active level. -/
def Arch.endAt (n : Nat) (a : Arch) : Option Nat := if a.act n then some (fld (a.loopReg n) 35 18) else none
/-- Store LOOP_n. -/
def Arch.setLoop (n : Nat) (w : Word) (a : Arch) : Arch := if n = 0 then { a with loop0 := w } else { a with loop1 := w }

/-- The loop step of level `n` when the instruction at its END has completed (R347): COUNT falls; not 0, the next instruction
is START; 0, the level ends. -/
def loopStep (n : Nat) (pc : Nat) (x : Arch × Nat) : Arch × Nat :=
  let a := x.1
  if a.endAt n = some pc then
    let w := a.loopReg n
    let c := (fld w 63 36 + 2 ^ 28 - 1) % 2 ^ 28
    let a := a.setLoop n (setFld w 63 36 c)
    if c ≠ 0 then (a, fld w 17 0) else ({ a with status := clrBit a.status (2 + n) }, x.2)
  else x

/-- An instruction other than a branch or jump has completed with the registers `a`: the next address, with the loop steps
of the levels that end at it. -/
def stepPc (a : Arch) : Arch :=
  let next := match a.slot with | some d => d.next | none => a.pc + 4
  let r := loopStep 0 a.pc (loopStep 1 a.pc (a, next))
  { r.1 with pc := r.2, slot := none }

/-- A branch or jump has chosen its target: its delay slot is next. -/
def takeSlot (target : Nat) (a : Arch) : Arch := { a with pc := a.pc + 4, slot := some { br := a.pc, next := target } }

/-- A target at a signed number of words from an address. -/
def relTarget (pc bits off : Nat) : Nat :=
  (((pc : Int) + 4 * (if off < 2 ^ (bits - 1) then (off : Int) else (off : Int) - 2 ^ bits)) % 2 ^ 64).toNat

/-- R344: does the branch take? -/
def brTaken (c : BrOp) (a b : Word) : Bool :=
  match c with
  | .eq => a == b
  | .ne => a != b
  | .lt => a.slt b
  | .ge => !a.slt b
  | .ltu => a.ult b
  | .geu => !a.ult b

/-- R348: does the address lie at END, or at END - 4, of an active level? -/
def atLoopEnd (a : Arch) : Bool :=
  [0, 1].any (fun n => match a.endAt n with | some e => e == a.pc || e == a.pc + 4 | none => false)

/-- The registers an instruction reads and writes among g, v and p, by which a later instruction waits for an earlier far
load's result (R361): (general, vector). -/
def eopRegs : EOp → List Nat × List Nat
  | .alu _ rd ra rb | .fpu _ _ _ rd ra rb => ([rd, ra, rb], [])
  | .imm _ rd ra _ | .shi _ rd ra _ _ | .load _ rd ra _ | .store _ rd ra _ => ([rd, ra], [])
  | .lui rd _ => ([rd], [])
  | .vld v ra _ | .vst v ra _ | .vstm v ra _ _ => ([ra], [v])
  | .br _ a b _ _ => ([a, b], [])
  | .jump _ | .loopi _ _ | .waitH _ _ | .trap _ _ | .rfe _ | .ord _ _ => ([], [])
  | .jal _ => ([30], [])
  | .jr rd ra _ => ([rd, ra], [])
  | .loop ra _ => ([ra], [])
  | .qpush rd ra _ _ | .qpop rd ra _ _ => ([rd, ra], [])
  | .qrel _ _ _ _ => ([], [])
  | .setm _ ra _ | .mts _ ra _ => ([ra], [])
  | .mfs rd _ _ => ([rd], [])
  | .done _ => ([1, 2], [])
  | .valu _ _ vd va vb _ => ([], [vd, va, vb])
  | .vred _ _ rd va _ _ => ([rd], [va])
  | .vcmp _ _ _ va vb _ => ([], [va, vb])
  | .vbcast _ vd ra _ _ => ([ra], [vd])
  | .vext _ rd va rb _ => ([rd, rb], [va])
  | .vins _ vd ra rb _ => ([ra, rb], [vd])
  | .mfp _ rd _ _ _ => ([rd], [])
  | .mtp _ _ ra _ _ => ([ra], [])

end Sys2Proof.Machine
end

