-- ==== Sys2Proof/Machine/Mill.lean ====
section
/-! DEFINITION. The mill: engines and jobs, far accesses and the engine memory port, the store buffer, exceptions, the end of a
job (R317-R336, R357-R389).
Assumption 49. -/
namespace Sys2Proof.Machine

/-! ## Engines -/

def noShadow : Shadow :=
  { epc := 0#64, status := 0#64, cause := 0#64, faultAddr := 0#64, loop0 := 0#64, loop1 := 0#64, g1 := 0#64, g2 := 0#64,
    g31 := 0#64, mode := 0#64, info := 0#64, dtb := 0 }

/-- An engine as LOAD leaves it. -/
def newEng : Eng :=
  { st := 0, arch := newArch, bench := [], job := none, last := (0, 0, 0, 0, 0), lastHost := none, wait := .none, hint := 0,
    flights := [], issued := 0, counted := [], acc := [], sb := [], storeErr := none, shadow := noShadow, spill := none,
    resume := false, slotsDone := 0, lastFault := none }

/-- Engine `e`. -/
def State.eng (s : State) (e : Nat) : Eng := tgetD s.mill.engs e newEng

/-- Change an engine. -/
def State.modEng (e : Nat) (f : Eng → Eng) (s : State) : State := { s with mill.engs := tset s.mill.engs e (f (s.eng e)) }

/-- Change an engine's registers. -/
def State.modArch (e : Nat) (f : Arch → Arch) (s : State) : State := s.modEng e (fun g => { g with arch := f g.arch })

/-- Change an engine's job. -/
def State.modJob (e : Nat) (f : Job → Job) (s : State) : State := s.modEng e (fun g => { g with job := g.job.map f })

/-- Is a cluster isolated (R334, MILL_STATUS.CLUSTERS_OFFLINE)? -/
def clusterGone (s : State) (c : Nat) : Bool := s.ras.isoClusters.contains c

/-- ENG_STATUS.OFFLINE. -/
def engOffline (s : State) (e : Nat) : Bool := s.rb (Reg.engCtl e) 1 || clusterGone s (e / 8)

/-- D5 cycles, 1.8 GHz, as whole ns, and the cycles in a time. -/
def cyclesNs (n : Nat) : Nat := (n * 5 + 8) / 9
def nsCycles (t : Nat) : Nat := t * 9 / 5

/-! ## The slots that the top-down counters count, R533, R534 -/

/-- Offset of a top-down counter of an engine. -/
def cntTd (e k : Nat) : Nat := 0x2000 + 0x40 * e + k

/-- Are the engines of this one's die paced (R575)? CLU_00 to CLU_07 lie on the west die. -/
def engPaced (s : State) (e : Nat) : Bool := if e / 8 < 8 then s.therm.pacedWest else s.therm.pacedEast

/-- Why an engine issues nothing (R533): an instruction-cache miss, pacing (R575) and what no other class names starve the front. -/
def frontStarved (pacing : Bool) (g : Eng) : Bool :=
  match g.wait with
  | .fetch _ => true
  | .none => pacing || g.flights.isEmpty && (match g.job with | some j => decide (j.step = .running) | none => false)
  | _ => false

/-- Count the slots in which a RUNNING engine has issued nothing since they were last counted (assumption 30). -/
def countIdle (e : Nat) (s : State) : State :=
  let g := s.eng e
  match g.job with
  | some j =>
    if g.st = 2 then
      let d := 2 * nsCycles (s.now - j.beginAt) - g.slotsDone
      ((s.modEng e (fun g => { g with slotsDone := g.slotsDone + d })).count (cntTd e 0) 64 d).count
        (cntTd e (if frontStarved (engPaced s e) g then 0x18 else 0x20)) 64 d
    else s
  | none => s

/-- An instruction issues: its slot is counted RETIRED. -/
def countIssue (e : Nat) (s : State) : State :=
  let s := countIdle e s
  ((s.modEng e (fun g => { g with
      slotsDone := g.slotsDone + 1, issued := g.issued + 1,
      counted := ((!s.cnt.frozen) :: g.counted).take 64 })).count (cntTd e 0) 64 1).count (cntTd e 8) 64 1

/-- R534: the slots of the last `n` instructions issued move to TD_WASTED, those that were counted. -/
def wasteIssued (e n : Nat) (s : State) : State :=
  let k := ((s.eng e).counted.take n).count true
  let s := s.modEng e (fun g => { g with counted := g.counted.drop n })
  if k = 0 then s else moveWasted e k s

/-! ## The library, R357-R359, R385-R387 -/

/-- Has the job passed step 5 on a version? -/
def holdsVersion (j : Job) : Bool :=
  match j.step with
  | .selecting | .deciding => false
  | _ => decide (j.version ≠ 0)

/-- REFS of a version, R358. -/
def refsOf (s : State) (program version : Nat) : Nat :=
  (s.mill.engs.filter (fun e => match e.2.job with
    | some j => holdsVersion j && j.program == program && j.version == version | none => false)).length
    + (s.tabs.versions.filter (fun v => v.program == program && v.version == version && v.current)).length

/-- The version of a program that a job names: 0 the current one. -/
def versionFor (s : State) (program version : Nat) : Option Version :=
  s.tabs.versions.find? (fun v => v.program == program && (if version = 0 then v.current else v.version == version))

/-- R358, R386: a version whose REFS has come down to 0 is freed, and its instruction-cache lines are invalidated. -/
def freeVersion (program version : Nat) (s : State) : State :=
  if refsOf s program version ≠ 0 then s
  else
    { s with
      tabs.versions := s.tabs.versions.filter (fun v => !(v.program == program && v.version == version)),
      mill.caches := tmap (fun _ ls => ls.filter (fun l => !(program == l.1 && version == l.2.1))) s.mill.caches }

/-- A job that has ended gives up its version (R358). -/
def leaveVersion (j : Job) (s : State) : State := if holdsVersion j then freeVersion j.program j.version s else s

/-- The word of a version's code at a code address. -/
def codeWord (v : Version) (pc : Nat) : Option Nat := if pc % 4 = 0 then (v.code[pc / 4]?).map BitVec.toNat else none

/-- The version that a job runs on. -/
def jobVersion (s : State) (j : Job) : Option Version :=
  s.tabs.versions.find? (fun v => v.program == j.program && v.version == j.version)

/-- Is a code line in the cluster's instruction cache (R359)? -/
def icHit (s : State) (c program version line : Nat) : Bool := (tgetD s.mill.caches c []).contains (program, version, line)

/-- Fill a line: a full set of 4 ways gives up one (assumption 3). -/
def icFill (c program version line : Nat) (s : State) : State :=
  if icHit s c program version line then s
  else
    let ls := tgetD s.mill.caches c []
    let set := Config.icSet program version line % 256
    let same := ls.filter (fun l => Config.icSet l.1 l.2.1 l.2.2 % 256 == set)
    let ls := if same.length < 4 then ls
      else match same[Config.icVictim s.fresh % 4]? with
        | some v => ls.filter (fun l => l != v)
        | none => ls
    { s with mill.caches := tset s.mill.caches c (ls ++ [(program, version, line)]), fresh := s.fresh + 1 }

/-! ## Far accesses and the engine memory port, R317, R323, R268 -/

/-- The numbers of far accesses: loads, stores, then the completion record. -/
def accProbe : Nat := 32
def accRunning : Nat := 33
def accRecord : Nat := 34
def accValid : Nat := 35

/-- An access reaches the engine memory port, which stamps its deadline with the job's BUDGET (R323). -/
def newAcc (e id addr : Nat) (write : Option (Line × BitVec 64)) (s : State) : State :=
  let b := ((s.eng e).job.map Job.budget).getD 32767
  s.modEng e (fun g =>
    { g with
      acc := tset g.acc id
        { st := .port, addr := addr / 64 * 64, write, deadline := deadlineOf s b, since := s.now, gen := none,
          dropped := false } })

/-- An access has its answer. -/
def gotAcc (e id : Nat) (k : Option ErrKind) (d : Line) (poison : Bool) (s : State) : State :=
  s.modEng e (fun g => { g with acc := tmod g.acc id (fun a => { a with st := .got k d poison, gen := none }) })

/-- Forget an access. -/
def dropAcc (e id : Nat) (s : State) : State := s.modEng e (fun g => { g with acc := terase g.acc id })

/-- Does an engine's access still wait for a walk or a fill? -/
def xlWaiting (s : State) (e id : Nat) : Bool :=
  s.xl.walks.any (fun w => w.waiters.contains (.eng e id)) || s.xl.fills.any (fun f => f.waiters.contains (.eng e id))
    || s.xl.queue.any (fun q => q.2.2.2 == .eng e id)

/-- Is an access at the port: not sent, or back from translation? -/
def atPort (s : State) (e id : Nat) (a : FarAcc) : Bool :=
  match a.st with
  | .port => true
  | .xlate => !xlWaiting s e id
  | _ => false

/-- The violation log entry of an engine's access through a window (R24, R495). -/
def farViolation (e host addr typ : Nat) (write : Bool) (slice : Option Nat) (win : Option Nat) (s : State) : State :=
  s.violation
    { dtb := 0, typ, addrKind := 1, addr := addr % 2 ^ 52, reqKind := 4, host, port := 0, engine := e, reqId := 0,
      contrib := 0, vseq := 0, op := if write then (if slice.isSome then 2 else 1) else 0, object := win.getD 0x3FFFF }

/-- Checks 1 to 3 of R87 for an engine: a window with ENGINE = 0 fails check 1 (R323). -/
def engPre (s : State) (h addr : Nat) (write : Bool) : Pre :=
  match matchWindow s h addr with
  | some (_, w, _, _) => if w.engine then preCheck s h addr write else .fail .violation 1 none
  | none => preCheck s h addr write

/-- Has the host been isolated by the home (R205)? -/
def hostGoneNow (s : State) (h : Nat) : Bool :=
  match tget s.home.cohs h with
  | some c => decide (c.st = .reclaim) || decide (c.st = .gone)
  | none => false

/-- The line operation of a far access: a load reads the whole line, a store is a masked or a full-line write (R323). -/
def accOp (a : FarAcc) : LineOp :=
  match a.write with
  | none => .read .cur
  | some (d, m) => .write d m (decide (m = fullMask)) false .noOp

/-- An access whose target lies behind a port, at the partner, or in two places takes a tracker of the pipeline beside its
cluster (assumption 24); it stays at the port while there is none. -/
def accTracker (e id : Nat) (a : FarAcc) (j : Job) (n slot : Nat) (slice : Option Nat) (r : Option Post) (s : State) : State :=
  let bp := e / 8
  if canAlloc s bp .general 1 then
    let t := { newTrk (.eng e id j.contrib) j.host .general (accOp a) a.addr a.deadline with win := n, slot, slice }
    match allocTrk bp t s with
    | (none, s) => s
    | (some k, s) =>
      let s := s.modEng e (fun g => { g with acc := tmod g.acc id (fun a => { a with st := .sent }) })
      match r with
      | some p => applyPost k p s
      | none => s.modTrk k (fun t =>
          { t with st := .wait, gen := some s.xl.curGen, target := .partner, pool := 0, dpa := t.addr, owed := 1 })
  else s

/-- An access leaves the port: the checks of R87, translation on the cluster's die, and the request to its target. -/
def launchAcc (e id : Nat) (s : State) : State :=
  let g := s.eng e
  match tget g.acc id, g.job with
  | some a, some j =>
    if a.dropped then dropAcc e id { s with xl.failed := s.xl.failed.filter (fun f => f.1 != .eng e id) } else
    let write := a.write.isSome
    let fail := fun (k : ErrKind) (vio : Nat) (slice : Option Nat) (win : Option Nat) (s : State) =>
      gotAcc e id (some k) 0#512 true (if k = .violation then farViolation e j.host a.addr vio write slice win s else s)
    let s := if a.st = .port then s.count (cntHost j.host (if write then 8 else 0)) 48 1 else s
    match s.xl.failed.find? (fun f => f.1 == .eng e id) with
    | some f => fail f.2 1 none none { s with xl.failed := s.xl.failed.filter (fun x => x.1 != .eng e id) }
    | none =>
      match engPre s j.host a.addr write with
      | .fail k vio win => fail k vio none win s
      | .go n w slot off slice remote =>
        if hostGoneNow s j.host && w.shared then fail .offline 0 none (some n) s
        else if remote then accTracker e id a j n slot slice none s
        else
          let die := e / 64
          if cacheHit s die n slot then
            let s := s.count (0x1000 + 8 * die) 48 1
            match postCheck s w slot off write with
            | .fail k vio => fail k vio slice (some n) (if k = .unreachable then noteShort n slot die s else s)
            | .go pool target dpa also =>
              let acc : LAcc :=
                { who := .eng e id, host := j.host, cached := false, op := accOp a, addr := a.addr, pool, dpa, win := n,
                  shared := w.shared, mirror := w.mirror, rw := w.rw, deadline := a.deadline, slice, contrib := j.contrib,
                  second := false }
              let send := fun (dst : Nat) (b : UBody) =>
                injectUnit (mkUnit (planeOf pool) (clusterStop (e / 8)) dst 3 a.deadline (accLen acc) (some j.host) b)
                  (s.modEng e (fun g => { g with acc := tmod g.acc id (fun a => { a with st := .sent, gen := some s.xl.curGen }) }))
              match target, also with
              | .hbm, none => send (memStop (chanOfLine s (hlineOf s dpa))) (.mem acc)
              | .tick, none => send (tickStop (chanOfLine s (hlineOf s dpa))) (.tick acc)
              | _, _ => accTracker e id a j n slot slice (some (.go pool target dpa also)) s
          else
            startMiss die n slot (.eng e id)
              (s.modEng e (fun g => { g with acc := tmod g.acc id (fun a => { a with st := .xlate }) }))
  | some a, none => if a.dropped then dropAcc e id s else s
  | none, _ => s

/-- R268: has an access all that it needs to go on: a tracker, where its target asks for one (assumption 24)? -/
def accReady (s : State) (e : Nat) (a : FarAcc) : Bool :=
  match (s.eng e).job with
  | none => true
  | some j =>
    match engPre s j.host a.addr a.write.isSome with
    | .fail _ _ _ => true
    | .go n w slot off _ remote =>
      let own := !remote && (!cacheHit s (e / 64) n slot || (match postCheck s w slot off a.write.isSome with
        | .fail _ _ | .go _ .hbm _ none | .go _ .tick _ none => true
        | .go _ _ _ _ => false))
      own || canAlloc s (e / 8) .general 1

/-- The accesses at a cluster's port, as candidates of its arbiter: (engine, access) and the candidate. -/
def portCands (s : State) (c : Nat) : List ((Nat × Nat) × Cand) :=
  let all := (List.range 8).flatMap (fun r =>
    ((s.eng (8 * c + r)).acc.filter (fun x => atPort s (8 * c + r) x.1 x.2 && accReady s (8 * c + r) x.2)).map (fun x => ((8 * c + r, x.1), x.2)))
  all.zipIdx.map (fun x =>
    (x.1.1, { idx := x.2, req := x.1.1.1 % 8, deadline := x.1.2.deadline, since := x.1.2.since, priv := false, first := 0 }))

/-- One decision of an engine memory port, an arbiter of R268 with the cluster's 8 engines as requesters. A loser's hint
reaches its engine (R273, R354). -/
def portGrant (c : Nat) (s : State) : State :=
  let id := ArbId.enginePort c
  let a := arbOf s id
  let xs := portCands s c
  let cs := xs.map Prod.snd
  match grantOf s.now a.ptr 8 cs with
  | none => s
  | some w =>
    match xs[w.idx]? with
    | none => s
    | some ((e, n), _) =>
      let base := fun r => 0x4000 + c * 0x100 + r * 0x20
      let s := cs.foldl (fun s x => if x.idx = w.idx then s else s.count (base x.req + 8) 48 1) s
      let s := countGrant (base w.req) (grantWait s a w cs) s
      let s := afterGrant id 8 5 144 w cs s
      let s := ((arbOf s id).hints).foldl (fun s h => s.modEng (8 * c + h.1) (fun g => { g with hint := h.2 })) s
      launchAcc e n s

/-- A discarded load: its request may have left, and its answer is dropped on arrival (R365, R380). -/
def discardAcc (e id : Nat) (s : State) : State :=
  match tget (s.eng e).acc id with
  | none => s
  | some a =>
    match a.st with
    | .port | .got _ _ _ => dropAcc e id s
    | .xlate | .sent => s.modEng e (fun g => { g with acc := tmod g.acc id (fun a => { a with dropped := true }) })

/-- The answer of a far access, once it has come: kind, data, poison. -/
def accAnswer (s : State) (e id : Nat) : Option (Option ErrKind × Line × Bool) :=
  match s.rings.engAns.find? (fun x => x.1 == .eng e id) with
  | some x => some (x.2.kind, x.2.data, x.2.poison)
  | none =>
    match s.xl.failed.find? (fun f => f.1 == .eng e id) with
    | some f => some (some f.2, 0#512, true)
    | none => match (tget (s.eng e).acc id).map FarAcc.st with
      | some (.got k d p) => some (k, d, p)
      | _ => none

/-- Take the answer of a far access. A fill request's denial is a violation (R83). -/
def takeAnswer (e id : Nat) (s : State) : Option (Option ErrKind × Line × Bool) × State :=
  match accAnswer s e id with
  | none => (none, s)
  | some (k, d, p) =>
    let denied := s.xl.failed.any (fun f => f.1 == .eng e id && decide (f.2 = .violation))
    let a := tget (s.eng e).acc id
    let host := ((s.eng e).job.map Job.host).getD 0
    let s := if denied then farViolation e host ((a.map FarAcc.addr).getD 0) 1 ((a.bind FarAcc.write).isSome) none none s else s
    let s := match a, k with
      | some a, none =>
        match a.write with
        | some (_, m) => s.count (cntHost host 0x20) 48 (maskBytes m)
        | none => (s.count (cntHost host 0x18) 48 64).count (cntHost host 0x50) 48 (b2n p)
      | some a, some _ => if a.write.isSome then s else s.count (cntHost host 0x50) 48 1
      | none, _ => s
    (some (k, d, p),
     { s with
       rings.engAns := s.rings.engAns.filter (fun x => x.1 != .eng e id),
       xl.failed := s.xl.failed.filter (fun f => f.1 != .eng e id) })

/-! ## Records and events of the mill -/

/-- The information bytes: queue in bytes 0-2, engine in byte 3, producer binding in bytes 4-6, job status in byte 7. -/
def enInfo (e : Nat) (j : Job) : Nat := j.queue + e * 2 ^ 24 + j.prod * 2 ^ 32 + j.status * 2 ^ 56

/-- A record of an engine, with the submitting host. -/
def engRecord (cls : Nat) (sev : Sev) (e : Nat) (j : Job) (s : State) : State :=
  s.raiseRec { mkRec s cls sev .engine e (enInfo e j) with host := some j.host }

/-- Statuses of the completion record. -/
def stRunning : Nat := 0
def stOk : Nat := 1
def stFault : Nat := 2
def stBadDesc : Nat := 3
def stNoProgram : Nat := 4
def stDenied : Nat := 5
def stAborted : Nat := 6

/-- The event and the record of a job's status (R326, R333, R336 and the class table). -/
def reportStatus (e : Nat) (s : State) : State :=
  match (s.eng e).job with
  | none => s
  | some j =>
    match j.status with
    | 2 =>
      let s := s.setEvent Reg.millEvents 2
      let due := match (s.eng e).lastFault with | some t => decide (t + 1000000 ≤ s.now) | none => true
      if due then engRecord 0x72 .corrected e j (s.modEng e (fun g => { g with lastFault := some s.now })) else s
    | 3 => engRecord 0x70 .corrected e j (s.setEvent Reg.millEvents 0)
    | 4 => engRecord 0x71 .corrected e j (s.setEvent Reg.millEvents 1)
    | 5 => s.setEvent Reg.millEvents 9
    | 6 => s.setEvent Reg.millEvents 3
    | _ => s

/-! ## The window map, R319, R322 -/

/-- Where an engine address leads. -/
inductive Region where
  | bench (a : Nat)
  | none
  | slot (s off : Nat)
  | bad
  deriving DecidableEq, Repr

/-- R319. -/
def addrRegion (a : Nat) : Region :=
  if a < 0x40000 then .bench a
  else if a < 2 ^ 56 then .none
  else if a / 2 ^ 56 ≤ 16 ∧ a / 2 ^ 52 % 16 = 0 then .slot (a / 2 ^ 56 - 1) (a % 2 ^ 52)
  else .bad

/-- The violation ENGINE_MAP of R322: `op` 0 a load, 1 a store, 5 a queue instruction. -/
def mapViolation (e : Nat) (j : Job) (addr slot op : Nat) (s : State) : State :=
  s.violation
    { dtb := 0, typ := 6, addrKind := 1, addr := addr % 2 ^ 52, reqKind := 4, host := j.host, port := 0, engine := e, reqId := 0,
      contrib := 0, vseq := 0, op, object := slot }

/-- Checks 1 to 3 of R322 for a load or store of `n` bytes. -/
def windowSlot (j : Job) (slot off n : Nat) (write : Bool) : Option MapSlot :=
  match j.slots[slot]? with
  | some m => if (m.typ = 1 ∨ m.typ = 2) ∧ off + n ≤ m.len ∧ (m.write || !write) then some m else none
  | none => none

/-- Check 1 of R322 for a queue instruction; the binding kind must be the instruction's own (assumption 31). -/
def queueSlot (j : Job) (slot : Nat) (producer : Bool) : Option MapSlot :=
  match j.slots[slot]? with
  | some m => if m.typ = 3 ∧ m.write = producer then some m else none
  | none => none

/-- The slot that the device uses for the completion record (assumption 67). -/
def recordAddr (j : Job) : Nat := ((j.slots[j.compSlot]?).map MapSlot.base).getD 0 + j.compOff

/-! ## The bench, R321, R376 -/

/-- `n` bytes of the bench at an address that is a multiple of `n`, n at most 8. -/
def benchNat (b : Tbl Word) (a n : Nat) : Nat := (tgetD b (a / 8) 0#64).toNat / 2 ^ (8 * (a % 8)) % 2 ^ (8 * n)

/-- Write `n` bytes of the bench. -/
def benchPut (a n v : Nat) (b : Tbl Word) : Tbl Word :=
  let w := tgetD b (a / 8) 0#64
  tput 0#64 b (a / 8) (setFld w (8 * (a % 8) + 8 * n - 1) (8 * (a % 8)) v)

/-- A 64-byte line of the bench. -/
def benchLine (b : Tbl Word) (a : Nat) : Line :=
  BitVec.ofNat 512 ((List.range 8).foldl (fun x k => x + (tgetD b (a / 8 + k) 0#64).toNat * 2 ^ (64 * k)) 0)

/-- Write the bytes of a line that a mask names. -/
def benchPutLine (a : Nat) (d : Line) (mask : BitVec 64) (b : Tbl Word) : Tbl Word :=
  let l := lineMerge (benchLine b a) d mask
  (List.range 8).foldl (fun b k => tput 0#64 b (a / 8 + k) (BitVec.ofNat 64 (lineNat l (8 * k) 8))) b

/-- Write whole words. -/
def benchWords (a : Nat) (ws : List Word) (b : Tbl Word) : Tbl Word :=
  ws.zipIdx.foldl (fun b x => tput 0#64 b (a / 8 + x.2) x.1) b

/-- A scalar load's value from the bytes read. -/
def loadBytes : LoadK → Nat
  | .b | .bu => 1 | .h | .hu => 2 | .w | .wu => 4 | .d => 8
def loadVal (k : LoadK) (x : Nat) : Word :=
  match k with
  | .b => (BitVec.ofNat 8 x).signExtend 64
  | .h => (BitVec.ofNat 16 x).signExtend 64
  | .w => (BitVec.ofNat 32 x).signExtend 64
  | _ => BitVec.ofNat 64 x

/-! ## The end of a job, R330, R331, R369 -/

/-- The shadow registers as a job that ends with ENGINE_FAULT leaves them (R369). -/
def shadowOf (a : Arch) (j : Job) (inner now : Nat) : Shadow :=
  { epc := a.epc, status := a.status, cause := a.cause, faultAddr := a.faultAddr, loop0 := a.loop0, loop1 := a.loop1,
    g1 := a.gr 1, g2 := a.gr 2, g31 := a.gr 31, mode := a.mode,
    info := mkFld 63 63 1 ||| mkFld 55 48 inner ||| mkFld 47 32 j.version ||| mkFld 31 20 j.program ||| mkFld 17 0 j.prod,
    dtb := now }

/-- The instructions issued and not completed are discarded, with the registers as they stood before the oldest (R360,
R365): their slots move to TD_WASTED (R534). -/
def discardFlights (e : Nat) (s : State) : State :=
  let g := s.eng e
  match g.flights with
  | [] => s
  | f :: _ =>
    let s := wasteIssued e (g.issued - f.num) s
    let s := (g.flights.map Flight.id).eraseDups.foldl (fun s id => discardAcc e id s) s
    s.modEng e (fun g => { g with arch := f.before, flights := [], issued := f.num })

/-- A round's job has ended; when all have, the queue unit issues RELEASE, or REWIND (R325, R334). -/
def roundJobEnded (q : Nat) (rewind : Bool) (s : State) : State :=
  match tget s.qu.rounds q with
  | none => s
  | some r =>
    let r := { r with ended := r.ended + 1, rewind := r.rewind || rewind }
    let s := { s with qu.rounds := tset s.qu.rounds q r }
    if r.ended = r.count then
      let s := if r.rewind then
          (s.setEvent Reg.millEvents 7).raise 0x74 .contained .queue q q
        else s
      if queueServed s q = some false then submitOp q .roundEnd .none s
      else routeOp q (.cmd (if r.rewind then .rewind else .release)) .none { s with qu.rounds := terase s.qu.rounds q }
    else s

/-- Stream queues that an engine's job holds. -/
def heldQueues (s : State) (e : Nat) : List Nat := (s.mill.holds.filter (fun h => h.2 == e)).map (·.1)

/-- CNT_CTL as MFS reads it, R339. -/
def cntCtl (s : State) (e : Nat) (j : Job) (a : Arch) : Word :=
  mkFld 63 63 (b2n j.readEn) ||| mkFld 58 56 a.sel
    ||| (if j.readEn then mkFld 47 0 (tgetD s.cnt.live (cntTd e (8 * a.sel)) 0) else 0#64)

/-- Whose bench an engine keeps for step 9 of R327 when its job ends: the host of the last job that began to execute, nobody's after a
job that ended in STARTING (assumption 61). -/
def benchOwner (g : Eng) (j : Job) : Option Nat :=
  if g.st = 2 then some j.host else if g.st = 1 then none else g.lastHost

/-- R330 steps 3 to 5, and the engine's next state: IDLE, or HALTED with its spill copy (R388). -/
def finishJob (e : Nat) (s : State) : State :=
  match (s.eng e).job with
  | none => s
  | some j =>
    let s := countIdle e s
    let held := heldQueues s e
    let s := { s with mill.holds := s.mill.holds.filter (fun h => h.2 != e) }
    let s := held.foldl (fun s q => routeOp q (.cmd .rewind) .none s) s
    let s := s.count (if j.status = stOk then 0x10B8 else 0x10C0) 48 1
    let s := s.count (cntHost j.host 0x78) 48 1
    let s := s.wb (Reg.engCtl e) 2 false
    let s := s.modEng e (fun g =>
      { g with
        st := if j.halts then 3 else 0, job := none, lastHost := benchOwner g j, wait := .none, flights := [], issued := 0, counted := [], sb := [],
        acc := g.acc.filter (fun a => a.2.dropped), storeErr := none, slotsDone := 0,
        spill := if j.halts then some (g.arch, g.bench, cntCtl s e j g.arch) else g.spill })
    roundJobEnded j.queue false (leaveVersion j s)

/-- The first word of the completion record. -/
def recordWord0 (valid : Bool) (status : Nat) (j : Job) : Word :=
  mkFld 63 63 (b2n valid) ||| mkFld 55 52 status ||| mkFld 49 32 j.prod ||| mkFld 31 0 j.seq

/-- A word at a byte offset of a line, and its mask. -/
def wordAt (off : Nat) (v : Word) : Line × BitVec 64 :=
  (linePut 0#512 off 8 v.toNat, BitVec.ofNat 64 (255 * 2 ^ off))

/-- R331: bytes 8-31 of the record, in its line. -/
def recordBody (j : Job) : Line × BitVec 64 :=
  let o := recordAddr j % 64
  let w3 := mkFld 63 56 j.code ||| mkFld 55 55 (b2n j.ds) ||| mkFld 54 54 (b2n j.double) ||| mkFld 47 0 (min j.cycles (2 ^ 48 - 1))
  (linePut (linePut (linePut 0#512 (o + 8) 8 j.res0.toNat) (o + 16) 8 j.res1.toNat) (o + 24) 8 w3.toNat,
   BitVec.ofNat 64 ((2 ^ 24 - 1) * 2 ^ (o + 8)))

/-- The record is written once the store buffer is empty and no write of word 0 is on its way (R330, R331); a job whose
completion slot failed its check writes none. -/
def writeRecord (e : Nat) (s : State) : State :=
  let g := s.eng e
  match g.job with
  | none => s
  | some j =>
    if j.step ≠ .drain ∨ !g.sb.isEmpty ∨ (tget g.acc accRunning).isSome then s
    else if !j.compOk then finishJob e s
    else
      let j := { j with step := .record, cycles := if g.st = 2 then nsCycles (s.now - j.beginAt) else 0 }
      newAcc e accRecord (recordAddr j) (some (recordBody j)) (s.modJob e (fun _ => j))

/-- R240: an engine contributor whose running job ends with another status than OK is absent from the open tick. -/
def contribEnds (e status : Nat) (s : State) : State :=
  match (s.eng e).job.bind Job.contrib with
  | some c =>
    let granted := match tget s.tick.contribs c with
      | some k => k.engine && some k.host == (s.eng e).job.map Job.host
      | none => false
    if (s.eng e).st = 2 ∧ status ≠ stOk ∧ granted = true ∧ s.tick.running = true then
      { s with tick.openAcct := { s.tick.openAcct with absent := insertNat c s.tick.openAcct.absent } }
    else s
  | none => s

/-- The job ends with a status: later instructions are discarded, every outstanding load is dropped, the store buffer drains
(R330). -/
def endJob (e status : Nat) (s : State) : State :=
  let s := discardFlights e (countIdle e s)
  let s := match tget (s.eng e).acc accProbe with | some _ => discardAcc e accProbe s | none => s
  let a := (s.eng e).arch
  let s := contribEnds e status s
  let s := s.modEng e (fun g => { g with wait := .none })
  let s := s.modJob e (fun j =>
    { j with
      step := .drain, status,
      res0 := if status = stOk then a.gr 1 else if status = stFault then a.epc else 0#64,
      res1 := if status = stOk then a.gr 2 else if status = stFault then a.faultAddr else 0#64,
      code := if status = stFault then fld a.cause 7 0 else 0, ds := decide (status = stFault) && bitAt a.cause 62,
      double := decide (status = stFault) && bitAt a.cause 63 })
  writeRecord e (reportStatus e s)

/-- R369: the job ends with ENGINE_FAULT: CAUSE, EPC and FAULT_ADDR take their final values and the shadow registers are
written. -/
def endFault (e code : Nat) (ds double : Bool) (epc : Nat) (fault : Word) (inner : Nat) (halts : Bool) (s : State) : State :=
  let s := discardFlights e s
  let s := s.modArch e (fun a =>
    { a with
      cause := mkFld 63 63 (b2n double) ||| mkFld 62 62 (b2n ds) ||| mkFld 7 0 code, epc := mkFld 17 0 epc, faultAddr := fault })
  let s := match (s.eng e).job with
    | some j => s.modEng e (fun g => { g with shadow := shadowOf g.arch j inner s.now })
    | none => s
  endJob e stFault (s.modJob e (fun j => { j with halts }))

/-! ## Exceptions, R363-R374 -/

/-- R366: is g31 a valid stack pointer, up to `top`? -/
def stackOk (sp top : Nat) : Bool := sp % 64 == 0 && decide (0x40 ≤ sp) && decide (sp ≤ top)

/-- The registers after step 5 of R365, and the next address (step 6). -/
def entryArch (code epc : Nat) (fault : Word) (ds : Bool) (a : Arch) : Arch :=
  { a with
    epc := mkFld 17 0 epc, cause := mkFld 62 62 (b2n ds) ||| mkFld 7 0 code, faultAddr := fault,
    status := clrBit (clrBit (setBit a.status 0) 2) 3, pc := a.evec.toNat + code * 64, slot := none }

/-- The exception frame, R365: EPC, CAUSE and FAULT_ADDR as step 5 sets them, the rest as it stood. -/
def entryFrame (a b : Arch) : List Word :=
  [b.epc, a.status, b.cause, b.faultAddr, a.loop0, a.loop1, a.gr 1, a.gr 2]

/-- Steps 3 to 6 of R365, once the store buffer is empty; an invalid stack pointer halts the engine (R366). -/
def enterHandler (e code epc : Nat) (fault : Word) (ds : Bool) (s : State) : State :=
  let a := (s.eng e).arch
  let sp := (a.gr 31).toNat
  let b := entryArch code epc fault ds a
  if stackOk sp 0x40000 then
    s.modEng e (fun g =>
      { g with
        wait := .none, bench := benchWords (sp - 64) (entryFrame a b) g.bench,
        arch := b.setG 31 (BitVec.ofNat 64 (sp - 64)) })
  else
    endFault e code ds true epc fault 0 true (s.modArch e (fun _ => { b with pc := a.pc }))

/-- An exception is raised with the registers as they stand: later instructions are discarded, the store buffer drains, the
handler is entered (R364, R365); with STATUS.HND = 1 the job ends (R367). `own` is the instruction that raised it. -/
def takeException (e code epc own : Nat) (fault : Word) (ds : Bool) (s : State) : State :=
  let s := discardFlights e s
  if (s.eng e).arch.hnd then endFault e 9 false false own fault code false s
  else if (s.eng e).sb.isEmpty then enterHandler e code epc fault ds s
  else s.modEng e (fun g => { g with wait := .entry code epc fault.toNat ds })

/-- A synchronous exception of the instruction at the code address: in a delay slot EPC is the branch or jump and DS is 1
(R371). Its slot was not counted. -/
def raiseSync (e code : Nat) (fault : Word) (s : State) : State :=
  let a := (s.eng e).arch
  takeException e code ((a.slot.map DSlot.br).getD a.pc) a.pc fault a.slot.isSome (countIdle e s)

/-- The code of a failed access, R362. -/
def accCode (k : Option ErrKind) : Nat := if k = some .violation then 5 else 6

/-- The next instruction to complete: the registers before the oldest far load, else the registers (R361). -/
def oldestArch (g : Eng) : Arch := ((g.flights.head?).map Flight.before).getD g.arch

/-- Asynchronous events that are due are taken at an instruction boundary, never between a branch or jump and its delay slot
(R364): a store error (R368), ABORT (R333), the watchdog (R375). A store error is taken at once while the engine drains. -/
def settle (e : Nat) (s : State) : State :=
  let g := s.eng e
  match g.job with
  | none => s
  | some j =>
    let a := oldestArch g
    let code := fun (k : ErrKind) => accCode (some k)
    let draining : Bool := match g.wait with | .entry _ _ _ _ => true | _ => false
    let between : Bool := match g.wait with | .none | .fetch _ | .sleep _ => a.slot.isNone | _ => false
    match g.storeErr with
    | some (k, at_) =>
      if j.step = .running ∧ draining = true then
        endFault e (code k) false false a.pc (BitVec.ofNat 64 at_) 0 false s
      else if j.step = .running ∧ between = true then
        endFault e (code k) false false a.pc (BitVec.ofNat 64 at_) 0 false s
      else if j.step = .drain ∧ j.status = stOk then
        endFault e (code k) false false a.pc (BitVec.ofNat 64 at_) 0 false s
      else s
    | none =>
      if j.step = .running ∧ between = true then
        if j.abort then endJob e stAborted (discardFlights e s)
        else if j.wdogDue then
          let s := s.modEng e (fun g => { g with wait := .none })
          takeException e 8 a.pc a.pc 0#64 false (s.modJob e (fun j => { j with wdogDue := false }))
        else s
      else s

/-- What follows when the store buffer may have become empty: exception entry, the end of a job. -/
def drained (e : Nat) (s : State) : State :=
  let g := s.eng e
  if !g.sb.isEmpty then s
  else match g.wait with
    | .entry code epc fault ds => settle e (enterHandler e code epc (BitVec.ofNat 64 fault) ds s)
    | _ => writeRecord e s

end Sys2Proof.Machine
end

