-- ==== Sys2Proof/Machine/MillRun.lean ====
section
/-! DEFINITION. How an engine runs an instruction: fetch, issue under outstanding far loads, loads and stores, branches, loops,
queue and system instructions (R317-R322, R337-R356, R360-R384).
Assumptions 48, 51. -/
namespace Sys2Proof.Machine

/-- The instruction completes with the registers `a` (R360), and the engine stands at an instruction boundary. -/
def complete (e : Nat) (a : Arch) (s : State) : State :=
  settle e ((countIssue e s).modEng e (fun g => { g with arch := stepPc a }))

/-- A branch or jump completes: its delay slot is next, or the next address where the slot is annulled. -/
def completeTo (e : Nat) (a : Arch) (s : State) : State :=
  settle e ((countIssue e s).modEng e (fun g => { g with arch := a }))

/-- An instruction can raise its exception only when every earlier one has completed (R361); until then it waits. -/
def raiseInOrder (e code : Nat) (fault : Word) (f : State → State) (s : State) : State :=
  if (s.eng e).flights.isEmpty then raiseSync e code fault (f s) else s

/-- Registers that outstanding far loads are to write: general, vector. -/
def pendingRegs (g : Eng) : List Nat × List Nat :=
  ((g.flights.filter (fun f => f.kind.isSome)).map Flight.rd, (g.flights.filter (fun f => f.kind.isNone)).map Flight.rd)

/-- Does the instruction use a register that an outstanding far load is to write (R361)? -/
def hazard (g : Eng) (op : EOp) : Bool :=
  (eopRegs op).1.any (fun r => r != 0 && (pendingRegs g).1.contains r)
    || (eopRegs op).2.any (fun r => (pendingRegs g).2.contains r)

/-! ## Loads, R319-R323, R343, R378-R381 -/

/-- The load of `n` bytes from a line gives its value to the register: a general one, or a vector one for a VLD. -/
def landLoad (k : Option LoadK) (rd off : Nat) (l : Line) (a : Arch) : Arch :=
  match k with
  | some k => a.setG rd (loadVal k (lineNat l off (loadBytes k)))
  | none => a.setV rd l

/-- A load through a window slot issues: at most 16 outstanding; through a WINDOW_DEVICE slot only when every earlier
instruction has completed and the store buffer is empty; it joins an outstanding load to the same line (R361, R378-R381). -/
def farLoad (e : Nat) (k : Option LoadK) (rd eaddr : Nat) (m : MapSlot) (off : Nat) (s : State) : State :=
  let g := s.eng e
  let line := (m.base + off) / 64 * 64
  let device := decide (m.typ = 2)
  let mine := if device || m.tick then [] else g.sb.filter (fun b => b.line == line)
  if g.flights.any Flight.device || (device && !(g.flights.isEmpty && g.sb.isEmpty)) || g.flights.length ≥ 16
      || mine.any SbEnt.issued then s
  else
    let fwd := mine.foldl (fun (x : Line × BitVec 64) b => (lineMerge x.1 b.data b.mask, x.2 ||| b.mask)) (0#512, 0#64)
    let joined := if device then none
      else (g.flights.find? (fun f => ((tget g.acc f.id).map (fun a => a.addr == line &&
        (match a.st with | .got _ _ _ => false | _ => true))).getD false)).map Flight.id
    match joined.orElse (fun _ => tfree g.acc 0 16) with
    | none => s
    | some id =>
      let f : Flight :=
        { num := g.issued, id, kind := k, rd, eaddr, fwdLine := fwd.1, overMask := fwd.2, device, before := g.arch }
      let s := (countIssue e s).modEng e (fun g => { g with flights := g.flights ++ [f], arch := stepPc g.arch })
      if joined.isSome then s else newAcc e id line none s

/-- A load of a general register, or a VLD. `ue`: the bench words read hold an uncorrectable error (R321). -/
def runLoad (e : Nat) (k : Option LoadK) (rd : Nat) (addr : Word) (ue : Bool) (s : State) : State :=
  let g := s.eng e
  let n := match k with | some k => loadBytes k | none => 64
  let at_ := addr.toNat
  match g.job with
  | none => s
  | some j =>
    if at_ % n ≠ 0 then raiseInOrder e 3 addr id s
    else match addrRegion at_ with
      | .bench b =>
        if ue then raiseInOrder e 6 addr id s
        else complete e (landLoad k rd (b % 64) (benchLine g.bench (b / 64 * 64)) g.arch) s
      | .none => raiseInOrder e 4 addr id s
      | .bad => raiseInOrder e 5 addr (mapViolation e j at_ 0x3FFFF 0) s
      | .slot i off =>
        match windowSlot j i off n false with
        | none => raiseInOrder e 5 addr (mapViolation e j at_ i 0) s
        | some m => farLoad e k rd at_ m off s

/-- The oldest far loads whose data have arrived complete in program order (R361); one that ends in error, or whose data are
poisoned, raises its exception (R362). The fuel bounds the loads. -/
def landFlights : Nat → Nat → State → State
  | 0, _, s => s
  | n + 1, e, s =>
    let g := s.eng e
    match g.flights with
    | [] => s
    | f :: rest =>
      match (tget g.acc f.id).map FarAcc.st with
      | some (.got k d p) =>
        if k.isSome || p then
          let s := discardFlights e (countIdle e s)
          raiseSync e (accCode k) (BitVec.ofNat 64 f.eaddr) s
        else
          let land := landLoad f.kind f.rd (f.eaddr % 64) (lineMerge d f.fwdLine f.overMask)
          let s := s.modEng e (fun g =>
            { g with
              flights := rest.map (fun x => { x with before := land x.before }), arch := land g.arch,
              acc := if rest.any (fun x => x.id == f.id) then g.acc else terase g.acc f.id })
          landFlights n e s
      | _ => s

/-- FAR_LOAD_COMPLETE: the line of far access `id` arrives. A sleep of WAIT.H ends early (R354). -/
def farLoadComplete (e id : Nat) (s : State) : State :=
  let g := s.eng e
  if id ≥ 16 then s
  else match tget g.acc id with
    | none => s
    | some a =>
      if a.dropped then
        (match takeAnswer e id s with
        | (some _, s) => dropAcc e id s
        | (none, s) => s)
      else if !g.flights.any (fun f => f.id == id) then s
      else match takeAnswer e id s with
        | (none, s) => s
        | (some (k, d, p), s) =>
          let s := gotAcc e id k d p (countIdle e s)
          let s := s.modEng e (fun g => { g with wait := match g.wait with | .sleep _ => .none | w => w })
          settle e (landFlights 17 e s)

/-! ## Stores, R343, R377-R381, R384 -/

/-- A store of bytes of a line through a window slot: into the store buffer, merging through a WINDOW_NORMAL slot that is not
marked TICK; through a WINDOW_DEVICE slot as its own write, when every earlier store is acknowledged. -/
def farStore (e eaddr : Nat) (m : MapSlot) (off : Nat) (d : Line) (mask : BitVec 64) (s : State) : State :=
  let g := s.eng e
  let line := (m.base + off) / 64 * 64
  let ent : Nat → SbEnt := fun id =>
    { id, line, eline := eaddr / 64 * 64, data := lineMerge 0#512 d mask, mask, issued := decide (m.typ = 2),
      merges := decide (m.typ = 1) && !m.tick, device := decide (m.typ = 2), at_ := s.now }
  let free := ((List.range 16).map (· + 16)).find? (fun i => !g.sb.any (fun b => b.id == i))
  if m.typ = 2 then
    match g.sb, free with
    | [], some id =>
      newAcc e id line (some (d, mask))
        ((countIssue e s).modEng e (fun g => { g with sb := [ent id], wait := .device }))
    | _, _ => s
  else if !m.tick && g.sb.any (fun b => b.merges && !b.issued && b.line == line) then
    complete e g.arch (s.modEng e (fun g =>
      { g with
        sb := g.sb.map (fun b =>
          if b.merges && !b.issued && b.line == line then
            { b with data := lineMerge b.data d mask, mask := b.mask ||| mask, at_ := s.now }
          else b) }))
  else if g.sb.length < 16 then
    match free with
    | some id => complete e g.arch (s.modEng e (fun g => { g with sb := g.sb ++ [ent id] }))
    | none => s
  else s

/-- A store of `n` bytes whose bytes in their line are given: every earlier instruction has completed (R380). -/
def runStore (e n : Nat) (addr : Word) (d : Line) (mask : BitVec 64) (s : State) : State :=
  let g := s.eng e
  let at_ := addr.toNat
  if !g.flights.isEmpty then s
  else match g.job with
    | none => s
    | some j =>
      if at_ % n ≠ 0 then raiseSync e 3 addr s
      else match addrRegion at_ with
        | .bench b =>
          complete e g.arch (s.modEng e (fun g => { g with bench := benchPutLine (b / 64 * 64) d mask g.bench }))
        | .none => raiseSync e 4 addr s
        | .bad => raiseSync e 5 addr (mapViolation e j at_ 0x3FFFF 1 s)
        | .slot i off =>
          match windowSlot j i off n true with
          | none => raiseSync e 5 addr (mapViolation e j at_ i 1 s)
          | some m => farStore e at_ m off d mask s

/-- Bytes `off .. off+n-1` of a line as a mask. -/
def maskOf (off n : Nat) : BitVec 64 := BitVec.ofNat 64 ((2 ^ n - 1) * 2 ^ off)

/-- The bytes of the active lanes of a vector register. -/
def laneMask (typ : Nat) (p : Word) : BitVec 64 :=
  BitVec.ofNat 64 ((List.range (laneCount typ)).foldl (fun a i =>
    if p.getLsbD i then a + (2 ^ laneBytes typ - 1) * 2 ^ (laneBytes typ * i) else a) 0)

/-! ## Branches, jumps and loops, R344-R348, R372 -/

/-- What stops a branch or jump: it stands in a delay slot (R345), or at END or END - 4 of an active level (R348). -/
def branchStop (a : Arch) : Option Nat := if a.slot.isSome then some 2 else if atLoopEnd a then some 1 else none

/-- LOOP and LOOPI. -/
def runLoop (e count len w : Nat) (v : Version) (s : State) : State :=
  let a := (s.eng e).arch
  let start := a.pc + 4
  let end_ := a.pc + 4 * len
  let nested := [0, 1].all (fun n => !a.act n ||
    (decide (fld (a.loopReg n) 17 0 ≤ start) && decide (end_ < fld (a.loopReg n) 35 18)))
  if a.slot.isSome then raiseInOrder e 2 (BitVec.ofNat 64 w) id s
  else if len = 0 ∨ (a.act 0 ∧ a.act 1) ∨ count ≥ 2 ^ 28 ∨ end_ ≥ 4 * v.code.length ∨ !nested then
    raiseInOrder e 1 (BitVec.ofNat 64 w) id s
  else if count = 0 then completeTo e { a with pc := end_ + 4 } s
  else
    let n := if a.act 0 then 1 else 0
    let a := a.setLoop n (mkFld 63 36 count ||| mkFld 35 18 end_ ||| mkFld 17 0 start)
    completeTo e { a with status := setBit a.status (2 + n), pc := start } s

/-! ## Queue instructions, R351-R353, R381 -/

/-- FAULT_ADDR of a queue instruction on a slot. -/
def slotFault (slot : Nat) : Word := BitVec.ofNat 64 ((slot + 1) * 2 ^ 56)

/-- A queue instruction's request leaves; the engine waits for the answer. -/
def sendQueue (e slot : Nat) (rd bench : Option Nat) (q : Nat) (op : QOp) (s : State) : State :=
  let n := s.mill.asks
  routeOp q op (.eng n)
    ((countIssue e { s with mill.asks := n + 1 }).modEng e (fun g => { g with wait := .queue n rd bench slot }))

/-- Check 1 of R322 fails for a queue instruction. -/
def queueStop (e slot : Nat) (j : Job) (s : State) : State :=
  raiseSync e 5 (slotFault slot) (mapViolation e j ((slot + 1) * 2 ^ 56) slot 5 s)

/-- QPUSH, R351. -/
def runPush (e rd ra slot : Nat) (j : Job) (s : State) : State :=
  let g := s.eng e
  let w := g.arch.gr rd
  let len := commitLen w
  let b := (g.arch.gr ra).toNat
  let words := (len + 7) / 8
  let good := decide (len ≠ 0) && decide (len ≤ 16384)
  if good && (b % 8 != 0 || decide (b + 8 * words > 0x40000)) then raiseSync e 4 (g.arch.gr ra) s
  else match (queueSlot j slot true).bind (fun m => (pcfg? s m.base).map (fun c => (m.base, c.queue))) with
    | none => queueStop e slot j s
    | some (bind, q) =>
      let data := if good then (List.range words).map (fun i => tgetD g.bench (b / 8 + i) 0#64) else []
      sendQueue e slot (some rd) none q (.commit bind w (some data)) s

/-- QPOP, R352. -/
def runPop (e rd ra slot : Nat) (j : Job) (s : State) : State :=
  let b := (s.eng e).arch.gr ra
  if b.toNat % 8 ≠ 0 ∨ b.toNat + 16400 > 0x40000 then raiseSync e 4 b s
  else match queueSlot j slot false with
    | none => queueStop e slot j s
    | some m => sendQueue e slot (some rd) (some b.toNat) m.base .pop s

/-- QREL, R353. -/
def runRel (e : Nat) (c : RelOp) (slot : Nat) (j : Job) (s : State) : State :=
  match queueSlot j slot false with
  | none => queueStop e slot j s
  | some m =>
    sendQueue e slot none none m.base
      (.cmd (match c with | .release => .release | .mark => .mark | .rewind => .rewind)) s

/-- QUEUE_INSTRUCTION_ANSWER: the result is written and the instruction completes, or raises its exception (R360, R362). -/
def queueAnswer (e : Nat) (s : State) : State :=
  let g := s.eng e
  match g.wait with
  | .queue n rd bench slot =>
    match s.mill.answers.find? (fun x => x.1 == n) with
    | none => s
    | some (_, ans) =>
      let s := countIdle e { s with mill.answers := s.mill.answers.filter (fun x => x.1 != n) }
      let s := s.modEng e (fun g => { g with wait := .none })
      let fin := fun (v : Option Word) (b : Tbl Word) (s : State) =>
        let a := match rd, v with | some r, some v => g.arch.setG r v | _, _ => g.arch
        settle e (s.modEng e (fun g => { g with arch := stepPc a, bench := b }))
      match ans with
      | .value v => fin (some v) g.bench s
      | .item h0 h1 data _ _ _ _ =>
        fin (some h0) (match bench with | some b => benchWords b ([h0, h1] ++ data) g.bench | none => g.bench) s
      | .empty => fin (some 0#64) g.bench s
      | .data _ _ | .done => fin none g.bench s
      | .error k => settle e (raiseSync e (accCode (some k)) (slotFault slot) (wasteIssued e 1 s))
  | _ => s

/-! ## System instructions, R337-R339, R354-R356, R370 -/

/-- The fields of STATUS and CAUSE that MTS and RFE write. -/
def statusMask : Word := 0x1F0C#64
def causeMask : Word := 0xC0000000000000FF#64

/-- MFS: a special register; none raises ILLEGAL (R338). -/
def specialVal (s : State) (e : Nat) (j : Job) (a : Arch) (n : Nat) : Option Word :=
  match n with
  | 0 => some a.epc | 1 => some a.status | 2 => some a.cause | 3 => some a.faultAddr | 4 => some a.mode
  | 5 => some a.loop0 | 6 => some a.loop1 | 7 => some a.evec | 8 => some (cntCtl s e j a)
  | _ => none

/-- MTS: reserved fields and fields marked as not written are ignored (R338); FAULT_ADDR and MODE raise ILLEGAL. -/
def setSpecial (n : Nat) (v : Word) (a : Arch) : Option Arch :=
  match n with
  | 0 => some { a with epc := v &&& 0x3FFFC#64 }
  | 1 => some { a with status := (v &&& statusMask) ||| (a.status &&& 1#64) }
  | 2 => some { a with cause := v &&& causeMask }
  | 5 => some { a with loop0 := v }
  | 6 => some { a with loop1 := v }
  | 7 => some { a with evec := v &&& 0x3FFC0#64 }
  | 8 => some (if fld v 58 56 ≤ 4 then { a with sel := fld v 58 56 } else a)
  | _ => none

/-- RFE, R370. -/
def runRfe (e : Nat) (s : State) : State :=
  let g := s.eng e
  let a := g.arch
  let sp := (a.gr 31).toNat
  if stackOk sp 0x3FFC0 then
    let w := fun k => tgetD g.bench (sp / 8 + k) 0#64
    let b := (({ a with
      status := w 1 &&& statusMask, loop0 := w 4, loop1 := w 5, pc := fld (w 0) 17 2 * 4, slot := none }.setG 1 (w 6)).setG 2
        (w 7)).setG 31 (BitVec.ofNat 64 (sp + 64))
    completeTo e b s
  else endFault e 9 false true a.pc 0#64 0 true (countIssue e s)

/-- Which instructions may issue while an earlier far load is incomplete; every other one waits until all have completed. -/
def passesLoads : EOp → Bool
  | .load .. | .vld .. | .br .. | .jump _ | .jal _ | .jr .. | .loop .. | .loopi .. | .waitH .. => true
  | op => (computeOp op newArch).isSome

/-! ## One instruction -/

/-- The instruction at the next code address of a RUNNING engine, fetched as the word `w`. -/
def runOp (e : Nat) (op : EOp) (w : Nat) (ue : Bool) (j : Job) (v : Version) (s : State) : State :=
  let g := s.eng e
  let a := g.arch
  let word := BitVec.ofNat 64 w
  let jumpTo := fun (target : Nat) (link : Option Nat) =>
    match branchStop a with
    | some c => raiseInOrder e c word id s
    | none =>
      let a := match link with | some r => a.setG r (BitVec.ofNat 64 (a.pc + 8)) | none => a
      completeTo e (takeSlot target a) s
  match op with
  | .load k rd ra im => runLoad e (some k) rd (a.gr ra + sext16 im) ue s
  | .vld vd ra im => runLoad e none vd (a.gr ra + sext16 im * 64#64) ue s
  | .store sz rs ra im =>
    let addr := a.gr ra + sext16 im
    let o := addr.toNat % 64
    runStore e (2 ^ sz) addr (linePut 0#512 o (2 ^ sz) ((a.gr rs).toNat % 2 ^ (8 * 2 ^ sz))) (maskOf o (2 ^ sz)) s
  | .vst vs ra im => runStore e 64 (a.gr ra + sext16 im * 64#64) (a.vr vs) fullMask s
  | .vstm vd ra typ p => runStore e 64 (a.gr ra) (a.vr vd) (laneMask typ (a.pr p)) s
  | .br c x y off annul =>
    (match branchStop a with
    | some c => raiseInOrder e c word id s
    | none =>
      if brTaken c (a.gr x) (a.gr y) then completeTo e (takeSlot (relTarget a.pc 15 off) a) s
      else if annul = 1 then completeTo e { a with pc := a.pc + 8 } s
      else completeTo e (takeSlot (a.pc + 8) a) s)
  | .jump off => jumpTo (relTarget a.pc 26 off) none
  | .jal off => jumpTo (relTarget a.pc 26 off) (some 30)
  | .jr rd ra _ =>
    let target := fld (a.gr ra) 17 0
    if (branchStop a).isNone ∧ rd = ra ∧ rd ≠ 0 then raiseInOrder e 1 word id s
    else if (branchStop a).isNone ∧ target % 4 ≠ 0 then raiseInOrder e 3 (BitVec.ofNat 64 target) id s
    else jumpTo target (if rd = 0 then none else some rd)
  | .loop ra len => runLoop e (a.gr ra).toNat len w v s
  | .loopi count len => runLoop e count len w v s
  | .qpush rd ra _ slot => if g.sb.isEmpty then runPush e rd ra slot j s else s
  | .qpop rd ra _ slot => if g.sb.isEmpty then runPop e rd ra slot j s else s
  | .qrel c _ _ slot => if g.sb.isEmpty then runRel e c slot j s else s
  | .waitH _ im =>
    let n := min g.hint im
    let s := (countIssue e s).modEng e (fun g =>
      { g with arch := stepPc a, hint := 0, wait := if n = 0 then .none else .sleep (s.now + 16 * n) })
    settle e s
  | .trap _ im =>
    let b := stepPc a
    takeException e 7 b.pc a.pc (BitVec.ofNat 64 im) false ((countIssue e s).modEng e (fun g => { g with arch := b }))
  | .rfe _ =>
    if a.slot.isSome then raiseSync e 2 word s
    else if !a.hnd then raiseSync e 1 word s
    else runRfe e s
  | .setm _ ra _ =>
    if (a.gr ra).toNat ≥ 8 then raiseSync e 1 word s else complete e { a with mode := a.gr ra } s
  | .mfs rd _ n =>
    let s := countIdle e s
    (match specialVal s e j a n with
    | none => raiseSync e 1 word s
    | some x => complete e (a.setG rd x) s)
  | .mts _ ra n =>
    (match setSpecial n (a.gr ra) a with
    | none => raiseSync e 1 word s
    | some b => complete e b s)
  | .ord k _ => if k = .l ∨ g.sb.isEmpty then complete e a s else s
  | .done _ =>
    let s := countIssue e s
    (match g.storeErr with
    | some (k, at_) => endFault e (accCode (some k)) false false a.pc (BitVec.ofNat 64 at_) 0 false s
    | none => endJob e stOk s)
  | op =>
    match computeOp op a with
    | some b => complete e b s
    | none => s

/-- An engine instruction: a RUNNING engine that does not wait fetches the word at its next code address; the line is filled
first where it is not in the cluster's cache. A reserved word, and an address at or beyond the code length, raise ILLEGAL
(R320, R340), whichever instruction is named; otherwise the fetched word must be the word of the instruction named
(assumption 32). It waits for the results of R361. -/
def engRun (e : Nat) (op : EOp) (ue : Bool) (s : State) : State :=
  if !s.mode.carries || e ≥ 128 then s
  else
    let g := s.eng e
    match g.job with
    | none => s
    | some j =>
      if g.st ≠ 2 ∨ j.step ≠ .running ∨ g.wait ≠ .none then s
      else match jobVersion s j with
        | none => s
        | some v =>
          match codeWord v g.arch.pc with
          | none => raiseInOrder e 1 (BitVec.allOnes 64) id s
          | some w =>
            if !icHit s (e / 8) j.program j.version (g.arch.pc / 64) then
              (countIdle e s).modEng e (fun g => { g with wait := .fetch (g.arch.pc / 64) })
            else if (engDecode w).isNone then raiseInOrder e 1 (BitVec.ofNat 64 w) id s
            else if engEncode op ≠ w then s
            else if hazard g op || (!g.flights.isEmpty && !passesLoads op)
                || (match g.flights with | f :: _ => decide (g.issued - f.num ≥ 32) | [] => false) then s
            else runOp e op w ue j v s

/-- ICACHE_FILL_COMPLETE: the line that an engine waits for is filled from the library area; every engine of the cluster that
waits for it resumes. -/
def fillComplete (e : Nat) (s : State) : State :=
  let g := s.eng e
  match g.wait, g.job with
  | .fetch line, some j =>
    let c := e / 8
    let s := icFill c j.program j.version line s
    (List.range 8).foldl (fun s r =>
      let x := 8 * c + r
      match (s.eng x).wait, (s.eng x).job with
      | .fetch l, some k =>
        if l = line ∧ k.program = j.program ∧ k.version = j.version then
          settle x ((countIdle x s).modEng x (fun g => { g with wait := .none }))
        else s
      | _, _ => s) s
  | _, _ => s

/-- WAIT_H_EXPIRY: the sleep ends. -/
def sleepEnd (e : Nat) (s : State) : State :=
  match (s.eng e).wait with
  | .sleep t => let s := countIdle e (s.reach t); settle e (s.modEng e (fun g => { g with wait := .none }))
  | _ => s

/-! ## Store-buffer entries, R377, R379, R384, R368 -/

/-- Does a drain require the entries to issue (R384)? Exception entry and every end of a job do, and so do a barrier, a device
access, a queue instruction or a DONE that is next. -/
def drainDue (s : State) (e : Nat) : Bool :=
  let g := s.eng e
  match g.job with
  | none => false
  | some j =>
    let next := ((jobVersion s j).bind (fun v => codeWord v g.arch.pc)).bind engDecode
    let device := fun (r : Word) =>
      match addrRegion r.toNat with | .slot i _ => ((j.slots[i]?).map (fun m => m.typ == 2)).getD false | _ => false
    (match g.wait with | .entry _ _ _ _ => true | _ => false) || decide (j.step = .drain) ||
    (match next with
    | some (.ord k _) => decide (k ≠ .l)
    | some (.qpush ..) | some (.qpop ..) | some (.qrel ..) | some (.done _) => true
    | some (.load _ _ ra im) | some (.store _ _ ra im) => device (g.arch.gr ra + sext16 im)
    | some (.vld _ ra im) | some (.vst _ ra im) => device (g.arch.gr ra + sext16 im * 64#64)
    | some (.vstm _ ra _ _) => device (g.arch.gr ra)
    | _ => false)

/-- STORE_BUFFER_ISSUE: entry `k` issues; one not written for 32 D5 cycles does so at that time. An entry to the line of an
older one waits for its acknowledgement (R377, R379). -/
def storeIssue (e k : Nat) (s : State) : State :=
  let g := s.eng e
  match g.sb[k]? with
  | none => s
  | some b =>
    if b.issued || (g.sb.take k).any (fun x => x.line == b.line) || (tget g.acc b.id).isSome then s
    else
      let s := if g.sb.length ≥ 8 || decide (b.mask = fullMask) || drainDue s e then s else s.reach (b.at_ + cyclesNs 32)
      newAcc e b.id b.line (some (b.data, b.mask))
        (s.modEng e (fun g => { g with sb := setAt g.sb k { b with issued := true } }))

/-- The lowest byte of a mask. -/
def lowByte (m : BitVec 64) : Nat := ((List.range 64).find? (fun i => m.getLsbD i)).getD 0

/-- A store's entry is freed. -/
def freeStore (e id : Nat) (s : State) : State :=
  s.modEng e (fun g => { g with acc := terase g.acc id, sb := g.sb.filter (fun b => b.id != id) })

/-- STORE_ACK: the write of a store is acknowledged: its entry is freed; a store through a WINDOW_DEVICE slot completes. -/
def storeAck (e id : Nat) (s : State) : State :=
  let g := s.eng e
  match g.sb.find? (fun b => b.id == id), accAnswer s e id with
  | some b, some (none, _, _) =>
    let s := freeStore e id (takeAnswer e id (countIdle e s)).2
    let s := s.modEng e (fun g => { g with wait := match g.wait with | .sleep _ => .none | w => w })
    if b.device && g.wait = .device then
      settle e (s.modEng e (fun g => { g with wait := .none, arch := stepPc g.arch }))
    else drained e (settle e s)
  | _, _ => s

/-- STORE_ERROR: the write of a store ends in error: a store through a WINDOW_DEVICE slot raises its exception (R362); any
other has completed, and its error ends the job (R368). -/
def storeError (e id : Nat) (s : State) : State :=
  let g := s.eng e
  match g.sb.find? (fun b => b.id == id), accAnswer s e id with
  | some b, some (some k, _, _) =>
    let s := freeStore e id (takeAnswer e id (countIdle e s)).2
    let at_ := b.eline + lowByte b.mask
    if b.device && g.wait = .device then
      let s := s.modEng e (fun g => { g with wait := .none })
      settle e (raiseSync e (accCode (some k)) (BitVec.ofNat 64 at_) (wasteIssued e 1 s))
    else
      let s := s.modEng e (fun g =>
        { g with
          wait := match g.wait with | .sleep _ => .none | w => w,
          storeErr := match g.storeErr with | some x => some x | none => some (k, at_) })
      drained e (settle e s)
  | _, _ => s

end Sys2Proof.Machine
end

