-- ==== Sys2Proof/Machine/MillJob.lean ====
section
/-! DEFINITION. The life of a job: selection, descriptor, host-assisted dispatch, start, watchdog, the record, halted engines and
the registers of the mill (R324-R336, R375, R388, R389).
Assumption 49. -/
namespace Sys2Proof.Machine

/-! ## Selecting, R324, R325 -/

/-- Is the queue a dispatch queue that this member serves, with an unread item and room in its round? -/
def dispatchable (s : State) (c q : Nat) : Bool :=
  match qcfg? s q with
  | none => false
  | some k =>
    k.job && (k.clusters / 2 ^ c) % 2 == 1 && decide (queueServed s q = some false) && !(s.queue q).faulted
      && (s.queue q).firstList.isSome && !roundFull s q

/-- May the dispatcher choose the engine? -/
def engFree (s : State) (e : Nat) : Bool := decide ((s.eng e).st = 0) && (s.eng e).job.isNone && !engOffline s e

/-- A job whose item has been asked for. -/
def askedJob (q ask : Nat) : Job :=
  { step := .selecting, ask, queue := q, prod := 0, seq := 0, host := 0, program := 0, version := 0, slots := [], budget := 0,
    contrib := none, wdog := 0, cntRead := false, keepBench := false, compSlot := 0, compOff := 0, stack := 0#64, benchIn := 0,
    args := [], input := [], inputLen := 0, compOk := false, evec := 0#64, entry := 0, readEn := false, startAt := 0,
    beginAt := 0, wdogFired := false, wdogDue := false, grace := none, abort := false, status := 0, res0 := 0#64, res1 := 0#64,
    code := 0, ds := false, double := false, cycles := 0, halts := false }

/-- A cluster's dispatcher chooses an idle engine (which one is open: assumption 4) and, by its rotating pointer, one of its
dispatch queues, and sends a selection. -/
def dispatchSelect (c : Nat) (s : State) : State :=
  if c ≥ 16 || clusterGone s c then s
  else
    let free := ((List.range 8).map (· + 8 * c)).filter (engFree s)
    let n := s.tabs.dispatch.length
    let at_ := (List.range n).map (fun i => (tgetD s.mill.ptrs c 0 + i) % n)
    match at_.find? (fun i => dispatchable s c (s.tabs.dispatch.getD i 0)) with
    | none => s
    | some i =>
      let (w, s') := s.free
      match free[w.toNat % free.length]? with
      | none => s
      | some e =>
        let q := s.tabs.dispatch.getD i 0
        let s := s'.modEng e (fun g => { g with job := some (askedJob q s.mill.asks) })
        { s with
          mill.ptrs := tset s.mill.ptrs c ((i + 1) % n), mill.selections := s.mill.selections ++ [(e, q)],
          mill.asks := s.mill.asks + 1 }

/-- R325: DISPATCH_SELECT. -/
def execDispatchSelect (c : Nat) (s : State) : Host.Outcome State Fault Refusal := .next (whenCarries (dispatchSelect c) s)

/-- The queue unit handles selection `k`: the first unread item is passed and joins the round. -/
def queueSelection (k : Nat) (s : State) : State :=
  match s.mill.selections[k]? with
  | none => s
  | some (e, q) =>
    if s.mill.selections.take k |>.any (fun x => x.2 == q) then s
    else
      let s := { s with mill.selections := dropAt s.mill.selections k }
      match (s.eng e).job with
      | some j => submitOp q .select (.eng j.ask) s
      | none => s

/-- R325: QUEUE_SELECTION. Selections of one queue are handled in order. -/
def execQueueSelection (k : Nat) (s : State) : Host.Outcome State Fault Refusal := .next (whenCarries (queueSelection k) s)

/-! ## The descriptor, R326, R379 -/

/-- A window map slot from its two words. -/
def slotOfWords (a b : Word) : MapSlot :=
  { typ := fld a 63 62, write := bitAt a 61, base := fld a 51 0, len := fld b 51 0, tick := false }

/-- Are reserved fields 0, and does the slot meet the slot table? -/
def slotMeets (a b : Word) : Bool :=
  let m := slotOfWords a b
  fld a 60 52 == 0 && fld b 63 52 == 0 && m.typ != 0 &&
    (if m.typ = 3 then decide (m.base < 2 ^ 18) && m.len == 0
     else m.base % 64 == 0 && m.len % 64 == 0 && decide (64 ≤ m.len) && decide (m.base + m.len ≤ 2 ^ 52))

/-- Is the queue a stream queue of the cluster (R324)? -/
def streamQueue (s : State) (c q : Nat) : Bool :=
  match qcfg? s q with
  | some k => k.job && !s.tabs.dispatch.contains q && (k.clusters / 2 ^ c) % 2 == 1
  | none => false

/-- The queue slots of a job name what R326 lets them name. -/
def queueSlotsOk (s : State) (c host : Nat) (ms : List MapSlot) : Bool :=
  ms.all (fun m =>
    if m.typ ≠ 3 then true
    else if m.write then
      (match pcfg? s m.base with | some b => b.engine && b.host == host | none => false)
    else streamQueue s c m.base
      && decide ((ms.filter (fun x => decide (x.typ = 3) && !x.write && x.base == m.base)).length = 1))

/-- R379: does a window slot touch a plain or reduce alias of a tick-ordered window of the host? -/
def slotTicks (s : State) (host : Nat) (m : MapSlot) : Bool :=
  let touches := fun (base size : Nat) => decide (m.base < base + size) && decide (base < m.base + m.len)
  (decide (m.typ = 1) || decide (m.typ = 2)) && s.tabs.windows.any (fun e =>
    let w := e.2
    let size := w.extCount * 2 ^ 28
    decide (w.host = host) && w.tick && (touches (w.hbase * 2 ^ 28) size || touches (w.rbase * 2 ^ 28) (16 * size)))

/-- The job that a descriptor describes. `commit` is the item's commit word, `d` its data. -/
def jobOfItem (s : State) (q prod ask : Nat) (commit : Word) (d : List Word) : Job :=
  let w := fun i => d.getD i 0#64
  let host := ((pcfg? s prod).map PCfg.host).getD 0
  let n := fld (w 0) 31 27
  let ms := (List.range n).map (fun i => slotOfWords (w (16 + 2 * i)) (w (17 + 2 * i)))
  let ms := ms.map (fun m => { m with tick := slotTicks s host m })
  let comp := fld (w 2) 63 60
  let off := fld (w 2) 51 0
  let compOk := decide (comp < n) && decide (off % 32 = 0) &&
    (match ms[comp]? with
    | some m => (decide (m.typ = 1) || decide (m.typ = 2)) && m.write && m.base % 64 == 0 && decide (off + 32 ≤ m.len)
    | none => false)
  { askedJob q ask with
    prod, seq := commitSeq commit, host, program := fld (w 0) 63 52, version := fld (w 0) 47 32, slots := ms,
    budget := fld (w 1) 62 48, contrib := if bitAt (w 0) 18 then some (fld (w 1) 43 32) else none,
    wdog := fld (w 1) 31 0, cntRead := bitAt (w 0) 17, keepBench := bitAt (w 0) 16, compSlot := comp, compOff := off,
    stack := mkFld 18 0 (fld (w 3) 50 32), benchIn := fld (w 3) 17 0, args := (List.range 8).map (fun i => w (8 + i)),
    input := d.drop (16 + 2 * n), inputLen := fld (w 0) 14 0, compOk }

/-- The checks of R326 but the last. -/
def descOk (s : State) (e : Nat) (j : Job) (commit : Word) (d : List Word) (poison : Bool) : Bool :=
  let w := fun i => d.getD i 0#64
  let n := fld (w 0) 31 27
  !poison && decide (commitLen commit = 128 + 16 * n + j.inputLen) && decide (n ≤ 16) && decide (j.inputLen ≤ 16000)
    && fld (w 0) 51 48 == 0 && fld (w 0) 26 19 == 0 && fld (w 0) 15 15 == 0 && fld (w 1) 63 63 == 0 && fld (w 1) 47 44 == 0
    && fld (w 2) 59 52 == 0 && fld (w 3) 63 51 == 0 && fld (w 3) 31 18 == 0
    && (List.range 4).all (fun i => w (4 + i) == 0#64)
    && j.budget != 0 && decide (j.stack.toNat ≤ 0x40000) && j.stack.toNat % 64 == 0 && j.benchIn % 8 == 0
    && decide (j.benchIn + j.inputLen ≤ 0x40000)
    && (List.range n).all (fun i => slotMeets (w (16 + 2 * i)) (w (17 + 2 * i)))
    && queueSlotsOk s (e / 8) j.host j.slots && j.compOk

/-- A job that does not run ends with a status: its record is written where its completion slot allows (R326, R330). -/
def endUnrun (e status : Nat) (s : State) : State :=
  let s := s.modJob e (fun j => { j with step := .drain, status, version := 0 })
  writeRecord e (reportStatus e s)

/-! ## Steps 5 to 7, R327, R358 -/

/-- The stream queues that a job names. -/
def jobStreams (j : Job) : List Nat := (j.slots.filter (fun m => decide (m.typ = 3) && !m.write)).map MapSlot.base

/-- Step 6: the job takes its stream queues when no other job holds any of them; then step 7 reads word 0 of the record
(assumption 50). -/
def takeHolds (e : Nat) (s : State) : State :=
  match (s.eng e).job with
  | none => s
  | some j =>
    let qs := jobStreams j
    if qs.any (fun q => (tget s.mill.holds q).isSome) then s.modJob e (fun j => { j with step := .holds })
    else
      let s := { s with mill.holds := qs.foldl (fun t q => tset t q e) s.mill.holds }
      newAcc e accProbe (recordAddr j) none (s.modJob e (fun j => { j with step := .probe, startAt := s.now }))

/-- Step 5: the library chooses the version and counts the job; the engine is STARTING. -/
def startJob (e : Nat) (s : State) : State :=
  match (s.eng e).job with
  | none => s
  | some j =>
    match versionFor s j.program j.version with
    | none => endUnrun e stNoProgram s
    | some v =>
      let s := s.modEng e (fun g => { g with st := 1, last := (j.program, v.version, j.prod, j.seq, j.queue) })
      takeHolds e (s.modJob e (fun j =>
        { j with step := .holds, version := v.version, entry := v.entry, evec := BitVec.ofNat 64 v.evec }))

/-- Step 4: the dispatch request and its window (R335). At most 128 engines are held at once, so that a TAG is free (assumption 76). -/
def postDispatch (e : Nat) (j : Job) (s : State) : State :=
  let half := queueDie j.queue
  let tag := (freeFrom s.mill.tag ((s.mill.windows.filter (fun w => w.half == half)).map DispWin.tag)).getD 0
  let post := mkFld 63 63 1 ||| mkFld 62 55 tag ||| mkFld 54 48 e ||| mkFld 47 36 j.program ||| mkFld 35 18 j.queue
    ||| mkFld 17 0 j.prod
  { s.modJob e (fun j => { j with step := .deciding }) with
    mill.tag := tag + 1,
    mill.windows := s.mill.windows ++ [{ half, tag, eng := e, deadline := s.now + s.rf Reg.millCtl 47 32 * 1000 }],
    mill.posts := tset s.mill.posts half (tgetD s.mill.posts half [] ++ [post]) }

/-- The engine gives up its job with no record. -/
def freeEngine (e : Nat) (s : State) : State := s.modEng e (fun g => { g with job := none, st := 0 })

/-- The queue unit's answer to a selection reaches the cluster: steps 2 to 4 of R327. A gap marker and a notice join the
round as jobs that have ended (R325). -/
def descriptorReceived (e : Nat) (s : State) : State :=
  match (s.eng e).job with
  | none => s
  | some j0 =>
    match (if j0.step = .selecting then s.mill.answers.find? (fun x => x.1 == j0.ask) else none) with
    | none => s
    | some (_, ans) =>
      let s := { s with mill.answers := s.mill.answers.filter (fun x => x.1 != j0.ask) }
      match ans with
      | .item _ _ d commit prod gap poison =>
        if clusterGone s (e / 8) then roundJobEnded j0.queue true (freeEngine e s)
        else if gap || prod == deviceBind then roundJobEnded j0.queue false (freeEngine e s)
        else
          let j := jobOfItem s j0.queue prod j0.ask commit d
          let s := s.modEng e (fun g => { g with job := some j })
          if !descOk s e j commit d poison then endUnrun e stBadDesc s
          else if (versionFor s j.program j.version).isNone then endUnrun e stNoProgram s
          else if s.assist 8 then postDispatch e j s
          else startJob e s
      | _ => freeEngine e s

/-- R326: DESCRIPTOR_RECEIVED. -/
def execDescriptorReceived (e : Nat) (s : State) : Host.Outcome State Fault Refusal :=
  .next (whenCarries (descriptorReceived e) s)

/-! ## Host-assisted dispatch, R335, R336 -/

/-- A read of DISPATCH_REQ_n takes the oldest request. -/
def dispatchTake (half : Nat) (s : State) : Word × State :=
  let (w, r) := mailRead (tgetD s.mill.posts half [])
  (w, { s with mill.posts := tput [] s.mill.posts half r })

/-- For lack of an answer the job runs on the held engine. -/
def dispatchFallback (w : DispWin) (s : State) : State :=
  let s := s.setEvent Reg.millEvents 5
  let s := match (s.eng w.eng).job with
    | some j =>
      if recent (tget s.mill.lastFallback w.half) s then s
      else engRecord 0x75 .corrected w.eng j { s with mill.lastFallback := tset s.mill.lastFallback w.half s.now }
    | none => s
  startJob w.eng s

/-- May the job held on one engine run on another (R336)? -/
def mayMove (s : State) (held e : Nat) : Bool :=
  e == held || (engFree s e && decide (e < 128) &&
    (match (s.eng held).job with
    | some j => ((qcfg? s j.queue).map (fun k => (k.clusters / 2 ^ (e / 8)) % 2 == 1)).getD false
    | none => false))

/-- DISPATCH_RESP_n is written. -/
def dispatchAnswer (half : Nat) (data : Word) (s : State) : State :=
  let s := s.wr (Reg.dispatchResp half) (data &&& (fldMask 63 62 ||| fldMask 55 48 ||| fldMask 6 0))
  if !bitAt data 63 then s
  else match s.mill.windows.find? (fun w => w.half == half && w.tag == fld data 55 48) with
    | none => s.setEvent Reg.millEvents 6
    | some w =>
      let s := { s with mill.windows := s.mill.windows.filter (fun x => !(x.half == half && x.tag == w.tag)) }
      let dest := fld data 6 0
      if bitAt data 62 then endUnrun w.eng stDenied s
      else if !mayMove s w.eng dest then dispatchFallback w s
      else if dest = w.eng then startJob dest s
      else
        let j := (s.eng w.eng).job
        startJob dest (freeEngine w.eng (s.modEng dest (fun g => { g with job := j })))

/-- R336: the dispatch window of a half and tag reaches DISPATCH_TMO. -/
def dispatchTimeout (half tag : Nat) (s : State) : State :=
  match s.mill.windows.find? (fun w => w.half == half && w.tag == tag) with
  | none => s
  | some w =>
    dispatchFallback w
      { s.reach w.deadline with mill.windows := s.mill.windows.filter (fun x => !(x.half == half && x.tag == tag)) }

/-- R336: DISPATCH_TIMEOUT. -/
def execDispatchTimeout (half tag : Nat) (s : State) : Host.Outcome State Fault Refusal :=
  .next (whenCarries (dispatchTimeout half tag) s)

/-! ## Steps 6 to 10, R327-R329 -/

/-- R327: STREAM_HOLD_ACQUIRED: the holds that a job waited for have ended. -/
def execStreamHoldAcquired (e : Nat) (s : State) : Host.Outcome State Fault Refusal :=
  .next (whenCarries (fun s =>
    match (s.eng e).job with
    | some j => if j.step = .holds then takeHolds e s else s
    | none => s) s)

/-- Word 0 of the record as the line read holds it. -/
def recordWord (j : Job) (d : Line) : Word := BitVec.ofNat 64 (lineNat d (recordAddr j % 64) 8)

/-- Step 7 returns: a job whose record is written is not run again (R329); otherwise step 8 writes the RUNNING word. -/
def probeReturn (e : Nat) (s : State) : State :=
  match (s.eng e).job with
  | none => s
  | some j =>
    if j.step ≠ .probe then s
    else match takeAnswer e accProbe s with
      | (none, s) => s
      | (some (k, d, p), s) =>
        let s := dropAcc e accProbe s
        let w := recordWord j d
        if k.isNone && !p && bitAt w 63 && fld w 49 32 == j.prod && fld w 31 0 == j.seq then
          let s := { s with mill.holds := s.mill.holds.filter (fun h => h.2 != e) }.setEvent Reg.millEvents 4
          roundJobEnded j.queue false (leaveVersion j (freeEngine e s))
        else
          newAcc e accRunning (recordAddr j) (some (wordAt (recordAddr j % 64) (recordWord0 false stRunning j)))
            (s.modJob e (fun j => { j with step := .start }))

/-- R329: RECORD_PROBE_RETURN. -/
def execRecordProbeReturn (e : Nat) (s : State) : Host.Outcome State Fault Refusal := .next (whenCarries (probeReturn e) s)

/-- R331: a write of the record has failed. -/
def recordFailed (e : Nat) (s : State) : State :=
  let s := s.setEvent Reg.millEvents 8
  match (s.eng e).job with
  | some j => engRecord 0x73 .corrected e j s
  | none => s

/-- The registers of R328. -/
def jobArch (j : Job) : Arch :=
  (j.args.zipIdx.foldl (fun (a : Arch) x => a.setG (x.2 + 1) x.1) { newArch with pc := j.entry, evec := j.evec }).setG 31 j.stack

/-- The bytes of INPUT, copied to the bench. -/
def inputCopy (j : Job) (b : Tbl Word) : Tbl Word :=
  (List.range ((j.inputLen + 7) / 8)).foldl (fun b i =>
    benchPut (j.benchIn + 8 * i) (min 8 (j.inputLen - 8 * i)) ((j.input.getD i 0#64).toNat) b) b

/-- Steps 8 to 10 end: the bench is cleared or kept, the input copied, the registers set, and the job executes. A RUNNING word
whose write failed is reported, and the job begins. -/
def jobBegin (e : Nat) (s : State) : State :=
  let g := s.eng e
  match g.job with
  | none => s
  | some j =>
    if j.step ≠ .start then s
    else match takeAnswer e accRunning s with
      | (none, s) => s
      | (some (k, _, _), s) =>
        let s := dropAcc e accRunning s
        let s := if k.isSome then recordFailed e s else s
        let keep := j.keepBench && g.lastHost == some j.host
        let s := s.reach (j.startAt + if keep then 0 else cyclesNs 4096)
        let readEn := j.cntRead && bitAt s.tabs.engineAccess j.host
        s.modEng e (fun g =>
          { g with
            st := 2, arch := jobArch j, bench := inputCopy j (if keep then g.bench else []), wait := .none, flights := [],
            issued := 0, counted := [], sb := [], storeErr := none, slotsDone := 0,
            job := some { j with step := .running, beginAt := s.now, readEn } })

/-- R327: JOB_BEGIN. -/
def execJobBegin (e : Nat) (s : State) : Host.Outcome State Fault Refusal := .next (whenCarries (jobBegin e) s)

/-! ## The watchdog and ABORT, R333, R375 -/

/-- The job watchdog of a running job reaches its limit. -/
def watchdogExpiry (e : Nat) (s : State) : State :=
  match (s.eng e).job with
  | none => s
  | some j =>
    if j.step ≠ .running ∨ j.wdogFired then s
    else
      let s := s.reach (j.beginAt + cyclesNs ((if j.wdog = 0 then 2 ^ 32 else j.wdog) * 1024))
      settle e (countIdle e (s.modJob e (fun j => { j with wdogFired := true, wdogDue := true, grace := some s.now })))

/-- R375: JOB_WATCHDOG_EXPIRY. -/
def execJobWatchdogExpiry (e : Nat) (s : State) : Host.Outcome State Fault Refusal := .next (whenCarries (watchdogExpiry e) s)

/-- The grace timer expires: the job ends at once. -/
def graceExpiry (e : Nat) (s : State) : State :=
  match (s.eng e).job with
  | none => s
  | some j =>
    match j.grace with
    | none => s
    | some t =>
      if j.step ≠ .running then s
      else
        let s := countIdle e (s.reach (t + cyclesNs 65536))
        endFault e 8 false false (oldestArch (s.eng e)).pc 0#64 0 false s

/-- R375: WATCHDOG_GRACE_EXPIRY. -/
def execWatchdogGraceExpiry (e : Nat) (s : State) : Host.Outcome State Fault Refusal := .next (whenCarries (graceExpiry e) s)

/-- ENG_CTL.ABORT is set: a STARTING engine's job ends at once, a RUNNING one's at the next instruction boundary; with no job
the bit is cleared (R333). -/
def engAbort (e : Nat) (s : State) : State :=
  match (s.eng e).job with
  | none => s
  | some j =>
    if (s.eng e).st = 1 ∧ (j.step = .holds ∨ j.step = .probe ∨ j.step = .start) then
      endJob e stAborted (s.wb (Reg.engCtl e) 2 true)
    else if (s.eng e).st = 2 ∧ j.step = .running then
      settle e ((s.modJob e (fun j => { j with abort := true })).wb (Reg.engCtl e) 2 true)
    else if (s.eng e).st = 1 ∨ (s.eng e).st = 2 then s.wb (Reg.engCtl e) 2 true
    else s

/-! ## The record, R331 -/

/-- A write of the record is acknowledged or fails: after bytes 8-31 word 0 is written, after word 0 the job's end completes.
A job that ended in STARTING waits here for its RUNNING word. -/
def recordAck (e : Nat) (s : State) : State :=
  match (s.eng e).job with
  | none => s
  | some j =>
    match j.step with
    | .drain =>
      (match takeAnswer e accRunning s with
      | (none, s) => s
      | (some (k, _, _), s) =>
        let s := dropAcc e accRunning s
        writeRecord e (if k.isSome then recordFailed e s else s))
    | .record =>
      (match takeAnswer e accRecord s with
      | (none, s) => s
      | (some (k, _, _), s) =>
        let s := dropAcc e accRecord s
        if k.isSome then finishJob e (recordFailed e s)
        else newAcc e accValid (recordAddr j) (some (wordAt (recordAddr j % 64) (recordWord0 true j.status j)))
          (s.modJob e (fun j => { j with step := .valid })))
    | .valid =>
      (match takeAnswer e accValid s with
      | (none, s) => s
      | (some (k, _, _), s) =>
        let s := dropAcc e accValid s
        finishJob e (if k.isSome then recordFailed e s else s))
    | _ => s

/-- R331: RECORD_WRITE_ACK. -/
def execRecordWriteAck (e : Nat) (s : State) : Host.Outcome State Fault Refusal := .next (whenCarries (recordAck e) s)

/-! ## Halted engines, R388, R389 -/

/-- RESUME takes effect once the copy is complete. -/
def resumeEngine (e : Nat) (s : State) : State :=
  let g := s.eng e
  if g.resume && decide (g.st = 3) && bitAt g.shadow.info 62 then
    s.modEng e (fun g => { g with st := 0, resume := false, shadow := { g.shadow with info := clrBit g.shadow.info 63 } })
  else s

/-- The copy to the spill area is acknowledged. -/
def spillDone (e : Nat) (s : State) : State :=
  if (s.eng e).st ≠ 3 then s
  else resumeEngine e (s.modEng e (fun g => { g with shadow := { g.shadow with info := setBit g.shadow.info 62 } }))

/-- R388: SPILL_DUMP_DONE. -/
def execSpillDumpDone (e : Nat) (s : State) : Host.Outcome State Fault Refusal := .next (whenCarries (spillDone e) s)

/-- SH_CTL.RESUME is written with 1 (R389). -/
def engResume (e : Nat) (s : State) : State :=
  if (s.eng e).st ≠ 3 then s else resumeEngine e (s.modEng e (fun g => { g with resume := true }))

/-- The 8 bytes at an offset of an engine's spill area, R388; unwritten bytes read as 0. -/
def spillWord (g : Eng) (off : Nat) : Word :=
  match g.spill with
  | none => 0#64
  | some (a, b, ctl) =>
    if off < 0x40000 then tgetD b (off / 8) 0#64
    else
      let k := off - 0x40000
      if k < 0x100 then a.gr (k / 8)
      else if k < 0x500 then BitVec.ofNat 64 (lineNat (a.vr ((k - 0x100) / 64)) (k % 64) 8)
      else if k < 0x540 then a.pr ((k - 0x500) / 8)
      else if k < 0x588 then
        [a.epc, a.status, a.cause, a.faultAddr, a.mode, a.loop0, a.loop1, a.evec, ctl].getD ((k - 0x540) / 8) 0#64
      else 0#64

/-! ## Isolation and takeover, R334 -/

/-- The jobs of an isolated cluster end with no record and no further effect; their rounds will be rewound. A job whose item
is still on its way is dropped when the item arrives. -/
def dropClusterJobs (c : Nat) (s : State) : State :=
  ((List.range 8).map (· + 8 * c)).foldl (fun s e =>
    match (s.eng e).job with
    | none => s
    | some j =>
      if j.step = .selecting then s
      else
        let s := contribEnds e stAborted (countIdle e s)
        let s := (s.eng e).acc.foldl (fun s a => discardAcc e a.1 s) s
        let s := { s with
          mill.holds := s.mill.holds.filter (fun h => h.2 != e),
          mill.windows := s.mill.windows.filter (fun w => w.eng != e) }
        let s := s.modEng e (fun g =>
          { g with
            st := 0, job := none, lastHost := benchOwner g j, wait := .none, flights := [], issued := 0, counted := [], sb := [],
            storeErr := none, slotsDone := 0 })
        roundJobEnded j.queue true (leaveVersion j (s.wb (Reg.engCtl e) 2 false))) s

/-! ## Registers -/

/-- ENG_STATUS. -/
def readEngStatus (s : State) (e : Nat) : Word :=
  let (p, v, b, _, _) := (s.eng e).last
  mkFld 63 62 (s.eng e).st ||| mkFld 61 61 (b2n (engOffline s e)) ||| mkFld 59 48 p ||| mkFld 47 32 v ||| mkFld 17 0 b
/-- ENG_JOB. -/
def readEngJob (s : State) (e : Nat) : Word :=
  let (_, _, _, n, q) := (s.eng e).last
  mkFld 63 32 n ||| mkFld 17 0 q
/-- ENG_PC. -/
def readEngPc (s : State) (e : Nat) : Word := mkFld 17 0 (oldestArch (s.eng e)).pc
/-- The exception shadow registers, by their place. -/
def readShadow (s : State) (e k : Nat) : Word :=
  let h := (s.eng e).shadow
  [h.epc, h.status, h.cause, h.faultAddr, h.loop0, h.loop1, h.g1, h.g2, h.g31, h.mode, h.info,
   BitVec.ofNat 64 h.dtb].getD k 0#64
/-- DUMP_DATA. -/
def readDumpData (s : State) (e : Nat) : Word :=
  let g := s.eng e
  if bitAt g.shadow.info 62 then spillWord g ((s.rd (Reg.dumpPtr e)).toNat) else 0#64
/-- MILL_STATUS. -/
def readMillStatus (s : State) : Word :=
  let gone := (List.range 16).foldl (fun a c => if clusterGone s c then a + 2 ^ c else a) 0
  let busy := (s.mill.engs.filter (fun e => decide (e.2.st = 1) || decide (e.2.st = 2))).length
  let bytes := (s.tabs.versions.map (fun v => 4 * v.code.length)).sum
  mkFld 63 48 gone ||| mkFld 39 32 busy ||| mkFld 17 0 ((bytes + 1023) / 1024)
/-- LIB_QUERY. -/
def readLibQuery (s : State) : Word :=
  let p := s.rf Reg.libQuery 59 48
  let vs := s.tabs.versions.filter (fun v => v.program == p)
  let cur := vs.find? Version.current
  mkFld 59 48 p ||| mkFld 47 32 ((cur.map Version.version).getD 0) ||| mkFld 31 29 vs.length
    ||| mkFld 15 0 ((cur.map (fun v => refsOf s p v.version)).getD 0)

/-! ## The engine events of the table -/

/-- R318: ICACHE_FILL_COMPLETE. -/
def execIcacheFillComplete (e : Nat) (s : State) : Host.Outcome State Fault Refusal := .next (whenCarries (fillComplete e) s)

/-- R360: FAR_LOAD_COMPLETE. -/
def execFarLoadComplete (e id : Nat) (s : State) : Host.Outcome State Fault Refusal := .next (whenCarries (farLoadComplete e id) s)

/-- R377: STORE_BUFFER_ISSUE. -/
def execStoreBufferIssue (e k : Nat) (s : State) : Host.Outcome State Fault Refusal := .next (whenCarries (storeIssue e k) s)

/-- R384: STORE_ACK. -/
def execStoreAck (e id : Nat) (s : State) : Host.Outcome State Fault Refusal := .next (whenCarries (storeAck e id) s)

/-- R368: STORE_ERROR. -/
def execStoreError (e id : Nat) (s : State) : Host.Outcome State Fault Refusal := .next (whenCarries (storeError e id) s)

/-- R354: WAIT_H_EXPIRY. -/
def execWaitHExpiry (e : Nat) (s : State) : Host.Outcome State Fault Refusal := .next (whenCarries (sleepEnd e) s)

/-- R360: QUEUE_INSTRUCTION_ANSWER. -/
def execQueueInstructionAnswer (e : Nat) (s : State) : Host.Outcome State Fault Refusal :=
  .next (whenCarries (queueAnswer e) s)

end Sys2Proof.Machine
end

