-- ==== Sys2Proof/Machine/Pair.lean ====
section
/-! DEFINITION. The pair logic: formation, syncs, heartbeats, the alive pins, the loss of the partner, takeover, moves and
dissolution (R442-R470). -/
namespace Sys2Proof.Machine

/-! ## The twin link, R454-R456 -/

/-- The TWIN ports that are up, in ascending number. -/
def twinUp (s : State) : List Nat := (s.portsOf 5).filter s.linkIsUp

/-- R455: the twin link is lost. -/
def twinLost (s : State) : Bool := decide (4 ≤ s.pair.missRun) || (twinUp s).isEmpty

/-- Set a PAIR_EVENTS bit. -/
def pairEvent (bit : Nat) (s : State) : State := s.setEvent Reg.pairEvents bit

/-- The information bytes of the pair logic's records. -/
def prInfo (s : State) (mask : Nat) : Nat := mask + s.pair.formCause * 256 + s.pair.partnerMode.getD 0xFF * 65536

/-- Write a record of the pair logic. -/
def pairRec (cls : Nat) (sev : Sev) (mask : Nat) (s : State) : State := s.raise cls sev .pair 0 (prInfo s mask)

/-- The hosts that own a HOST port of the PORTS section, here or through the partner: each host's links are looked at again
(R203). -/
def allHostLinks (s : State) : State := (List.range 64).foldl (fun s h => hostLinks h s) s

/-- A mask of sets. -/
def setMask (p : Nat → Bool) : Nat := b2n (p 0) + 2 * b2n (p 1)

/-- Does this member hold a set? -/
def holds (s : State) (m : Nat) : Bool := s.pair.holder.getD m 2 == s.pair.member

/-- The modes in which heartbeats are sent and the pin toggles start (R455, R456). -/
def Mode.beats : Mode → Bool
  | .load => false
  | m => m.carries

/-- HEARTBEAT_SEND (R455): at a multiple of 1,000 ns of the DTB, on every TWIN port that is up. The measured round trip is a
free value (assumption 4). -/
def heartbeatSend (s : State) : State :=
  if !s.pair.present || !s.mode.beats then s
  else
    let t := nextMultiple 1000 (max s.now (s.pair.beatAt + 1))
    let s := s.reach t
    let s := { s with pair.beatAt := t }
    let links := (List.range 64).foldl (fun a h => if (s.hostUpPort h).isSome then a + 2 ^ h else a) 0
    (twinUp s).foldl (fun s _ =>
      let (f, s) := s.free
      s.emit (.twinHeartbeat { dtb := s.now, roundTrip := f.toNat % 2 ^ 16, mode := s.mode.code, hostLinks := links })) s

/-- R455: HEARTBEAT_SEND. -/
def execHeartbeatSend (s : State) : Host.Outcome State Fault Refusal := .next (heartbeatSend s)

/-- TWIN_ALIVE_TOGGLE (R456): at a multiple of 500 ns, from LOAD to DRAIN; held low elsewhere. -/
def aliveToggle (s : State) : State :=
  if s.mode.loadToHalt && decide (s.mode ≠ .halt) then
    let t := nextMultiple 500 (max s.now (s.pair.toggleAt + 1))
    let s := s.reach t
    { s with pair.toggleAt := t, pair.aliveOut := !s.pair.aliveOut }
  else { s with pair.aliveOut := false }

/-- R456: TWIN_ALIVE_TOGGLE. -/
def execTwinAliveToggle (s : State) : Host.Outcome State Fault Refusal :=
  .next (if s.pwr.auxGood then aliveToggle s else s)

/-! ## What a set holds -/

/-- The set of a line's mirrored window. -/
def lineSet (s : State) (line : Nat) : Option Nat := (mirWin s line).map Win.home

/-- The pool line that an HBM line holds, by its backing (R68, R172). -/
def poolLineOf (s : State) (hl : Nat) : Option Nat :=
  let base := poolBaseMib s.tabs * 2 ^ 20
  if 64 * hl < base then none
  else
    let d := 64 * hl - base
    (s.tabs.backings.find? (fun e => e.2.typ == 0 && decide (e.2.dbase ≤ d / 2 ^ 28) &&
      decide (d / 2 ^ 28 < e.2.dbase + e.2.plen))).map (fun e =>
        ((d / 2 ^ 28 - e.2.dbase + e.2.pbase) * 2 ^ 28 + d % 2 ^ 28) / 64)

/-- The pool lines of a set that HBM holds with a byte not 0, or poisoned. -/
def linesHeld (s : State) (m : Nat) : List Nat :=
  (((s.home.mem.map (fun (c : Host.Cell) => c.1 / 64)) ++ s.home.poisoned).eraseDups.filterMap (poolLineOf s)).filter
    (fun l => lineSet s l == some m)

/-- The queues of a set. -/
def setQueues (s : State) (m : Nat) : List Nat :=
  (s.tabs.queues.map (·.1)).filter (fun q => match qcfg? s q with | some c => c.mirror && c.home == m | none => false)

/-- Is a binding one of a set's queues? -/
def bindOfSet (s : State) (m b : Nat) : Bool := ((pcfg? s b).map (fun c => (setQueues s m).contains c.queue)).getD false

/-- R447: a set as a sync copies it. -/
def setCopy (s : State) (m : Nat) : SetCopy :=
  let mine := fun (l : Nat) => lineSet s l == some m
  { lines := (linesHeld s m).map (fun l => (l, readHbm s (poolHline s l), isPoisoned s (poolHline s l))),
    sf := (s.home.sf.filter (fun e => mine e.1)).map (fun e => (e.1, e.2.presence, e.2.excl)),
    slot1 := ((s.tick.slot1.map (·.1) ++ s.tick.slot1Poison).eraseDups.filter mine).map (fun l =>
      (l, tgetD s.tick.slot1 l 0#512, s.tick.slot1Poison.contains l)),
    tags := (s.tick.tags.filter (fun e => mine e.1)).map (fun e => (e.1, e.2.1, e.2.2)),
    base := s.tick.baseTag.filter (fun e => mine (e.1 * 2 ^ 22)),
    staged := s.tick.open_.filter (fun r => mine r.line),
    queues := (s.qu.queues.filter (fun e => (setQueues s m).contains e.1)),
    prods := (s.qu.prods.filter (fun e => bindOfSet s m e.1)).map (fun e => (e.1, e.2.1, e.2.2)) }

/-- An item of a copied queue, in cells of this member's granary. -/
def copyItem (acc : List QItem × State) (it : QItem) : List QItem × State :=
  if it.gap then (acc.1 ++ [it], acc.2)
  else
    let (cs, s) := takeCells it.cells.length acc.2
    (acc.1 ++ [{ it with cells := cs }], s)

/-- A queue of a copy takes the place of this member's; the timers run at the holder only (R311). -/
def installQueue (s : State) (e : Nat × Queue) : State :=
  let s := resetQueue e.1 s
  let (lists, s) := e.2.lists.foldl (fun (a : Tbl QList × State) l =>
    let (its, s) := l.2.items.foldl copyItem ([], a.2)
    (tset a.1 l.1 { l.2 with items := its }, s)) ([], s)
  { s with qu.queues := tput newQueue s.qu.queues e.1 { e.2 with lists, lease := none, staleAt := none } }

/-- R447: the copy takes the place of what this member held of the set; snoop-filter entries are stored with MIRRORED = 1. -/
def applyCopy (m : Nat) (c : SetCopy) (s : State) : State :=
  let mine := fun (l : Nat) => lineSet s l == some m
  let s := (linesHeld s m).foldl (fun s l => writeLine (poolHline s l) 0#512 fullMask true false s) s
  let s := (c.lines.filter (fun e => mine e.1)).foldl (fun s e => writeLine (poolHline s e.1) e.2.1 fullMask true e.2.2 s) s
  let s := { s with
    home.sf := s.home.sf.filter (fun e => !mine e.1),
    tick.slot1 := s.tick.slot1.filter (fun e => !mine e.1),
    tick.slot1Poison := s.tick.slot1Poison.filter (fun l => !mine l),
    tick.tags := s.tick.tags.filter (fun e => !mine e.1),
    tick.open_ := s.tick.open_.filter (fun r => !mine r.line) ++ c.staged.filter (fun r => mine r.line) }
  let s := (c.sf.filter (fun e => mine e.1)).foldl (fun s e => mirrorSf e.1 (some e.2) s) s
  let s := (c.slot1.filter (fun e => mine e.1)).foldl (fun s e => putSlot e.1 1 e.2.1 e.2.2 s) s
  let s := (c.tags.filter (fun e => mine e.1)).foldl (fun s e => putTags e.1 e.2 s) s
  let s := { s with
    tick.baseTag := (c.base.filter (fun e => mine (e.1 * 2 ^ 22))).foldl (fun b e => tset b e.1 e.2) s.tick.baseTag }
  let s := (setQueues s m).foldl (fun s q => resetQueue q s) s
  let s := (c.queues.filter (fun e => (setQueues s m).contains e.1)).foldl installQueue s
  let s := { s with qu.prods := s.qu.prods.filter (fun e => !bindOfSet s m e.1) }
  c.prods.foldl (fun s e => setProd e.1 e.2.1 e.2.2 s) s

/-- R305, R306: the timers of a set's queues run at the member that has become its holder. -/
def startTimers (m : Nat) (s : State) : State :=
  (setQueues s m).foldl (fun s q =>
    touchStale q (s.modQueue q (fun x => { x with lease := if x.passedAny then some s.now else none }))) s

/-- A former holder's entries are stored with MIRRORED = 1, and its queue timers stop (R467, R311). -/
def becomeMirror (m : Nat) (s : State) : State :=
  let s := { s with home.sf := tmap (fun l e => if lineSet s l = some m then { e with mirrored := true } else e) s.home.sf }
  (setQueues s m).foldl (fun s q => s.modQueue q (fun x => { x with lease := none, staleAt := none })) s

/-! ## Requests that had gone to the partner -/

/-- Insert a tracker by its time of acceptance, before those of the same time. -/
def insertTrk (e : Nat × Trk) : List (Nat × Trk) → List (Nat × Trk)
  | [] => [e]
  | x :: xs => if e.2.accepted ≤ x.2.accepted then e :: x :: xs else x :: insertTrk e xs

/-- Trackers whose request is for the partner, in order of acceptance. -/
def partnerTrks (s : State) : List (Nat × Trk) :=
  (s.bridge.trks.filter (fun e => decide (e.2.target = .partner) &&
    (decide (e.2.st = .issued) || decide (e.2.st = .wait)))).foldr insertTrk []

/-- One such request is executed again from its translation: here, or ended with kind OFFLINE (R458, R459, R461). An AtomicOp
found in the journal is answered with its old value (R452). -/
def redoTrk (s : State) (e : Nat × Trk) : State :=
  let j := s.home.journal.findRev? (fun x => x.2.1 == e.1)
  match e.2.op, j with
  | .atom .., some (m, _, old) =>
    if holds s m && decide (e.2.st = .issued) then finishTrk e.1 { okAnswer with old } s
    else translateTrk e.1 (s.modTrk e.1 (fun t => { t with st := .translate }))
  | _, _ => translateTrk e.1 (s.modTrk e.1 (fun t => { t with st := .translate }))

/-- Does a tracker's request wait for the decision on the sets of a mask (R460)? -/
def trkWaitsFor (s : State) (mask : Nat) (t : Trk) : Bool :=
  ((tget s.tabs.windows t.win).map (fun w => w.mirror && mask.testBit w.home)).getD false

/-- Does a queue's operation? -/
def queueWaitsFor (s : State) (mask q : Nat) : Bool := ((qcfg? s q).map (fun c => c.mirror && mask.testBit c.home)).getD false

/-- Every request forwarded to the partner that has no answer, and every forwarded queue operation, but those of the sets of a
mask. -/
def redoPartnerBut (mask : Nat) (s : State) : State :=
  let s := ((partnerTrks s).filter (fun e => !trkWaitsFor s mask e.2)).foldl redoTrk s
  let ops := s.qu.fwd.filter (fun e => !queueWaitsFor s mask e.2.1)
  ops.foldl (fun s e => routeOp e.2.1 e.2.2.1 e.2.2.2 s) { s with qu.fwd := s.qu.fwd.filter (fun e => queueWaitsFor s mask e.2.1) }

/-- All of them. -/
def redoPartner (s : State) : State := redoPartnerBut 0 s

/-- What waited for the partner completes without it, and PEER_STALE is set (R458): mirrored writes and queue operations. A
move or a dissolution that waits is given up. -/
def endMirroring (s : State) : State :=
  let s := { s with
    pair.waitUntil := none, pair.moveSet := none, pair.dissolving := none, pair.takeTick := none, tick.mirrorOwed := false,
    tick.reported := false }
  let s := (s.wb Reg.pairCtl 1 false).wb Reg.pairCtl 2 false
  let s := s.home.mirWaits.foldl (fun s w => peerStale w.set (mirrorDone w s)) { s with home.mirPoison := [] }
  let s := s.qu.busy.foldl (fun s b =>
    match b.2.act with
    | .mirror id => peerStale (((qcfg? s b.1).map QCfg.home).getD 0) (queueAck id s)
    | _ => s) s
  retryVictims s

/-! ## Loss of the link or of the partner, R457-R460 -/

/-- R458: LINK_LOST. -/
def linkLost (s : State) : State :=
  let s := { s with
    pair.state := .linkLost,
    pair.copy := (List.range 2).map (fun m => if holds s m then .current else .stale) }
  let s := pairRec 0xA1 .contained (setMask (fun m => !holds s m)) (pairEvent 3 s)
  letIn (allHostLinks (redoPartner (endMirroring (degrade 3 s))))

/-- R459: a set of the partner's goes offline. -/
def setOffline (s : State) (m : Nat) : State :=
  pairRec 0xA5 .contained (2 ^ m)
    { s with pair.holder := setAt s.pair.holder m 2, pair.offline := setAt s.pair.offline m true }

/-- R461 step 4: the open rounds of a taken set's dispatch queues are rewound (R334). -/
def rewindRounds (m : Nat) (s : State) : State :=
  (setQueues s m).foldl (fun s q =>
    let x := s.queue q
    if ((qcfg? s q).map QCfg.job).getD false && x.lists.any (fun l => decide (l.2.mkd < l.2.rd)) then
      submitOp q (.cmd .rewind) .none ((s.setEvent Reg.millEvents 7).raise 0x74 .contained .queue q q)
    else s) s

/-- R461 steps 1 to 6: the takeover of the sets of a mask. DRAIN and TRAIN keep their mode. -/
def takeoverStart (mask : Nat) (s : State) : State :=
  let s := match s.mode with
    | .solo | .paired | .degraded | .swap => setMode .takeover s
    | _ => s
  let s := (s.portsOf 5).foldl (fun s p =>
    if s.linkIsUp p then linkLeaves p 0 s
    else (s.modLink p (fun l => { l with attempting := false, waitUntil := none, eqUntil := none })).setLtssm p 0) s
  let sets := (List.range 2).filter mask.testBit
  let s := { s with pair.tkSets := mask, pair.tkReady := none, pair.tkUntil := none }
  let s := sets.foldl (fun s m => { s with
    pair.holder := setAt s.pair.holder m s.pair.member, pair.copy := setAt s.pair.copy m .current,
    pair.peerStale := setAt s.pair.peerStale m true }) s
  let s := redoPartner s
  let s := sets.foldl (fun s m => startTimers m (rewindRounds m s)) s
  letIn (allHostLinks s)

/-- R460: the takeover request is posted. -/
def postTakeover (mask : Nat) (s : State) : State :=
  let tag := s.pair.tkTag % 256
  { s with
    pair.tkTag := s.pair.tkTag + 1, pair.tkOpen := some (tag, mask),
    pair.tkPost := some (mkFld 63 63 1 ||| mkFld 62 55 tag ||| mkFld 43 42 mask ||| mkFld 41 0 s.now) }

/-- R459: PARTNER_LOST. With no set to take the mode follows R418. -/
def partnerLost (s : State) : State :=
  let theirs := (List.range 2).filter (fun m => s.pair.holder.getD m 2 == 1 - s.pair.member)
  let take := theirs.filter (fun m => decide (s.pair.copy.getD m .stale = .current))
  let off := theirs.filter (fun m => !take.contains m)
  let mask := setMask take.contains
  let s := { s with
    pair.state := .partnerLost, pair.tkDecided := s.now, pair.decideNs := min (s.now - s.pair.lastBeat) (2 ^ 32 - 1),
    pair.tkOffline := setMask off.contains }
  let s := pairRec 0xA2 .contained (setMask theirs.contains) (pairEvent 5 s)
  let s := off.foldl setOffline (endMirroring s)
  if take.isEmpty then
    let s := match s.mode with | .paired => setMode .solo s | _ => s
    letIn (allHostLinks (redoPartner s))
  else if s.assist 10 then letIn (allHostLinks (redoPartnerBut mask (postTakeover mask s)))
  else takeoverStart mask s

/-- R457: the twin link has just been lost, in a pair that is syncing or formed. -/
def twinLinkGone (s : State) : State :=
  match s.pair.state with
  | .syncing | .formed =>
    if s.pair.waitUntil.isSome then s
    else if s.pair.aliveIn && !s.pair.pinSuspect then { s with pair.waitUntil := some (s.now + 2000) }
    else if s.pair.aliveIn || s.pair.pinSuspect then linkLost s
    else partnerLost s
  | .none | .waiting | .linkLost | .partnerLost | .dissolved => s

/-- HEARTBEAT_MISS (R455): an interval of 1,000 ns with no heartbeat has ended. -/
def heartbeatMiss (s : State) : State :=
  if !s.pair.present || !s.mode.beats then s
  else
    let t := nextMultiple 1000 (max s.now (max (s.pair.lastBeat + 1000) (s.pair.missAt + 1)))
    let s := s.reach t
    let run := min 255 (s.pair.missRun + 1)
    let s := { s with pair.missRun := run, pair.missAt := t }
    if run = 4 then twinLinkGone s else s

/-- R455: HEARTBEAT_MISS. -/
def execHeartbeatMiss (s : State) : Host.Outcome State Fault Refusal := .next (heartbeatMiss s)

/-- HEARTBEAT_RECEIVED (R451, R453, R455): MISS_RUN, the partner's mode and host links, and DTB_OFFSET (assumption 45). -/
def heartbeatReceived (h : Heartbeat) (s : State) : State :=
  if !s.pair.present || (twinUp s).isEmpty then s
  else
    let off : Int := ((h.dtb + h.roundTrip / 2 : Nat) : Int) - (s.now : Nat)
    allHostLinks
      { s with
        pair.missRun := 0, pair.lastBeat := s.now, pair.dtbOffset := off, pair.partnerMode := some (h.mode % 16),
        pair.partnerLinks := h.hostLinks }

/-- R455: HEARTBEAT_RECEIVED. -/
def execHeartbeatReceived (h : Heartbeat) (s : State) : Host.Outcome State Fault Refusal := .next (heartbeatReceived h s)

/-- TWIN_ALIVE_STOP (R456, R457): 2,000 ns without an edge. -/
def aliveStop (s : State) : State :=
  if !s.pwr.auxGood || !s.pair.aliveIn then s
  else
    let s := { s with pair.aliveIn := false }
    if !s.pair.present then s
    else if s.pair.waitUntil.isSome then partnerLost s
    else if !twinLost s then
      if s.pair.pinSuspect then s
      else
        let s := pairEvent 4 { s with pair.pinSuspect := true }
        pairRec 0xA4 .corrected 0 s
    else if s.pair.pinSuspect then s
    else match s.pair.state with
      | .linkLost | .syncing | .formed => partnerLost s
      | .none | .waiting | .partnerLost | .dissolved => s

/-- R456: TWIN_ALIVE_STOP. -/
def execTwinAliveStop (s : State) : Host.Outcome State Fault Refusal := .next (aliveStop s)

/-- LOSS_DECISION_WAIT_END (R457): 2,000 ns have passed and the pin still toggles. -/
def lossWaitEnd (s : State) : State :=
  match s.pair.waitUntil with
  | some t => linkLost (s.reach t)
  | none => s

/-- R457: LOSS_DECISION_WAIT_END. -/
def execLossDecisionWaitEnd (s : State) : Host.Outcome State Fault Refusal := .next (lossWaitEnd s)

/-- The effect of PAIR_CTL.PIN_CLEAR (R457). -/
def pinClear (s : State) : State :=
  if s.pair.present && !twinLost s && s.pair.aliveIn then { s with pair.pinSuspect := false } else s

/-! ## Formation, R445-R448 -/

/-- R445: the formation message of this member. -/
def formMsg (s : State) : FormMsg :=
  { pairId := s.pair.pairId, member := s.pair.member, digest := s.pair.digest, tickNum := s.tick.num,
    tickPublished := s.tick.published, claims := setMask (fun m => s.pair.claimed.getD m false),
    stale := setMask (fun m => s.pair.peerStale.getD m false) }

/-- R445: a TWIN port has come up, or the pin toggles again: the formation message is sent when all its conditions hold. -/
def sendForm (s : State) : State :=
  if s.pair.present && s.pair.aliveIn && !(twinUp s).isEmpty then
    match s.pair.state with
    | .waiting | .linkLost => s.emit (.twinForm (formMsg s))
    | .none | .syncing | .formed | .partnerLost | .dissolved => s
  else s

/-- A TWIN port has come up. After PARTNER_LOST or a dissolution the member waits for its partner again (assumption 33). -/
def twinPortUp (s : State) : State :=
  if !s.pair.present then s
  else
    let s := match s.pair.state with
      | .partnerLost | .dissolved => { s with pair.state := .waiting }
      | .none | .waiting | .syncing | .formed | .linkLost => s
    sendForm s

/-- A TWIN port has gone down: LINK_HALF while the other is up (R454), else the link is lost (R455). -/
def twinPortDown (s : State) : State :=
  if !s.pair.present then s
  else if (twinUp s).isEmpty then twinLinkGone s else pairEvent 2 s

/-- TWIN_ALIVE_RESUME (R456). A formation that waited only for the pin is tried. -/
def aliveResume (s : State) : State :=
  if !s.pwr.auxGood || s.pair.aliveIn then s
  else
    let s := { s with pair.aliveIn := true }
    if s.pair.formCause = 0 then sendForm s else s

/-- R456: TWIN_ALIVE_RESUME. -/
def execTwinAliveResume (s : State) : Host.Outcome State Fault Refusal := .next (aliveResume s)

/-- Is a set still to be synced: at its holder PEER_STALE, at the other member a copy that is not CURRENT? -/
def syncOwed (s : State) (m : Nat) : Bool :=
  if holds s m then s.pair.peerStale.getD m false else decide (s.pair.copy.getD m .current ≠ .current)

/-- STATE becomes FORMED (R447, R458): the event, the cause TWIN_LINK clears, and SOLO becomes PAIRED. -/
def becomeFormed (s : State) : State :=
  let s := pairEvent 0 { s with pair.state := .formed, pair.syncSet := none, pair.syncMib := 0 }
  let s := undegrade 3 s
  match s.mode with
  | .solo => setMode .paired s
  | _ => s

/-- MiB of a set's pool extents (SYNC_PROGRESS). -/
def setMib (s : State) (m : Nat) : Nat :=
  (((s.tabs.windows.filter (fun e => e.2.mirror && e.2.home == m)).map (fun e =>
    (s.tabs.run e.2).filterMap (fun x => match x with
      | some y => if y.st = .absent then none else some y.pool
      | none => none))).flatten.eraseDups).length * 256

/-- The next sync starts, or the pair is formed. A queue copy that is to be synced starts empty (assumption 33). -/
def nextSync (s : State) : State :=
  match (List.range 2).find? (syncOwed s) with
  | none => becomeFormed s
  | some m =>
    let s := { s with pair.syncSet := some m, pair.syncMib := setMib s m }
    if holds s m then s
    else
      (setQueues s m).foldl (fun s q => resetQueue q s) { s with pair.copy := setAt s.pair.copy m .syncing }

/-- The first failing check of R445; 0 when all pass. -/
def formCheck (s : State) (m : FormMsg) : Nat :=
  if m.pairId ≠ s.pair.pairId then 1
  else if m.member = s.pair.member then 2
  else if m.digest ≠ s.pair.digest then 3
  else if (List.range 2).any (fun k => s.pair.claimed.getD k false && m.claims.testBit k) then 4 else 0

/-- R446: the holder that the members assign to a set. -/
def assignHolder (s : State) (m : FormMsg) (k : Nat) : Nat :=
  if s.pair.claimed.getD k false then s.pair.member
  else if m.claims.testBit k then 1 - s.pair.member else k

/-- R448: the tick counts that the member with the lower TICK_NUM takes at its first boundary after formation; beyond a
difference of 2^29 it retags first (assumption 42). -/
def adoptTicks (m : FormMsg) (s : State) : State :=
  if m.tickNum ≤ s.tick.num then s
  else
    let s := if m.tickNum - s.tick.num > 2 ^ 29 then retagWalk { s with tick.walkAt := 0 } else s
    { s with pair.takeTick := some (m.tickNum, m.tickPublished) }

/-- FORMATION_MESSAGE (R445, R446, R447). -/
def formationMessage (m : FormMsg) (s : State) : State :=
  let open_ : Bool := match s.pair.state with | .waiting | .linkLost => true | _ => false
  if !s.pair.present || !open_ || (twinUp s).isEmpty then s
  else
    let c := formCheck s m
    if c ≠ 0 then
      pairRec 0xA0 .corrected 0 (pairEvent 1 { s with pair.state := .waiting, pair.formCause := c })
    else
      let claimed := fun (k : Nat) => s.pair.claimed.getD k false || m.claims.testBit k
      let holder := (List.range 2).map (assignHolder s m)
      let mine := fun (k : Nat) => holder.getD k 2 == s.pair.member
      let s := { s with
        pair.formCause := 0, pair.state := .syncing, pair.missRun := 0, pair.lastBeat := s.now,
        pair.holder := holder,
        pair.copy := (List.range 2).map (fun k =>
          if mine k || !claimed k || !m.stale.testBit k then .current else .stale),
        pair.peerStale := (List.range 2).map (fun k => mine k && claimed k && s.pair.peerStale.getD k false),
        pair.offline := [false, false] }
      let s := (List.range 2).foldl (fun s k => if holds s k then startTimers k s else becomeMirror k s) s
      allHostLinks (nextSync (adoptTicks m s))

/-- R445: FORMATION_MESSAGE. -/
def execFormationMessage (m : FormMsg) (s : State) : Host.Outcome State Fault Refusal := .next (formationMessage m s)

/-- PAIR_SYNC_COMPLETE (R447): the holder has sent the set and clears PEER_STALE; the other member's copy is CURRENT. -/
def syncComplete (m : Nat) (c : SetCopy) (s : State) : State :=
  if s.pair.state ≠ .syncing ∨ s.pair.syncSet ≠ some m then s
  else
    let s := if holds s m then
        { s with pair.peerStale := setAt s.pair.peerStale m false }.emit (.twinCopy m (setCopy s m))
      else { applyCopy m c s with pair.copy := setAt s.pair.copy m .current }
    nextSync (pairEvent 8 s)

/-- R447: PAIR_SYNC_COMPLETE. -/
def execPairSyncComplete (set : Nat) (copy : SetCopy) (s : State) : Host.Outcome State Fault Refusal :=
  .next (whenCarries (syncComplete set copy) s)

/-! ## Serving through the pair, R450 -/

/-- A forwarded line operation. -/
def fwdOpOf : FwdOp → LineOp
  | .read x => .read x
  | .specRd => .specRd
  | .inv => .inv
  | .clnEvct => .clnEvct
  | .write d m f p v => .write d m f p v
  | .atom op off bs => .atom op off bs

/-- FORWARDED_REQUEST (R450): a request of the same host, with the partner's number for the answer. -/
def forwardedRequest (id : Nat) (r : FwdReq) (s : State) : State :=
  if !mirrorOn s || s.pair.waitUntil.isSome then s
  else match r with
    | .mem h a d c n op =>
      let g : Ingress := .fwd id h a d c n (fwdOpOf op)
      if ingressRoom s g && firstIn s g then takeIngress g s
      else
        let bp := fwdPipe s h a
        { bridgeEvent 2 bp s with bridge.waiting := s.bridge.waiting ++ [(bp, g)] }
    | .queue q op => routeOp q op (.twin id) s

/-- R450: FORWARDED_REQUEST. -/
def execForwardedRequest (id : Nat) (r : FwdReq) (s : State) : Host.Outcome State Fault Refusal :=
  .next (whenCarries (fun s => letIn (forwardedRequest id r s)) s)

/-! ## Takeover, R460-R463 -/

/-- A read of TAKEOVER_REQ takes its post. -/
def takeoverTake (s : State) : Word × State := (s.pair.tkPost.getD 0#64, { s with pair.tkPost := none })

/-- The decision on an open request: the takeover, or the sets go offline (R460). -/
def takeoverDecide (go : Bool) (mask : Nat) (s : State) : State :=
  let s := { s with pair.tkOpen := none, pair.tkPost := none }
  if go then takeoverStart mask s
  else
    let sets := (List.range 2).filter mask.testBit
    let s := sets.foldl setOffline (pairEvent 7 s)
    let s := { s with pair.tkOffline := s.pair.tkOffline ||| mask }
    let s := match s.mode with | .paired => setMode .solo s | _ => s
    letIn (redoPartner s)

/-- TAKEOVER_RESP written (R460). -/
def takeoverAnswer (data : Word) (s : State) : State :=
  let s := s.wr Reg.takeoverResp (data &&& (fldMask 63 62 ||| fldMask 55 48))
  if !bitAt data 63 then s
  else match s.pair.tkOpen with
    | some (tag, mask) => if fld data 55 48 = tag then takeoverDecide (bitAt data 62) mask s else pairEvent 10 s
    | none => pairEvent 10 s

/-- R463: the notices: on each host's lowest-numbered HOST port that is up, and on every ISL port that is up. -/
def sendNotices (s : State) : State :=
  let ps := (List.range 64).filterMap s.hostUpPort ++ (s.portsOf 4).filter s.linkIsUp
  s.emits (ps.map (fun p => .takeoverNotice p (fld (s.rd Reg.deviceId) 15 0) s.pair.pairId (1 - s.pair.member) s.pair.tkSets s.pair.tkOffline))

/-- TAKEOVER_READY (R461 step 7): the notices, the record, the event, and the 18 µs of the hosts' retry. -/
def takeoverReady (s : State) : State :=
  if s.pair.tkSets = 0 ∨ s.pair.tkReady.isSome then s
  else
    let s := { s with
      pair.tkReady := some s.now, pair.readyNs := min (s.now - s.pair.tkDecided) (2 ^ 32 - 1),
      pair.tkUntil := some (s.now + 18000) }
    pairEvent 6 (pairRec 0xA3 .deferred s.pair.tkSets (sendNotices s))

/-- R461: TAKEOVER_READY. -/
def execTakeoverReady (s : State) : Host.Outcome State Fault Refusal := .next (whenCarries takeoverReady s)

/-- The mode that TAKEOVER gives way to: SWAP while the exchange goes on (R415), else R418's. -/
def afterTakeover (s : State) : Mode :=
  match s.alm.swap with
  | .idle | .checking => returnMode s
  | .library | .gap _ _ => .swap

/-- TAKEOVER_END (R461, R244): readiness plus 18 µs, once a boundary that was deferred to then has been taken. -/
def takeoverEnd (s : State) : State :=
  match s.pair.tkUntil with
  | none => s
  | some t =>
    if s.tick.running && decide (s.tick.defer ≠ .commit) && decide ((boundaryDue s).1 ≤ t) then s
    else
      let s := s.reach t
      let s := { s with pair.tkSets := 0, pair.tkReady := none, pair.tkUntil := none }
      match s.mode with
      | .takeover => setMode (afterTakeover s) s
      | _ => s

/-! ## Moving a set and dissolving, R467, R468 -/

/-- Is a set held here and current at the partner? -/
def mayMoveSet (s : State) (m : Nat) : Bool :=
  decide (s.pair.state = .formed) && holds s m && !s.pair.peerStale.getD m false && decide (s.pair.takeTick = none)

/-- The effect of PAIR_CTL.MOVE_GO (R467). -/
def moveGo (s : State) : State :=
  if !s.pair.present || s.pair.moveSet.isSome then s
  else
    let m := s.rf Reg.pairCtl 8 8
    if mayMoveSet s m then { s.wb Reg.pairCtl 1 true with pair.moveSet := some (m, s.tick.num) }
    else s.wb Reg.pairCtl 1 false

/-- Does an access belong to a set? -/
def accOf (s : State) (m : Nat) (a : LAcc) : Bool := a.mirror && setOf s a.win == m

/-- Is an access to a set in progress, or a queue operation on one of its queues? -/
def setBusy (s : State) (m : Nat) : Bool :=
  s.home.entries.any (fun e => accOf s m e.2.acc && decide (e.2.st ≠ .entered))
    || s.home.mirWaits.any (fun w => w.set == m)
    || (setQueues s m).any (fun q => (tget s.qu.busy q).isSome)

/-- The access of a ring unit. -/
def unitAcc (u : RUnit) : Option LAcc := match u.body with | .mem a | .tick a => some a | _ => none

/-- Does a unit carry an access to a set? -/
def unitOf (s : State) (m : Nat) (u : RUnit) : Bool := ((unitAcc u).map (accOf s m)).getD false

/-- The requesters whose accesses to a set wait: on the rings, at the slices, at the tick unit, and in trackers. -/
def setWaiters (s : State) (m : Nat) : List Who :=
  ((s.rings.wait ++ s.rings.flight ++ s.rings.arrived).filterMap unitAcc
    ++ (s.home.entries.map (fun e => e.2.acc)) ++ s.home.waiting.map (·.1) ++ s.tick.inbox).filterMap (fun a =>
      if accOf s m a then some a.who else none)
  ++ (s.bridge.trks.filter (fun e => decide (e.2.st = .wait) && (decide (e.2.target = .hbm) || decide (e.2.target = .tick)) &&
      accOf s m (trkAcc s e.1 e.2 false e.2.pool e.2.dpa))).map (fun e => .trk e.1)

/-- Take the waiting accesses of a set out of where they wait. -/
def pullSet (m : Nat) (s : State) : State :=
  let gone := (s.rings.flight ++ s.rings.arrived).filter (unitOf s m)
  let entries := s.home.entries.filter (fun e => !(accOf s m e.2.acc && decide (e.2.st = .entered)))
  let s := { s with
    rings.wait := s.rings.wait.filter (fun u => !unitOf s m u),
    rings.flight := s.rings.flight.filter (fun u => !unitOf s m u),
    rings.arrived := s.rings.arrived.filter (fun u => !unitOf s m u),
    home.entries := entries,
    home.waiting := s.home.waiting.filter (fun w => !accOf s m w.1),
    tick.inbox := s.tick.inbox.filter (fun a => !accOf s m a) }
  gone.foldl (fun s u => leaveBuffer u s) s

/-- A waiting requester's access starts again at its translation, which now gives the partner. -/
def redirect (w : Who) (s : State) : State :=
  match w with
  | .trk k =>
    (match s.trk? k with
    | some t =>
      if t.st = .held then freeTrk k s
      else translateTrk k (s.modTrk k (fun t => { t with st := .translate, also := none, ans := none }))
    | none => s)
  | .eng e id => s.modEng e (fun g => { g with acc := tmod g.acc id (fun a => { a with st := .port, gen := none }) })
  | .own => s

/-- R467 step 3: this member hands a set to the partner. -/
def handSet (m : Nat) (s : State) : State :=
  let ws := setWaiters s m
  let ops := s.qu.waits.filter (fun w => (setQueues s m).contains w.q)
  let s := pullSet m s
  let s := { s with
    pair.moveSet := none, pair.holder := setAt s.pair.holder m (1 - s.pair.member), pair.copy := setAt s.pair.copy m .current,
    qu.waits := s.qu.waits.filter (fun w => !(setQueues s m).contains w.q) }
  let s := (becomeMirror m s).emit (.twinMove m)
  let s := pairEvent 9 (s.wb Reg.pairCtl 1 false)
  let s := ws.foldl (fun s w => redirect w s) s
  ops.foldl (fun s w => routeOp w.q w.op w.dest s) s

/-- R422 step 4: DRAIN moves each set that the member holds and whose partner copy is CURRENT. -/
def drainMove (s : State) : State :=
  if s.mode = .drain ∧ s.pair.present ∧ s.pair.moveSet = none then
    match (List.range 2).find? (mayMoveSet s) with
    | some m => { s with pair.moveSet := some (m, s.tick.published) }
    | none => s
  else s

/-- SET_MOVE_EXECUTE (R467): after the boundary and its publish, with every access in progress complete. -/
def moveExecute (s : State) : State :=
  match s.pair.moveSet with
  | some (m, _) => if setWaits s m && !setBusy s m then drainMove (handSet m s) else s
  | none => s

/-- R467: SET_MOVE_EXECUTE. -/
def execSetMoveExecute (s : State) : Host.Outcome State Fault Refusal :=
  .next (whenCarries (fun s => letIn (moveExecute s)) s)

/-- SET_MOVE_RECEIVED (R467): the partner hands a set over. -/
def moveReceived (m : Nat) (s : State) : State :=
  if mirrorOn s && decide (m < 2) && !holds s m then
    startTimers m
      { s with pair.holder := setAt s.pair.holder m s.pair.member, pair.peerStale := setAt s.pair.peerStale m false }
  else s

/-- R467: SET_MOVE_RECEIVED. -/
def execSetMoveReceived (set : Nat) (s : State) : Host.Outcome State Fault Refusal :=
  .next (whenCarries (moveReceived set) s)

/-- The effect of PAIR_CTL.DISSOLVE (R468): both members act at the next boundary's publish. -/
def dissolveGo (s : State) : State :=
  if s.pair.present && decide (s.pair.state = .formed) && s.pair.dissolving.isNone then
    { s.wb Reg.pairCtl 2 true with pair.dissolving := some s.tick.num }.emit .twinDissolve
  else if s.pair.dissolving.isSome then s
  else s.wb Reg.pairCtl 2 false

/-- R468: the pair dissolves: mirroring stops, PEER_STALE is set, the TWIN ports are disabled, the mode is SOLO. -/
def dissolveNow (s : State) : State :=
  let s := { s with
    pair.state := .dissolved, pair.dissolving := none,
    pair.peerStale := (List.range 2).map (fun m => holds s m || s.pair.peerStale.getD m false),
    pair.copy := (List.range 2).map (fun m => if holds s m then .current else .stale) }
  let s := endMirroring s
  let s := (s.portsOf 5).foldl (fun s p => portOff p s) s
  let s := match s.mode with | .paired => setMode .solo s | _ => s
  letIn (allHostLinks (redoPartner (s.wb Reg.pairCtl 2 false)))

/-- What the pair logic does once a tick has been published: a dissolution that waited for it (R468). -/
def pairAfterPublish (s : State) : State :=
  match s.pair.dissolving with
  | some t => if t ≤ s.tick.published then dissolveNow s else s
  | none => s

/-! ## Chains of pairs, R470 -/

/-- A target, with one edge port ID in place of another. -/
def retarget (old port pbr : Nat) : Target → Target
  | .isl q x => if x = old then .isl port pbr else .isl q x
  | t => t

/-- R470: one request is sent again to the twin: of a migration's write, only the half that had gone to the failed member. -/
def resendIsl (old port pbr k : Nat) (s : State) : State :=
  match s.trk? k with
  | none => s
  | some t =>
    let t' := { t with target := retarget old port pbr t.target,
                       also := t.also.map (fun x => (x.1, retarget old port pbr x.2.1, x.2.2)) }
    let s' := s.modTrk k (fun _ => t')
    match t.also with
    | none => s.modTrk k (fun _ => { t' with st := .wait })
    | some _ =>
      match injectAll k t' (((owedTargets t).zip (owedTargets t')).filterMap (fun e => if e.1 = e.2 then none else some e.2)) s' with
      | .ok s => s
      | .error _ => s.modTrk k (fun _ => { t' with st := .wait })

/-- ISL_TAKEOVER_NOTICE (R470): every request sent to the failed member's edge port that has no answer is sent again to its
twin's. -/
def islNotice (port pbr : Nat) (s : State) : State :=
  if s.role port ≠ 4 || !s.linkIsUp port then s
  else match s.pair.twins.find? (fun e => e.2 == pbr) with
    | none => s
    | some (old, _) =>
      (s.bridge.trks.filter (fun e => decide (e.2.st = .issued) && (owedTargets e.2).any (fun x => match x.2 with
        | .isl _ y => y == old
        | _ => false))).foldl (fun s e => resendIsl old port pbr e.1 s) s

/-- R470: ISL_TAKEOVER_NOTICE. -/
def execIslTakeoverNotice (port pbr : Nat) (s : State) : Host.Outcome State Fault Refusal :=
  .next (whenCarries (islNotice port pbr) s)

/-! ## Registers -/

/-- Codes of STATE, of a copy. -/
def PairState.code : PairState → Nat
  | .none => 0 | .waiting => 1 | .syncing => 2 | .formed => 3 | .linkLost => 4 | .partnerLost => 5 | .dissolved => 6
def CopyState.code : CopyState → Nat
  | .current => 0 | .syncing => 1 | .stale => 2

/-- PAIR_STATUS. -/
def readPairStatus (s : State) : Word :=
  let p := s.pair
  let copy := fun (m : Nat) => if holds s m then 0 else (p.copy.getD m .current).code
  let links := ((s.portsOf 5).zipIdx.map (fun e => if s.linkIsUp e.1 then 2 ^ e.2 else 0)).sum
  mkFld 55 52 (p.partnerMode.getD 0) ||| mkFld 47 40 p.missRun ||| mkFld 33 32 links ||| mkFld 31 31 (b2n p.aliveIn)
    ||| mkFld 30 30 (b2n p.pinSuspect) ||| mkFld 27 26 (copy 1) ||| mkFld 25 24 (copy 0)
    ||| mkFld 23 22 (p.holder.getD 1 2) ||| mkFld 21 20 (p.holder.getD 0 2) ||| mkFld 15 12 p.state.code
    ||| mkFld 8 8 p.member ||| mkFld 7 4 p.formCause

/-- DTB_OFFSET. -/
def readDtbOffset (s : State) : Word := BitVec.ofInt 64 s.pair.dtbOffset

/-- SYNC_PROGRESS. -/
def readSyncProgress (s : State) : Word :=
  match s.pair.syncSet with
  | some m => mkFld 63 63 1 ||| mkFld 62 62 m ||| mkFld 31 0 s.pair.syncMib
  | none => 0#64

/-- TAKEOVER_LOG. -/
def readTakeoverLog (s : State) : Word := mkFld 63 32 s.pair.readyNs ||| mkFld 31 0 s.pair.decideNs

end Sys2Proof.Machine
end

