-- ==== Sys2Proof/Machine/Counters.lean ====
section
/-! DEFINITION. Reading, freezing, clearing and copying the counters (R532, R535-R543). -/
namespace Sys2Proof.Machine

/-- A counter by its offset in the live view of the COUNTERS block; aliases of the bridge's RC counters are read, not
cleared. -/
def liveCount (s : State) (off : Nat) : Nat :=
  if 0x100000 ≤ off then
    let n := (off - 0x100000) / 8
    queueWord s (2 * n) + queueWord s (2 * n + 1) * 2 ^ 32
  else if 0x14000 ≤ off ∧ off < 0x16000 then
    let i := (off - 0x14000) / 0x20
    match (off - 0x14000) % 0x20 with
    | 0 => s.rf (Reg.lateCompletion i) 31 0
    | 8 => s.rf (Reg.ctoCount i) 31 0
    | 16 => s.rf (Reg.poundCount i) 31 0
    | _ => 0
  else if 0x12000 ≤ off ∧ off < 0x12080 then s.rf (Reg.lateTrk ((off - 0x12000) / 8)) 31 0
  else tgetD s.cnt.live off 0

/-- R538: every counter of the chapter, as it stands. -/
def capture (s : State) : Tbl Nat :=
  let qs := (s.tabs.queues.filter (fun e => decide (e.1 < s.tabs.qCount))).map (fun e => 0x100000 + 8 * (e.1 / 2))
  let legs := ((List.range 256).map (fun i => [0x14000 + 0x20 * i, 0x14008 + 0x20 * i, 0x14010 + 0x20 * i])).flatten
  let trks := (List.range 16).map (fun n => 0x12000 + 8 * n)
  (legs ++ trks ++ qs).foldl (fun t o => tput 0 t o (liveCount s o)) s.cnt.live

/-- The snapshot of the boundary that opens tick `t` (R538), or one more that is skipped while the back bank is being filled
(R539). -/
def takeSnapshot (t : Nat) (s : State) : State :=
  if !s.rb Reg.countCtl 1 then s
  else if s.cnt.back.isSome then
    let s := { s with cnt.skipped := satAdd 16 s.cnt.skipped 1, cnt.skipEv := true }
    let recent := match s.cnt.lastSkipRec with | some t => decide (s.now < t + 1000000) | none => false
    if recent then s
    else { s with cnt.lastSkipRec := some s.now }.raise 0xD0 .corrected .counters 0 (t % 2 ^ 32)
  else { s with cnt.back := some (capture s, t, s.now, s.cnt.frozen) }

/-- SNAPSHOT_BANK_READY (R538): the back bank becomes the front bank. -/
def snapshotReady (s : State) : State :=
  match s.cnt.back with
  | some (b, t, d, f) =>
    { s with cnt.front := b, cnt.back := none, cnt.snapTick := t, cnt.snapDtb := d, cnt.snapFrozen := f }
  | none => s

/-- R538: SNAPSHOT_BANK_READY. -/
def execSnapshotBankReady (s : State) : Host.Outcome State Fault Refusal := .next (snapshotReady s)

/-- What a write of COUNT_CTL starts: a change of FREEZE and a CLEAR are shared instants (R535, R537). -/
def countCtlWritten (old new : Word) (s : State) : State :=
  let s := if bitAt old 0 = bitAt new 0 then s else scheduleInstant (.freeze (bitAt new 0)) s
  if bitAt new 2 && !bitAt old 2 then scheduleInstant .clear { s with cnt.clearing := true } else s

/-- COUNT_STATUS. -/
def readCountStatus (s : State) : Word :=
  mkFld 47 32 s.cnt.skipped ||| mkFld 3 3 (b2n s.cnt.skipEv) ||| mkFld 2 2 (b2n s.cnt.clearing)
    ||| mkFld 1 1 (b2n s.cnt.back.isSome) ||| mkFld 0 0 (b2n s.cnt.frozenAll)

/-- The counters' offsets of the live view that hold a register. -/
def countOffset (o : Nat) : Bool :=
  decide (o % 8 = 0) &&
    ((decide (0x1000 ≤ o) && decide (o ≤ 0x10C8)) ||
     (decide (0x2000 ≤ o) && decide (o < 0x4000) && decide (o % 0x40 ≤ 0x20)) ||
     (decide (0x4000 ≤ o) && decide (o < 0x5000) && decide (o % 0x20 < 0x18)) ||
     (decide (0x8000 ≤ o) && decide (o < 0x10000) && decide (o % 0x100 < 0x80) && decide (o % 0x20 < 0x18)) ||
     (decide (0x10000 ≤ o) && decide (o < 0x12080)) ||
     (decide (0x14000 ≤ o) && decide (o < 0x16000) && decide (o % 0x20 < 0x18)) ||
     (decide (0x20000 ≤ o) && decide (o < 0x40000) && decide (o % 0x100 < 0xF0)) ||
     (decide (0x40000 ≤ o) && decide (o < 0xD0000) && decide (o % 0x100 < 0xC0) && decide (o % 0x20 < 0x18)) ||
     (decide (0x100000 ≤ o) && decide (o < 0x200000)))

/-- A read of the counters at an offset of the COUNTERS block, control registers apart (R540): live, or of the front bank. -/
def readCounters (s : State) (o : Nat) : Word :=
  if o < 0x200000 then (if countOffset o then BitVec.ofNat 64 (liveCount s o) else 0#64)
  else
    let v := o - 0x200000
    if v = 0 then BitVec.ofNat 64 s.cnt.snapTick
    else if v = 8 then BitVec.ofNat 64 s.cnt.snapDtb
    else if v = 16 then mkFld 0 0 (b2n s.cnt.snapFrozen)
    else if countOffset v then BitVec.ofNat 64 (tgetD s.cnt.front v 0) else 0#64

/-- R541: what an aligned 8-byte read of a host's counter page returns. -/
def counterPage (s : State) (h off : Nat) : Word :=
  if off < 0x80 then BitVec.ofNat 64 (liveCount s (cntHost h off))
  else if off = 0x80 then mkFld 0 0 (b2n s.cnt.frozenAll)
  else if 0x800 ≤ off ∧ off < 0x880 then BitVec.ofNat 64 (tgetD s.cnt.front (cntHost h (off - 0x800)) 0)
  else if off = 0x880 then BitVec.ofNat 64 s.cnt.snapTick
  else if off = 0x888 then BitVec.ofNat 64 s.cnt.snapDtb
  else 0#64

/-- COUNTER_PAGE_READ (R541): a BAR 0 access of a HOST port: an aligned 8-byte read is served when COUNTER_ACCESS allows the
host; every other access completes with status UR, a write is dropped, and both are logged in AER. -/
def counterPageRead (p : Nat) (r : BarReq) (s : State) : State :=
  if !(s.role p == 1 && s.linkIsUp p && s.mode.carries && ideOk s p) then s
  else
    let h := portHost s p
    let s := s.count (cntPort p 0) 48 1
    if r.data.isNone && r.dws == 2 && r.off % 8 == 0 && decide (r.off < 4096) && s.tabs.counterAccess.getLsbD h then
      s.emit (.barCpl p (some (counterPage s h r.off)))
    else
      let s := viewAerLog h 0 s
      if r.data.isSome then s else s.emit (.barCpl p none)

/-- R541: COUNTER_PAGE_READ. -/
def execCounterPageRead (port : Nat) (req : BarReq) (s : State) : Host.Outcome State Fault Refusal :=
  .next (counterPageRead port req s)

end Sys2Proof.Machine
end

