-- ==== Sys2Proof/Machine/Ras.lean ====
section
/-! DEFINITION. The error logger: rings, escalation windows, the ring lock, last-resort slots, the violation log:
chapter 15. What a severity's action does to the units is in RasActions. -/
namespace Sys2Proof.Machine

/-! ## The record's layout, R472 -/

/-- Words 0 to 6 of a record; word 7 carries CHECK in its upper half. -/
def ErrRec.body (r : ErrRec) : List Word :=
  [ BitVec.ofNat 64 r.dtb,
    mkFld 63 32 r.seq ||| mkFld 31 24 r.cls ||| mkFld 19 16 r.sev.code ||| mkFld 11 8 r.clsSev.code
      ||| mkFld 1 1 (b2n (isNotice r.cls)) ||| mkFld 0 0 (b2n r.lastResort),
    mkFld 63 56 r.unit.code ||| mkFld 49 32 r.inst ||| mkFld 18 18 (b2n r.addr.isSome) ||| mkFld 17 17 (b2n r.host.isSome)
      ||| mkFld 16 16 (b2n r.port.isSome) ||| mkFld 14 9 (r.host.getD 0) ||| mkFld 8 0 (r.port.getD 0),
    (match r.addr with | some (k, a) => mkFld 63 62 k ||| mkFld 51 0 a | none => 0#64),
    BitVec.ofNat 64 r.info, BitVec.ofNat 64 (r.info / 2 ^ 64),
    mkFld 63 32 r.prevSeq ]

/-- The eight words of a record, CHECK being the CRC-32C of bytes 0-59. -/
def ErrRec.words (r : ErrRec) : List Word :=
  r.body ++ [mkFld 63 32 (crc32c ((r.body ++ [0#64]).flatMap wordBytes |>.take 60)).toNat]

/-- The four words of a violation log entry, R495. -/
def VioRec.words (v : VioRec) : List Word :=
  [ BitVec.ofNat 64 v.dtb,
    mkFld 63 60 v.typ ||| mkFld 59 58 v.addrKind ||| mkFld 51 0 v.addr,
    mkFld 63 60 v.reqKind ||| mkFld 59 54 v.host ||| mkFld 53 45 v.port ||| mkFld 44 38 v.engine ||| mkFld 31 16 v.reqId
      ||| mkFld 11 0 v.contrib,
    mkFld 63 32 v.vseq ||| mkFld 31 29 v.op ||| mkFld 17 0 v.object ]

/-! ## Rings and windows, R475, R482-R486 -/

/-- An empty ring. -/
def emptyRing : Ring := { recs := [], prod := 0, cons := 0, ovf := 0 }

/-- Ring `s` (1-5). -/
def State.ring (s : State) (k : Nat) : Ring := tgetD s.ras.rings k emptyRing

/-- Store a ring. -/
def State.setRing (k : Nat) (r : Ring) (s : State) : State := { s with ras.rings := tset s.ras.rings k r }

/-- ESC_CTL: the window length for a severity, in ns; 0 for none. -/
def windowLen (s : State) (v : Sev) : Nat :=
  match v with
  | .corrected => s.rf Reg.escCtl 15 0 * 10000
  | .deferred => s.rf Reg.escCtl 31 16 * 10000
  | .contained => s.rf Reg.escCtl 47 32 * 10000
  | .fatalUnit => s.rf Reg.escCtl 63 48 * 10000
  | .fatalDevice => 0

/-- Is a record's source isolated (R486)? A LEGACY source by the port of its index. -/
def sourceIsolated (s : State) (u : UnitKind) (i : Nat) : Bool :=
  match u with
  | .port => s.ras.isoPorts.contains i
  | .legacy => s.ras.isoPorts.any (fun p => s.role p == 3 && s.rf (Reg.portCfg p) 55 48 == i)
  | .engine => s.ras.isoClusters.contains (i / 8)
  | .cluster => s.ras.isoClusters.contains i
  | .steward => s.ras.isoStewards.testBit i
  | _ => s.ras.isoOther.contains (u, i)

/-- The kinds of source that R487's table lists. -/
def isolatable (u : UnitKind) : Bool :=
  match u with
  | .port | .legacy | .engine | .cluster | .steward | .queue | .host | .slot => true
  | _ => false

/-- The open window of a source. A window whose length has passed is no longer open; at its last instant it is (R484). -/
def openWindow (s : State) (u : UnitKind) (i : Nat) : Option HWindow :=
  s.ras.windows.find? (fun w => w.unit == u && w.inst == i && decide (s.now ≤ w.deadline))

/-- Would isolating this steward leave none in service (R494)? -/
def lastSteward (s : State) (i : Nat) : Bool :=
  ((List.range 4).all (fun k => s.ras.isoStewards.testBit k || k == i))

/-- R483, R485-R487: the severity of a record, and the SEQ of the record whose window raised it. -/
def decideSev (s : State) (r : ErrRec) : Sev × Option Nat :=
  let base : Sev × Option Nat :=
    if isNotice r.cls || sourceIsolated s r.unit r.inst then (r.clsSev, none)
    else match openWindow s r.unit r.inst with
      | some w => (Sev.ofCode (max r.clsSev.code w.sev.code + 1), some w.seq)
      | none => (r.clsSev, none)
  if base.1 == .fatalUnit && !s.assist 5 && (!isolatable r.unit || (r.unit == .steward && lastSteward s r.inst)) then
    (.fatalDevice, base.2)
  else base

/-- R482, R486: open a window for a record's source at its decided severity, replacing the open one. -/
def openWin (r : ErrRec) (pos : Option Nat) (s : State) : State :=
  let others := s.ras.windows.filter (fun w => !(w.unit == r.unit && w.inst == r.inst))
  if isNotice r.cls || sourceIsolated s r.unit r.inst then s
  else if r.sev == .fatalDevice then { s with ras.windows := others }
  else if windowLen s r.sev = 0 then s
  else
    let w : HWindow :=
      { unit := r.unit, inst := r.inst, sev := r.sev, seq := r.seq, start := s.now,
        deadline := s.now + windowLen s r.sev, pos }
    let live := others.filter (fun w => decide (s.now ≤ w.deadline))
    if live.length ≥ 1024 then
      { s with ras.windows := live.drop 1 ++ [w] }.setEvent Reg.rasEvents 10
    else { s with ras.windows := live ++ [w] }

/-- R477: the RECORD message of a record that entered a ring or a slot. -/
def sendRecord (r : ErrRec) (s : State) : State :=
  if s.rb Reg.rasCtl (r.sev.code - 1) then s.toFm (.record r) else s

/-- Take the next SEQ (R473). -/
def takeSeq (s : State) : Nat × State := (s.ras.nextSeq, { s with ras.nextSeq := (s.ras.nextSeq + 1) % 2 ^ 32 })

/-- R475: put a record with its SEQ into its ring; a full ring loses it. Answers its place. -/
def putRing (r : ErrRec) (s : State) : Option Nat × State :=
  let g := s.ring r.sev.code
  if (g.prod + 2 ^ 32 - g.cons) % 2 ^ 32 ≥ 256 then
    (none, (s.setRing r.sev.code { g with ovf := satAdd 32 g.ovf 1 }).setEvent Reg.rasEvents 0)
  else
    (some g.prod, s.setRing r.sev.code
      { g with recs := tset g.recs (g.prod % 256) r, prod := (g.prod + 1) % 2 ^ 32 })

/-- A record with its severity decided, its SEQ taken and ESCALATED set where it was escalated (R473, R483). -/
def decided (r : ErrRec) (s : State) : ErrRec × State :=
  let d := decideSev s r
  let (seq, s) := takeSeq s
  let s := if d.2.isSome then s.setEvent Reg.rasEvents 3 else s
  ({ r with sev := d.1, prevSeq := d.2.getD 0, seq }, s)

/-- A record enters its ring (R475, R477, R482). -/
def enterRing (r : ErrRec) (s : State) : ErrRec × State :=
  let (r, s) := decided r s
  let (pos, s) := putRing r s
  (r, openWin r pos (if pos.isSome then sendRecord r s else s))

/-- R480: a record goes to the lowest free last-resort slot, or is lost. -/
def enterSlot (r : ErrRec) (s : State) : ErrRec × State :=
  let (r, s) := decided r s
  let r := { r with lastResort := true }
  match (List.range 16).find? (fun k => !s.ras.slotUsed.testBit k) with
  | some k =>
    let s := { s with ras.slots := tset s.ras.slots k r, ras.slotUsed := s.ras.slotUsed ||| 2 ^ k }
    (r, openWin r none (sendRecord r (s.setEvent Reg.rasEvents 6)))
  | none =>
    let s := { s with ras.slotLost := satAdd 32 s.ras.slotLost 1 }
    (r, openWin r none (s.setEvent Reg.rasEvents 9))

/-- The ring a record would enter is locked (R480). -/
def ringLocked (s : State) (r : ErrRec) : Bool := (tget s.ras.locks (decideSev s r).1.code).isSome

/-- Insert by SEQ. -/
def insertBySeq (p : Nat × ErrRec) : List (Nat × ErrRec) → List (Nat × ErrRec)
  | [] => [p]
  | q :: r => if p.2.seq ≤ q.2.seq then p :: q :: r else q :: insertBySeq p r

/-- R481: every slot record of ring `k`, in SEQ order, moves into the ring and frees its slot; then one ER_LAST_RESORT
record tells how many moved. -/
def drainSlots (k : Nat) (s : State) : State :=
  let recs := (s.ras.slots.filter (fun e => s.ras.slotUsed.testBit e.1 && e.2.sev.code == k)).foldl
    (fun l e => insertBySeq e l) []
  if recs.isEmpty then s else
  let s := recs.foldl (fun st e =>
    let (pos, st) := putRing e.2 st
    { st with ras.slotUsed := st.ras.slotUsed ^^^ 2 ^ e.1,
              ras.windows := st.ras.windows.map (fun w =>
                if w.seq == e.2.seq && w.pos.isNone then { w with pos := pos } else w) }) s
  s.raise 0xB3 .deferred .ras 0 (recs.length % 65536 + 65536 * (s.ras.slotLost % 65536))

/-- A write of RING_CONS_s (R477): refused below its value or above PROD; the windows of the records taken stop (R482). -/
def ringConsWrite (k v : Nat) (s : State) : State :=
  let g := s.ring k
  if k < 1 ∨ 5 < k ∨ 2 ^ 32 ≤ v ∨ (g.prod + 2 ^ 32 - g.cons) % 2 ^ 32 < (v + 2 ^ 32 - g.cons) % 2 ^ 32 then s
  else
    let s := s.setRing k { g with cons := v }
    { s with
        ras.windows := s.ras.windows.filter (fun w =>
        !(w.sev.code == k && (match w.pos with
          | some q => decide ((q + 2 ^ 32 - g.cons) % 2 ^ 32 < (v + 2 ^ 32 - g.cons) % 2 ^ 32)
          | none => false))) }

/-- A write of VLOG_CONS (R496, as R477). -/
def vlogConsWrite (v : Nat) (s : State) : State :=
  if 2 ^ 32 ≤ v ∨ (s.ras.vprod + 2 ^ 32 - s.ras.vcons) % 2 ^ 32 < (v + 2 ^ 32 - s.ras.vcons) % 2 ^ 32 then s
  else { s with ras.vcons := v }

/-- HANDLING_WINDOW_EXPIRY (R482): the `k`th open window reaches its length and stops. -/
def windowExpiry (k : Nat) (s : State) : State :=
  match s.ras.windows[k]? with
  | some w => { s.reach w.deadline with ras.windows := dropAt s.ras.windows k }
  | none => s

/-- HANDLING_WINDOW_EXPIRY. -/
def execHandlingWindowExpiry (k : Nat) (s : State) : Host.Outcome State Fault Refusal := .next (windowExpiry k s)

/-- STEWARD_WATCHDOG_PET (R492): the watchdog starts again. -/
def watchdogPet (n : Nat) (s : State) : State :=
  if (tget s.ras.wdog n).isSome then
    { s with ras.wdog := tset s.ras.wdog n (s.now + s.rf Reg.rasCtl 23 16 * 1000000) }
  else s

/-- STEWARD_WATCHDOG_PET. -/
def execStewardWatchdogPet (n : Nat) (s : State) : Host.Outcome State Fault Refusal := .next (watchdogPet n s)

/-! ## Reading the block -/

/-- RAS_STATUS (15). -/
def readRasStatus (s : State) : Word :=
  mkFld 52 48 ((List.range 16).filter s.ras.slotUsed.testBit).length
    ||| mkFld 42 32 (s.ras.windows.filter (fun w => decide (s.now ≤ w.deadline))).length
    ||| mkFld 29 20 s.ras.isoPorts.length ||| mkFld 19 16 s.ras.isoStewards
    ||| mkFld 15 0 (s.ras.isoClusters.foldl (fun a c => a ||| 2 ^ c) 0)

/-- ISO_PORT_k (15). -/
def readIsoPort (s : State) (k : Nat) : Word :=
  BitVec.ofNat 64 ((s.ras.isoPorts.filter (fun p => p / 64 == k)).foldl (fun a p => a ||| 2 ^ (p % 64)) 0)

/-- STW_WDOG_n (15). -/
def readWdog (s : State) (n : Nat) : Word :=
  mkFld 25 25 (b2n (s.ras.isoStewards.testBit n)) ||| mkFld 23 16 (tgetD s.ras.restarts n 0)

/-- LR_STATUS (15). -/
def readLrStatus (s : State) : Word := mkFld 63 32 s.ras.slotLost ||| mkFld 15 0 s.ras.slotUsed

/-- Word `k` of ring `r`, position `i`; 0 where no record has been. -/
def readRingWord (s : State) (r i k : Nat) : Word :=
  match tget (s.ring r).recs i with | some e => e.words.getD k 0#64 | none => 0#64

/-- Word `k` of violation log position `i`. -/
def readVlogWord (s : State) (i k : Nat) : Word :=
  match tget s.ras.vlog i with | some e => e.words.getD k 0#64 | none => 0#64

/-- Word `k` of last-resort slot `i`. -/
def readSlotWord (s : State) (i k : Nat) : Word :=
  match tget s.ras.slots i with | some e => e.words.getD k 0#64 | none => 0#64

/-- Word `k` of HALT_REC. -/
def readHaltRec (s : State) (k : Nat) : Word :=
  match s.ras.haltRec with | some e => e.words.getD k 0#64 | none => 0#64

end Sys2Proof.Machine
end

