-- ==== Sys2Proof/Machine/LinkEvents.lean ====
section
/-! DEFINITION. What a link's going up, down, or to another rate or width does to the traffic and to the hosts (R48, R53,
R59-R63, R70, R112, R113, R164, R454). -/
namespace Sys2Proof.Machine

/-! ## Lanes -/

/-- R30: does a lane belong to a port? From LOAD onward the device holds a lane that does not electrically idle, with its
transmitter and receiver powered down. -/
def lanePowered (s : State) (lane : Nat) : Bool :=
  s.tabs.portEnts.any (fun p => decide (p.num ≤ lane) && decide (lane < p.num + p.lanes))

/-! ## R69, R70 -/

/-- The capacity in bytes that a backing finds behind its port: none where it has no such logical device. -/
def partnerCapacity (k : PartnerKind) (ld : Nat) : Option Nat :=
  match k with
  | .cxl true mld caps =>
    if ld ≠ 0 ∧ !mld then none else (caps.find? (fun c => c.1 == ld)).map (·.2)
  | .cxl false _ _ | .host | .pcie | .switch | .fabric => none

/-- The pool extents of a backing beyond its partner's capacity. -/
def shortExtents (k : PartnerKind) (b : Backing) : List Nat :=
  let cap := (partnerCapacity k b.ld).getD 0
  ((List.range b.plen).filter (fun i => decide (cap < (b.dbase + i + 1) * 2 ^ 28))).map (· + b.pbase)

/-- R70: the backings of a port are compared with what its partner reports. -/
def checkBackings (p : Nat) (k : PartnerKind) (s : State) : State :=
  let bs := (s.tabs.backings.filter (fun e => (e.2.typ == 1 || e.2.typ == 2) && e.2.port == p)).map (·.2)
  let short := (bs.map (shortExtents k)).flatten
  let s := { s with xl.short := s.xl.short.filter (fun x => !bs.any (fun b => b.holds x)) ++ short }
  if short.isEmpty then s else s.xlateEvent 8 (p / 256)

/-! ## A link comes up -/

/-- R112, R113: a HOST port of the host has come up: its legacy ports' waits stop and their items leave. -/
def hostLinkBack (h : Nat) (s : State) : State :=
  (bridgePorts s h).foldl (fun s p => releasePort p (s.modLeg p (fun l => { l with hostWait := none }))) s

/-- R69: at link up, HDM decoder 0 of a backing partner's logical devices is programmed: base 0, its capacity. R168: a backing partner's
event interrupt comes to the device, unless the collection is host-assisted. -/
def programPartner (p : Nat) (k : PartnerKind) (s : State) : State :=
  let bs := (s.tabs.backings.filter (fun e => (e.2.typ == 1 || e.2.typ == 2) && e.2.port == p)).map (·.2)
  match k with
  | .cxl true _ caps =>
    let s := (caps.filter (fun c => bs.any (fun b => b.ld == c.1))).foldl (fun s c => s.emit (.decoderProgram p c.1 c.2)) s
    if bs.any (fun b => b.typ == 1) && !s.assist 3 then s.emit (.eventProgram p) else s
  | .cxl false _ _ | .host | .pcie | .switch | .fabric => s

/-- What LINK_UP's rise does, by role. -/
def portUp (p : Nat) (r : LinkReport) (s : State) : State :=
  match s.role p with
  | 1 =>
    let h := portHost s p
    hostLinkBack h (wiresOnPort h (hostLinks h s))
  | 2 => checkBackings p r.partner (programPartner p r.partner s)
  | 3 => checkBackings p r.partner ((programPartner p r.partner s).modLeg p (fun l => { l with atomics := r.atomics % 8, mps := 0 }))
  | 5 => twinPortUp s
  | _ => s

/-! ## A link goes down, R61 -/

/-- A held completion for a HOST port that has gone down is discarded and counted, and its trackers are free (R61). -/
def dropCpls (p : Nat) (s : State) : State :=
  ((s.bridge.items.filter (fun e => match e.2.body with | .cpl q _ => q == p | _ => false)).map (·.1)).foldl
    (fun s i => endItem i (s.count (cntPort p 0x38) 48 1)) s

/-- Partners' requests to host memory that wait at the egress of a HOST port, or whose write does, wait again (R112). -/
def unsendTrks (p : Nat) (es : List Egr) (s : State) : State :=
  let unsent := fun (t : Trk) =>
    es.any (fun e => match e.body, t.tag, t.tlp with
      | .tlp (.mrd _ _ _ _ _ g), some g', some (.mrd ..) => g == g'
      | .tlp (.atom _ _ _ g), some g', some (.atom ..) => g == g'
      | _, _, _ => false) || es.any (fun e => match e.item, t.src with
      | some i, .leg j _ => i == j
      | _, _ => false)
  { s with
    bridge.trks := tmap (fun _ t =>
      if t.target = .hostLink p ∧ t.st = .issued ∧ unsent t then { t with st := .wait, target := .hostLink 0, tag := none }
      else t) s.bridge.trks }

/-- R61 for a HOST port: what waits at its egress is discarded, answers counted, and so are the answers still to come; a partner's
item that was to be delivered on it, and a partner's request that had not left on it, leave on the host link that takes its place
(R112). -/
def hostDown (p : Nat) (s : State) : State :=
  let es := tgetD s.bridge.egress p []
  let h := portHost s p
  let s := { s with bridge.egress := terase s.bridge.egress p }
  let lost := (es.filter (fun e => e.item.isNone && (match e.kind with | .cpl => true | .mem => decide (e.group = 4) | _ => false))).length
  let s := unsendTrks p es (dropCpls p (orphanTrks p (moveStreams p (s.count (cntPort p 0x38) 48 lost))))
  let s := es.foldl (fun s e => match e.item with
    | some i =>
      (match (s.item? i).map Item.body with
      | some (.intr _) | some (.note _) => s.modItem i (fun x => { x with released := false })
      | some (.wire _ _) => if s.bridge.egress.any (fun q => q.2.any (fun e => e.item == some i)) then s else endItem i s
      | _ => s)
    | none => s) s
  (bridgePorts s h).foldl (fun s q => releasePort q s) (wiresOnPort h (hostLinks h s))

/-- A link goes down, with the LTSSM state it goes to (R61). A legacy port is contained (R153). -/
def linkGoesDown (p st : Nat) (s : State) : State :=
  if !s.linkIsUp p then s
  else
    let s := capacityChanged (match s.role p with
      | 1 => hostDown p (linkLeaves p st s)
      | 2 | 4 => fabricDown p (linkLeaves p st s)
      | 3 => contain p 1 s
      | 5 => twinPortDown (linkLeaves p st s)
      | _ => linkLeaves p st s)
    letIn (startAttempt p s)

/-- LINK_DOWN (R61). -/
def linkDown (p : Nat) (s : State) : State := linkGoesDown p (if s.portEnabled p then 1 else 0) s

/-- R58: a link in service whose retrain has failed below RATE_MIN goes down. -/
def settleLost (p : Nat) (s : State) : State :=
  if ((s.link? p).map Link.lost).getD false then linkDown p s else s

/-- EQ_MEASURE_COMPLETE (R55). -/
def execEqMeasureComplete (p rate : Nat) (margins : List Nat) (localPreset : Nat) (s : State) :
    Host.Outcome State Fault Refusal := .next (settleLost p (eqMeasured p rate margins localPreset s))

/-- EQ_ANSWER_TIMEOUT (R56). -/
def execEqAnswerTimeout (p : Nat) (s : State) : Host.Outcome State Fault Refusal := .next (settleLost p (eqTimeout p s))

/-- R61: LINK_DOWN. -/
def execLinkDown (port : Nat) (s : State) : Host.Outcome State Fault Refusal := .next (whenCarries (linkDown port) s)

/-- LINK_UP (R53): L0 with the role's protocol active, at or above RATE_MIN; below it the attempt has failed. An attempt on
a port whose ENABLE was cleared ends in Disabled (R62). -/
def linkUp (p : Nat) (r : LinkReport) (s : State) : State :=
  match s.link? p with
  | none => s
  | some l =>
    if l.attempting && l.trainOffUntil.isSome then enterDisabled p s
    else if !l.attempting || !r.protoActive || !mayTrain s p then s
    else if r.rate < s.rf (Reg.portCfg p) 20 18 then
      if s.linkIsUp p then linkDown p s else attemptFails p s
    else
      let was := s.linkIsUp p
      let s := capacityChanged (linkComesUp p r s)
      if was then s else letIn (portUp p r s)

/-- R53: LINK_UP. -/
def execLinkUp (port : Nat) (report : LinkReport) (s : State) : Host.Outcome State Fault Refusal :=
  .next (whenCarries (linkUp port report) s)

/-! ## Changes in service, R48, R59, R60 -/

/-- A link runs on at another rate and width, reported to admission; one below RATE_MIN goes down (R59). -/
def newCapacity (p rate width lanes : Nat) (l0p : Bool) (s : State) : State :=
  if !s.linkIsUp p then s
  else if rate < s.rf (Reg.portCfg p) 20 18 then linkDown p s
  else letIn (capacityChanged (setCapacity p rate width (lanes % 2 ^ lanesOf (s.rf (Reg.portCfg p) 10 8)) l0p s))

/-- REPLAY_THRESHOLD (R59): the failing lanes are removed where the others still meet R58 (their width and lanes are given, and whether it is by L0p),
otherwise the rate falls one step. -/
def replayThreshold (p : Nat) (narrower : Option (Nat × Nat × Bool)) (s : State) : State :=
  if !s.linkIsUp p then s
  else
    let s := s.linkEvent p 6
    let rate := s.rf (Reg.linkStatus p) 15 13
    let width := s.rf (Reg.linkStatus p) 12 10
    match narrower with
    | some (w, lanes, l0p) => if w < width then newCapacity p rate w lanes l0p s else s
    | none => if rate = 0 then linkDown p s else newCapacity p (rate - 1) width (s.rf (Reg.linkStatus p) 47 32) (s.rb (Reg.linkStatus p) 8) s

/-- R59: REPLAY_THRESHOLD. -/
def execReplayThreshold (port : Nat) (narrower : Option (Nat × Nat × Bool)) (s : State) : Host.Outcome State Fault Refusal :=
  .next (whenCarries (replayThreshold port narrower) s)

/-- PARTNER_DOWNSHIFT (R59): accepted; it raises nothing (R60). -/
def partnerDownshift (p rate width lanes : Nat) (l0p : Bool) (s : State) : State :=
  newCapacity p (min rate (s.rf (Reg.linkStatus p) 15 13)) (min width (s.rf (Reg.linkStatus p) 12 10)) lanes l0p s

/-- R59: PARTNER_DOWNSHIFT. -/
def execPartnerDownshift (port rate width lanes : Nat) (l0p : Bool) (s : State) : Host.Outcome State Fault Refusal :=
  .next (whenCarries (partnerDownshift port rate width lanes l0p) s)

/-- PARTNER_RETRAIN (R60): the link may come back at a higher rate or width, within the port's limits (R52). -/
def partnerRetrain (p rate width lanes : Nat) (s : State) : State :=
  newCapacity p (min rate (rateLimit s p)) (min width (s.rf (Reg.portCfg p) 10 8)) lanes false s

/-- R60: PARTNER_RETRAIN. -/
def execPartnerRetrain (port rate width lanes : Nat) (s : State) : Host.Outcome State Fault Refusal :=
  .next (whenCarries (partnerRetrain port rate width lanes) s)

/-- IDE_INTEGRITY_FAIL (R48): the flit and later ones are dropped until the link is retrained; the link goes down through
Recovery. -/
def ideFail (p : Nat) (s : State) : State :=
  if s.linkIsUp p && s.rb (Reg.ideStatus p) 0 then
    let s := ((s.linkEvent p 8).count (cntPort p 0x58) 48 1).modLink p (fun l => { l with ideDrop := true })
    linkDown p s
  else s

/-- R48: IDE_INTEGRITY_FAIL. -/
def execIdeIntegrityFail (port : Nat) (s : State) : Host.Outcome State Fault Refusal := .next (whenCarries (ideFail port) s)

/-- PORT_DISABLE_DRAIN_END (R62): the owed responses are sent, or 1 ms has passed: the link goes to Disabled and R61 applies. -/
def drainEnds (p : Nat) (s : State) : State :=
  match (s.link? p).bind Link.drainUntil with
  | none => s
  | some t =>
    let empty := (tgetD s.bridge.egress p []).isEmpty && (((s.leg? p).map Leg.egress).getD []).isEmpty
    linkGoesDown p 0 (if empty then s else s.reach t)

/-- R62: PORT_DISABLE_DRAIN_END. -/
def execPortDisableDrainEnd (port : Nat) (s : State) : Host.Outcome State Fault Refusal :=
  .next (whenCarries (drainEnds port) s)

/-! ## Arbitration, R265, R270 -/

/-- ARBITER_GRANT: one decision of a ring stop's, an engine memory port's or an egress arbiter. -/
def execArbiterGrant (arb : ArbId) (cycle : Nat) (s : State) : Host.Outcome State Fault Refusal :=
  .next (whenCarries (fun s => letIn (match arb with
    | .ring plane stop cw => ringGrant plane stop cw cycle s
    | .enginePort c => portGrant c s
    | .egress p => egressGrant p s)) s)

end Sys2Proof.Machine
end

