-- ==== Sys2Proof/Machine/Slots.lean ====
section
/-! DEFINITION. The slot chain, fusing and hot-plug sequencing: chapter 16 from "The slot chain" on.
Assumptions 53, 55. -/
namespace Sys2Proof.Machine

/-- The value of bits `[hi:lo]` of a chain word. -/
def cfld (w : BitVec 32) (hi lo : Nat) : Nat := (w.toNat / 2 ^ lo) % 2 ^ (hi + 1 - lo)

/-- R509: the XOR of the seven nibbles below CHECK, XOR 0x5. -/
def chainCheck (w : BitVec 32) : Nat :=
  (List.range 7).foldl (fun a i => a ^^^ cfld w (4 * i + 3) (4 * i)) 5

/-- Has a chain word a valid check? -/
def chainOk (w : BitVec 32) : Bool := cfld w 31 28 == chainCheck w

/-- A chain word with its check. -/
def withCheck (w : BitVec 32) : BitVec 32 :=
  (w &&& 0x0FFFFFFF#32) ||| BitVec.ofNat 32 (chainCheck w * 2 ^ 28)

/-- The slot as commanded, as its out word; `gpo` is SLOT_CTL.GPO. -/
def outWord (gpo : Nat) (sl : Slot) : BitVec 32 :=
  withCheck (BitVec.ofNat 32 (b2n sl.en * 2 ^ 27 + b2n sl.cutoff * 2 ^ 26 + (sl.attnInd % 4) * 2 ^ 24
    + (sl.pwrInd % 4) * 2 ^ 22 + b2n sl.perstN * 2 ^ 21 + (gpo % 256) * 2 ^ 8))

/-- A slot of the chain as the SLOTS section gives it, off and unpopulated. -/
def newSlot (cfg limits : Word) : Slot :=
  { state := .empty, cfg, limits, retries := 0, tripCause := 0, badWords := 0, heat := 0, inWord := 0#32, noData := 0,
    attnWas := false, echoWas := false, absentRun := 10, absentFrom := 0, absent := true, presentRun := 0, en := false,
    cutoff := false, attnInd := 0, pwrInd := 0, perstN := false, shifted := 0#32, enWas := false, enApplied := false, enAt := 0,
    heatZeroAt := 0, tripped := false, lockAfter := false, onTime := 0, retryFrom := none, retryNeed := 0,
    shortFrom := none, failDeadline := none, perstDeadline := none, offNext := false,
    perstSent := false, hwSeq := false, freshNext := false, want := false,
    cmdPending := false, pccOn := false, vbAttn := 3, vbPwr := 3, attnPressed := false, powerFault := false }

/-- A slot of the chain. -/
def State.slot? (s : State) (i : Nat) : Option Slot := tget s.chain.slots i

/-- Change a slot. -/
def State.modSlot (i : Nat) (f : Slot → Slot) (s : State) : State := { s with chain.slots := tmod s.chain.slots i f }

/-- Is a slot a hot-plug slot, or an AUTO_ON one (R522)? -/
def Slot.hotplug (sl : Slot) : Bool := bitAt sl.cfg 62
def Slot.autoOn (sl : Slot) : Bool := bitAt sl.cfg 61

/-- VOUT and IOUT of the last valid in word. -/
def Slot.vout (sl : Slot) : Nat := cfld sl.inWord 21 12
def Slot.iout (sl : Slot) : Nat := cfld sl.inWord 11 0

/-- The slot's presence is debounced (R517). -/
def Slot.ready (sl : Slot) : Bool := decide (1000 ≤ sl.presentRun)

/-- R524: post a hot-plug notice of an event at `t` in host-assisted mode; a full mailbox loses it. -/
def hpPostAt (t kind slot data : Nat) (s : State) : State :=
  if !s.assist 4 then s
  else if s.chain.hpPosts.length < 64 then
    { s with
        chain.hpPosts := s.chain.hpPosts ++
        [setBit (mkFld 62 60 kind ||| mkFld 59 53 slot ||| mkFld 52 44 data ||| mkFld 41 0 t) 63] }
  else s.setEvent Reg.pwrEvents 5

/-- R441: a steward gap holds a step of hot-plug sequencing until it ends. -/
def holdNote (kind slot data : Nat) (s : State) : State :=
  { s with chain.gapNotes := s.chain.gapNotes ++ [(kind, slot, data, s.now)] }

/-- R524: a hot-plug notice, held in a steward gap. -/
def hpPost (kind slot data : Nat) (s : State) : State :=
  if s.inGap then holdNote kind slot data s else hpPostAt s.now kind slot data s

/-- The records of a slot: TRIP_CAUSE, RETRIES and the on-time in µs. -/
def slotRec (cls : Nat) (sev : Sev) (i : Nat) (s : State) : State :=
  match s.slot? i with
  | some sl => s.raise cls sev .slot i (sl.tripCause + 256 * sl.retries + 2 ^ 32 * ((sl.onTime / 1000) % 2 ^ 32))
  | none => s

/-- R514: a trip commands EN = 0, is recorded and reported. The slot locks when three retries have been used, and at an
ISOLATED trip (R515, R521). -/
def tripSlot (i cause : Nat) (s : State) : State :=
  match s.slot? i with
  | none => s
  | some sl =>
    let s := s.modSlot i (fun sl => { sl with
      en := false, offNext := false, perstSent := false, tripped := true, tripCause := cause,
      onTime := 0, powerFault := true, failDeadline := none, perstDeadline := none,
      lockAfter := decide (sl.retries = 3) || decide (cause = 6) })
    let s := s.setEvent Reg.pwrEvents 3
    let s := slotRec 0xC0 .deferred i s
    hpPost 5 i cause (if sl.hotplug then s.emit (.slotNotice i 5) else s)

/-- Power is requested and nothing forbids it (R520): command EN = 1 with a blinking power indicator (R523). A steward gap holds it
(R441). -/
def powerOn (i : Nat) (s : State) : State :=
  match s.slot? i with
  | none => s
  | some sl =>
    if sl.state == .off && sl.want && sl.ready && !sl.en && sl.retryFrom.isNone && !s.inGap then
      s.modSlot i (fun sl => { sl with
        en := true, offNext := false, perstSent := false, state := .powering, hwSeq := !s.assist 4, freshNext := false,
        pwrInd := if s.assist 4 then sl.pwrInd else 2 })
    else s

/-- R523, power off: assert PERST_N, and one frame later EN = 0. -/
def powerOff (i : Nat) (s : State) : State :=
  s.modSlot i (fun sl => if sl.en && !sl.offNext then
    { sl with perstN := false, offNext := true, perstSent := false, perstDeadline := none } else sl)

/-- R515: the automatic retry, when the retry timer has reached its time, H is 0, power is still requested and the slot
is present past its debounce. The boundary at which that holds applies EN = 1, so the word is in the controller's register by then. A
first attempt after an absence of 1 s is no retry (R516). -/
def slotRetry (i : Nat) (s : State) : State :=
  match s.slot? i with
  | none => s
  | some sl =>
    match sl.retryFrom with
    | none => s
    | some t =>
      if decide (t + sl.retryNeed ≤ s.now) && decide (sl.heat = 0) && sl.want && sl.ready && !sl.en
          && (sl.state == .retryWait || sl.state == .off) then
        let gpo := s.rf (Reg.slotCtl i) 15 8
        s.modSlot i (fun sl =>
          let sl : Slot := { sl with
            en := true, state := .powering, hwSeq := !s.assist 4, freshNext := false,
            pwrInd := if s.assist 4 then sl.pwrInd else 2, retryFrom := none,
            retries := if sl.state == .retryWait then min 3 (sl.retries + 1) else sl.retries }
          { sl with shifted := outWord gpo sl })
      else s

/-- The chain runs from LOAD to DRAIN and in HALT (R507). -/
def Mode.chainRuns : Mode → Bool
  | .load | .halt => true
  | m => m.carries

/-- What the frame boundary does at one slot: its controller applies the word in its shift register when SC_OUT is high
and its check is valid; an EN that falls after a trip ends the on-time, starts the retry timer and may lock the slot
(R508, R515). A slot whose power drops takes its port's link down. -/
def slotBoundary (apply : Bool) (s : State) (i : Nat) : State :=
  match s.slot? i with
  | none => s
  | some sl =>
    if apply && chainOk sl.shifted then
      let on := cfld sl.shifted 27 27 == 1
      let s := s.modSlot i (fun x => { x with enApplied := on, enAt := if on && !x.enApplied then s.now else x.enAt })
      let s := if sl.enApplied && !on && bitAt sl.cfg 60 then linkDown (fld sl.cfg 56 48) s else s
      if sl.tripped && !on then
        let ot := s.now - max sl.enAt sl.heatZeroAt
        let s := s.modSlot i (fun sl => { sl with
          tripped := false, onTime := ot,
          retryNeed := max 500000000 (99 * ot),
          retryFrom := if sl.lockAfter || sl.state == .fetShort then none else some s.now,
          state := if sl.state == .fetShort then .fetShort else if sl.lockAfter then .lockedOff
            else if sl.absent then .empty else .retryWait })
        if sl.lockAfter then slotRec 0xC1 .contained i s else s
      else s
    else s

/-- R512: take in the slot program that waits for this boundary. A slot whose configuration is unchanged keeps its
state. -/
def takeProgram (s : State) : State :=
  match s.chain.newProgram with
  | none => s
  | some prog =>
    let slots := (prog.zipIdx).map (fun e =>
      match s.slot? e.2 with
      | some sl => (e.2, { sl with cfg := e.1.1, limits := e.1.2 })
      | none => (e.2, newSlot e.1.1 e.1.2))
    { s with chain.newProgram := none, chain.nSlots := prog.length, chain.slots := slots }

/-- SLOT_FRAME_START (R508): at a DTB that is a multiple of 100,000 ns, with no frame running, the boundary is raised. -/
def frameStart (s : State) : State :=
  if !(s.mode.chainRuns) || s.chain.waitSince.isSome || s.chain.shifting then s else
  let s := s.reach (nextMultiple 100000 s.now)
  let s := takeProgram s
  if s.chain.nSlots = 0 then s else
  let n := (s.chain.frames + 1) % 2 ^ 24
  let s := { s with chain.frames := n, chain.frameAt := s.now, chain.waitSince := some s.now,
                    chain.startedHigh := s.chain.applyNext,
                    chain.marker := 0xA5C30000#32 + BitVec.ofNat 32 (n % 2 ^ 16) }
  let s := { s with chain.slots := tmap (fun _ sl => { sl with enWas := sl.en }) s.chain.slots }
  let s := (s.chain.slots.map (·.1)).foldl (fun st i => slotRetry i st) s
  (s.chain.slots.map (·.1)).foldl (slotBoundary s.chain.startedHigh) s

/-- SLOT_FRAME_START. -/
def execSlotFrameStart (s : State) : Host.Outcome State Fault Refusal := .next (frameStart s)

/-- R524: the fields of SLOT_CMD that wait for this frame. -/
def applyCmd (i : Nat) (s : State) : State :=
  match s.slot? i with
  | none => s
  | some sl =>
    if !sl.cmdPending then s else
    let c := s.rd (Reg.slotCmd i)
    let s := s.modSlot i (fun sl => { sl with cmdPending := false, want := bitAt c 0, perstN := bitAt c 2 })
    let s := s.wb (Reg.slotCmd i) 63 false
    let s := if bitAt c 0 then powerOn i s
      else s.modSlot i (fun sl => { sl with
             en := false, offNext := false, perstSent := false,
             state := if sl.state == .powering || sl.state == .on then .off else sl.state })
    s.modSlot i (fun sl => { sl with attnInd := fld c 4 3, pwrInd := fld c 6 5 })

/-- The out word of one slot goes into the chain; a power-off whose PERST_N went out one frame ago commands EN = 0 (R523). -/
def shiftSlot (s : State) (i : Nat) : State :=
  let s := applyCmd i s
  let gpo := s.rf (Reg.slotCtl i) 15 8
  s.modSlot i (fun sl =>
    let sl := if sl.offNext && sl.perstSent then { sl with
        offNext := false, perstSent := false, en := false, pwrInd := 0,
        state := if sl.state == .powering || sl.state == .on then .off else sl.state }
      else { sl with perstSent := sl.offNext }
    { sl with shifted := outWord gpo sl })

/-- SLOT_CHAIN_READY (R508): SC_IN is high and the frame shifts the marker and the out words. -/
def chainReady (s : State) : State :=
  if s.chain.waitSince.isNone then s else
  (s.chain.slots.map (·.1)).foldl shiftSlot { s with chain.waitSince := none, chain.shifting := true }

/-- SLOT_CHAIN_READY. -/
def execSlotChainReady (s : State) : Host.Outcome State Fault Refusal := .next (chainReady s)

/-- R513: the heat account after a valid in word, in 1/1,024 A²·ms: `I` is IOUT × I_LSB in mA, I_RATED is in 10 mA, and
0.1 ms of (mA)² is 1,024 / 10,000,000 of the unit; kept by rounding down. -/
def heatStep (sl : Slot) (w : BitVec 32) : Nat :=
  let i : Int := (cfld w 11 0 * fld sl.cfg 9 0 : Nat)
  let r : Int := (fld sl.limits 15 0 * 10 : Nat)
  (((sl.heat : Nat) : Int) + (i * i - r * r) * 1024 / 10000000).toNat

/-- R513, R517, R518: what a valid in word changes in a slot's own accounts: heat, presence runs, the echo, the
power-fail and short timers. `at_` is the frame boundary. -/
def slotIn (at_ : Nat) (w : BitVec 32) (sl : Slot) : Slot :=
  let h := heatStep sl w
  let present := cfld w 27 27 == 1
  let echo := cfld w 25 25 == 1
  { sl with
    inWord := w, noData := 0, heat := h, heatZeroAt := if h = 0 then at_ else sl.heatZeroAt,
    absentRun := if present then 0 else sl.absentRun + 1,
    absentFrom := if !present && decide (sl.absentRun = 0) then at_ else sl.absentFrom,
    presentRun := if present then min 1000 (sl.presentRun + 1) else 0,
    echoWas := echo,
    failDeadline := if echo && !sl.echoWas then some (at_ + 50000000) else if echo then sl.failDeadline else none,
    shortFrom := if !echo && !sl.en && sl.state != .fetShort && decide (80 < cfld w 21 12) then some (sl.shortFrom.getD at_) else none }

/-- R514: the lowest trip cause whose condition holds after a frame, of codes 1-4. `valid` tells whether this frame gave
a valid in word. -/
def tripCauseOf (valid : Bool) (sl : Slot) : Option Nat :=
  if valid && decide (fld sl.limits 31 16 * 10 ≤ sl.iout * fld sl.cfg 9 0) then some 1
  else if valid && cfld sl.inWord 23 23 == 1 then some 2
  else if decide (fld sl.limits 63 32 * 1024 ≤ sl.heat) then some 3
  else if decide (10 ≤ sl.noData) then some 4
  else none

/-- R516: an absence of 1 s or more, up to the in word of the boundary `at_`. -/
def absentLong (at_ i : Nat) (s : State) : State :=
  s.modSlot i (fun sl => if decide (sl.absentFrom + 1000000000 ≤ at_) then
    { sl with retries := 0, freshNext := true, state := if sl.state == .lockedOff then .empty else sl.state } else sl)

/-- R517: a slot becomes absent at its 10th in word with PRESENT = 0, is present again at the first with PRESENT = 1, and
is debounced at its 1,000th. R516: after 1 s of absence RETRIES returns to 0 and LOCKED_OFF ends. R522-R524: what each
change starts. -/
def slotPresence (at_ i : Nat) (s : State) : State :=
  match s.slot? i with
  | none => s
  | some sl =>
    if !sl.absent && decide (10 ≤ sl.absentRun) then
      let s := s.modSlot i (fun sl => { sl with
        absent := true, en := false, offNext := false, perstSent := false, perstN := false,
        attnInd := 0, pwrInd := 0, perstDeadline := none,
        state := if sl.state == .fetShort || sl.state == .lockedOff then sl.state else .empty })
      hpPost 1 i 0 (s.wb Reg.pendEdges 17 true)
    else if sl.absent && decide (sl.absentRun = 0) then
      let s := absentLong at_ i s
      let s := s.modSlot i (fun sl => { sl with
        absent := false,
        state := if sl.state == .empty then .debounce else sl.state })
      hpPost 1 i 1 (s.wb Reg.pendEdges 17 true)
    else if sl.absent then absentLong at_ i s
    else if sl.state == .debounce && sl.ready then
      let s := s.modSlot i (fun sl => { sl with
        state := if sl.retryFrom.isSome && !sl.freshNext then .retryWait else .off,
        want := (if sl.hotplug && !s.assist 4 then sl.pccOn else sl.want) || sl.autoOn })
      powerOn i s
    else powerOn i s

/-- R523: VOUT of a slot being powered reaches 90 %: the slot is on, its indicator lights, and PERST_N is released 100 ms
later. -/
def slotVoltage (at_ i : Nat) (s : State) : State :=
  match s.slot? i with
  | some sl =>
    if sl.state == .powering && sl.en && decide (720 ≤ sl.vout) && !s.inGap then
      s.modSlot i (fun sl => { sl with
        state := .on, pwrInd := if sl.hwSeq then 1 else sl.pwrInd,
        perstDeadline := if sl.hwSeq && !sl.offNext then some (at_ + 100000000) else none })
    else s
  | none => s

/-- R523, R524: the attention button was pressed at `t`: it is set in the virtual bridge, or posted. -/
def attentionAct (t i : Nat) (s : State) : State :=
  if s.assist 4 then hpPostAt t 2 i 0 s
  else if ((s.slot? i).map Slot.hotplug).getD false then
    (s.modSlot i (fun sl => { sl with attnPressed := true })).emit (.slotNotice i 2)
  else s

/-- R406, R523, R524: a press of the attention button is latched (PEND_EDGES) and acted on, after a steward gap where one holds it. -/
def slotAttention (i : Nat) (s : State) : State :=
  match s.slot? i with
  | some sl =>
    let pressed := cfld sl.inWord 26 26 == 1
    let s := s.modSlot i (fun sl => { sl with attnWas := pressed })
    if pressed && !sl.attnWas then
      let s := s.wb Reg.pendEdges 18 true
      if s.inGap then holdNote 2 i 0 s else attentionAct s.now i s
    else s
  | none => s

/-- R514, R520: a slot whose EN is commanded on, or was until this frame, trips on the lowest cause that holds after the frame. -/
def judgeTrip (valid : Bool) (i : Nat) (s : State) : State :=
  match s.slot? i with
  | some sl =>
    if (sl.en || sl.enWas) && !sl.tripped then
      (match tripCauseOf valid sl with | some c => tripSlot i c s | none => s)
    else s
  | none => s

/-- A frame that gave a slot no valid in word (R513, R514). -/
def slotNoWord (s : State) (i : Nat) : State :=
  judgeTrip false i (s.modSlot i (fun sl => { sl with noData := sl.noData + 1 }))

/-- R510, R511: a failed or aborted frame: CHAIN_ERR, the next frame starts with SC_OUT low, and at most one SL_CHAIN
record in each 1 ms, whose instance is the first slot affected. No slot has a valid in word of it. -/
def chainError (s : State) : State :=
  let s := { s with chain.applyNext := false, chain.waitSince := none, chain.shifting := false }
  let s := s.setEvent Reg.pwrEvents 1
  let recent := match s.chain.lastChainRec with | some t => decide (s.now < t + 1000000) | none => false
  let s := if recent then s else { s with chain.lastChainRec := some s.now }.raise 0xC3 .corrected .slot 0 0
  (s.chain.slots.map (·.1)).foldl slotNoWord s

/-- One slot's in word of a completed frame (R509, R513-R518, R523). Trips are judged before absence acts (R520). -/
def slotFrame (s : State) (e : BitVec 32 × Nat) : State :=
  let (w, i) := e
  match s.slot? i with
  | none => s
  | some _ =>
    let ok := chainOk w
    let s := if ok then s.modSlot i (slotIn s.chain.frameAt w)
      else (s.modSlot i (fun sl => { sl with badWords := satAdd 16 sl.badWords 1, noData := sl.noData + 1 })).setEvent
        Reg.pwrEvents 2
    let s := judgeTrip ok i s
    if ok then slotAttention i (slotVoltage s.chain.frameAt i (slotPresence s.chain.frameAt i s)) else s

/-- SLOT_FRAME_COMPLETE: the in words, slot 0 first, and the marker read back (R508-R517). -/
def frameComplete (words : List (BitVec 32)) (marker : BitVec 32) (s : State) : State :=
  if !s.chain.shifting then s
  else if marker ≠ s.chain.marker then
    chainError { s with chain.markerErrs := satAdd 16 s.chain.markerErrs 1 }
  else
    let s := { s with chain.shifting := false, chain.applyNext := true }
    (words.take s.chain.nSlots).zipIdx.foldl slotFrame s

/-- SLOT_FRAME_COMPLETE. -/
def execSlotFrameComplete (words : List (BitVec 32)) (marker : BitVec 32) (s : State) :
    Host.Outcome State Fault Refusal := .next (frameComplete words marker s)

/-- SLOT_FRAME_STALL_TIMEOUT (R511): the wait for SC_IN reaches 1 ms and the frame is aborted. -/
def frameStall (s : State) : State :=
  match s.chain.waitSince with
  | some t => chainError ({ s with chain.aborts := satAdd 16 s.chain.aborts 1 }.reach (t + 1000000))
  | none => s

/-- SLOT_FRAME_STALL_TIMEOUT. -/
def execSlotFrameStallTimeout (s : State) : Host.Outcome State Fault Refusal := .next (frameStall s)

/-- SLOT_RETRY_TIMER (R515). -/
def retryTimer (i : Nat) (s : State) : State :=
  match (s.slot? i).bind Slot.retryFrom with
  | some t =>
    let need := ((s.slot? i).map Slot.retryNeed).getD 0
    slotRetry i (s.reach (t + need))
  | none => s

/-- SLOT_RETRY_TIMER. -/
def execSlotRetryTimer (i : Nat) (s : State) : Host.Outcome State Fault Refusal := .next (retryTimer i s)

/-- SLOT_POWER_FAIL_CHECK (R514): 50 ms after EN_ECHO rose, VOUT below 90 % trips the slot with cause PWR_FAIL. -/
def powerFailCheck (i : Nat) (s : State) : State :=
  match s.slot? i with
  | some sl =>
    match sl.failDeadline with
    | some t =>
      let s := (s.reach t).modSlot i (fun sl => { sl with failDeadline := none })
      if sl.en && decide (sl.vout < 720) then tripSlot i 5 s else s
    | none => s
  | none => s

/-- SLOT_POWER_FAIL_CHECK. -/
def execSlotPowerFailCheck (i : Nat) (s : State) : Host.Outcome State Fault Refusal := .next (powerFailCheck i s)

/-- SLOT_SHORT_TIMEOUT (R518): the short timer reaches 5 ms; the slot is FET_SHORT with its cutoff open. -/
def slotShort (i : Nat) (s : State) : State :=
  match (s.slot? i).bind Slot.shortFrom with
  | some t =>
    let s := (s.reach (t + 5000000)).modSlot i (fun sl => { sl with
      state := .fetShort, cutoff := true, en := false,
      offNext := false, perstSent := false, shortFrom := none, retryFrom := none, powerFault := true })
    slotRec 0xC2 .contained i (s.setEvent Reg.pwrEvents 4)
  | none => s

/-- SLOT_SHORT_TIMEOUT. -/
def execSlotShortTimeout (i : Nat) (s : State) : Host.Outcome State Fault Refusal := .next (slotShort i s)

/-- SLOT_PERST_RELEASE (R523): 100 ms after VOUT reached 90 %, PERST_N is deasserted and the slot's port enabled, so that
training starts under R53. -/
def perstRelease (i : Nat) (s : State) : State :=
  match (if s.inGap then none else s.slot? i) with
  | some sl =>
    match sl.perstDeadline with
    | some t =>
      let s := (s.reach t).modSlot i (fun sl => { sl with perstDeadline := none, perstN := true })
      let p := fld sl.cfg 56 48
      if !bitAt sl.cfg 60 || s.rb (Reg.portCtl p) 0 then s else portOn p (s.wb (Reg.portCtl p) 0 true)
    | none => s
  | none => s

/-- SLOT_PERST_RELEASE. -/
def execSlotPerstRelease (i : Nat) (s : State) : Host.Outcome State Fault Refusal := .next (perstRelease i s)

/-- R519, CLEAR: acts on a LOCKED_OFF slot; the retry timer and H are not changed. -/
def slotClear (i : Nat) (s : State) : State :=
  match s.slot? i with
  | none => s
  | some sl =>
    if sl.state = .lockedOff then
      (s.modSlot i (fun sl =>
        { sl with retries := 0, state := if sl.absent then .empty else .off,
                  tripCause := if sl.tripCause = 6 then 0 else sl.tripCause })).unisolate .slot i
    else s

/-- R519, FET_CLEAR: acts on a FET_SHORT slot. -/
def slotFetClear (i : Nat) (s : State) : State :=
  s.modSlot i (fun sl => if sl.state == .fetShort then
    { sl with cutoff := false, state := .off, shortFrom := none } else sl)

/-- R524, SLOT_CMD.GO: in host-assisted mode the fields wait for the next frame; in hardware mode the write changes
nothing. -/
def slotCmdGo (i : Nat) (data : Word) (s : State) : State :=
  if s.assist 4 then
    (s.wr (Reg.slotCmd i) (setBit data 63)).modSlot i (fun sl => { sl with cmdPending := true })
  else s

/-- An indicator control as Slot Control encodes it (01 on, 10 blink, 11 off), as the out word encodes it. -/
def indOf (v : Nat) : Nat := if v = 1 then 1 else if v = 2 then 2 else 0

/-- R523, R524: Power Controller Control was written at `t`: posted, or the slot is sequenced toward it. -/
def powerCtlAct (t i on : Nat) (s : State) : State :=
  if s.assist 4 then hpPostAt t 3 i on s
  else
    let s := s.modSlot i (fun sl => { sl with want := decide (on ≠ 0) })
    if on ≠ 0 then powerOn i s else powerOff i s

/-- R523, R524: the indicator controls were written at `t`: posted, or the indicators follow them. -/
def indicatorAct (t i v : Nat) (s : State) : State :=
  if s.assist 4 then hpPostAt t 4 i v s
  else s.modSlot i (fun sl => { sl with attnInd := indOf (v % 4), pwrInd := indOf (v / 4 % 4) })

/-- R523, R524: a host's write of the virtual bridge's Slot Control; only a hot-plug slot has one (R522). A steward gap holds what
follows (R441). -/
def slotControl (i : Nat) (on : Bool) (attn pwr : Nat) (s : State) : State :=
  match s.slot? i with
  | none => s
  | some sl =>
    if !sl.hotplug then s else
    let s := s.modSlot i (fun sl => { sl with pccOn := on, vbAttn := attn, vbPwr := pwr })
    let v := attn % 4 + 4 * (pwr % 4)
    if s.inGap then
      if s.assist 4 then holdNote 4 i v (holdNote 3 i (b2n on) s) else holdNote 3 i (b2n on) (holdNote 4 i v s)
    else if s.assist 4 then indicatorAct s.now i v (powerCtlAct s.now i (b2n on) s)
    else powerCtlAct s.now i (b2n on) (indicatorAct s.now i v s)

/-- R441: the steward gap has ended: hot-plug sequencing resumes with what the gap held, in its order. -/
def resumeSlots (s : State) : State :=
  s.chain.gapNotes.foldl (fun s n =>
    match n with
    | (2, i, _, t) => attentionAct t i s
    | (3, i, on, t) => powerCtlAct t i on s
    | (4, i, v, t) => indicatorAct t i v s
    | (k, i, d, t) => hpPostAt t k i d s) { s with chain.gapNotes := [] }

/-- SLOT_CONTROL_WRITE. -/
def execSlotControlWrite (i : Nat) (on : Bool) (attn pwr : Nat) (s : State) : Host.Outcome State Fault Refusal :=
  .next (slotControl i on attn pwr s)

/-- R525: at a handover of function 4 to hardware mode, Slot Control is the requested state of every slot. -/
def slotsToHardware (s : State) : State :=
  (s.chain.slots.map (·.1)).foldl (fun st i =>
    match st.slot? i with
    | some sl =>
      if sl.hotplug then
        let st := st.modSlot i (fun sl => { sl with
          want := sl.pccOn, attnInd := indOf sl.vbAttn,
          pwrInd := indOf sl.vbPwr })
        if sl.pccOn then powerOn i st else powerOff i st
      else st
    | none => st) s

/-- SLOT_STATUS.STATE codes. -/
def SlotState.code : SlotState → Nat
  | .empty => 0 | .debounce => 1 | .off => 2 | .powering => 3 | .on => 4 | .retryWait => 5 | .lockedOff => 6
  | .fetShort => 7

/-- SLOT_STATUS (16). -/
def readSlotStatus (s : State) (i : Nat) : Word :=
  match s.slot? i with
  | none => 0#64
  | some sl =>
    let left := match sl.retryFrom with | some t => (t + sl.retryNeed - s.now + 999) / 1000 | none => 0
    mkFld 63 60 sl.state.code ||| mkFld 59 58 sl.retries ||| mkFld 57 57 (b2n (sl.state == .fetShort))
      ||| mkFld 56 54 sl.tripCause ||| mkFld 47 32 sl.badWords ||| mkFld 31 0 left

/-- SLOT_MEAS (16). -/
def readSlotMeas (s : State) (i : Nat) : Word :=
  match s.slot? i with
  | none => 0#64
  | some sl => mkFld 63 32 (sl.heat / 1024) ||| mkFld 21 12 sl.vout ||| mkFld 11 0 sl.iout

/-- SC_STATUS (16). -/
def readScStatus (s : State) : Word :=
  mkFld 63 48 s.chain.markerErrs ||| mkFld 47 32 s.chain.aborts ||| mkFld 31 24 s.chain.nSlots
    ||| mkFld 23 0 s.chain.frames

end Sys2Proof.Machine
end

