-- ==== Sys2Proof/Machine/Thermal.lean ====
section
/-! DEFINITION. Temperature: sensors, throttling of stacks, pacing of engines, trips (R572-R577).
Assumption 46. -/
namespace Sys2Proof.Machine

/-- A sensor without a sample. -/
def newSensor : Sensor := { prev := none, bad := 0, failed := false }

/-- The DOMAIN instance of a sensor's records: 3 and 4 for the dies, 14 + n for a stack, 6 + n for a chiplet. -/
def thInst (id : Nat) : Nat := if id ≤ 2 then 2 + id else if id ≤ 6 then 14 + (id - 3) else 6 + (id - 7)

/-- Write a record of a sensor: its ID, the level, the sample or 0x8000. -/
def thRecord (cls : Nat) (sev : Sev) (id level : Nat) (v : Option Int) (s : State) : State :=
  let x := match v with | some q => (q % 65536).toNat | none => 0x8000
  s.raise cls sev .domain (thInst id) (id + 256 * level + 65536 * x)

/-- R576: TH_THROTTLE, at most one for each stack or die in each 1 ms. -/
def thThrottle (id level : Nat) (v : Option Int) (s : State) : State :=
  match tget s.therm.lastRec id with
  | some t => if s.now < t + 1000000 then s
              else thRecord 0xE0 .corrected id level v { s with therm.lastRec := tset s.therm.lastRec id s.now }
  | none => thRecord 0xE0 .corrected id level v { s with therm.lastRec := tset s.therm.lastRec id s.now }

/-- R574: the level of a stack after two consecutive samples, in quarter degrees; a level falls one step at a time. -/
def nextLevel (level : Nat) (a b : Int) : Nat :=
  let up := if 400 ≤ a ∧ 400 ≤ b then 2 else if 380 ≤ a ∧ 380 ≤ b then 1 else 0
  if level < up then up
  else if level = 2 ∧ a < 388 ∧ b < 388 then 1
  else if level = 1 ∧ a < 368 ∧ b < 368 then 0 else level

/-- A stack's level changes: admission is told (R576). -/
def setLevel (id level : Nat) (v : Option Int) (s : State) : State :=
  if tgetD s.therm.levels (id - 3) 0 = level then s
  else thThrottle id level v (capacityChanged { s with therm.levels := tput 0 s.therm.levels (id - 3) level })

/-- Is a die paced? -/
def paced (s : State) (id : Nat) : Bool := if id = 1 then s.therm.pacedWest else s.therm.pacedEast

/-- A die enters or leaves pacing (R575). -/
def setPaced (id : Nat) (on : Bool) (v : Option Int) (s : State) : State :=
  if paced s id = on then s
  else thThrottle id (b2n on) v
    (if id = 1 then { s with therm.pacedWest := on } else { s with therm.pacedEast := on })

/-- R573: a sensor has given no valid sample 4 times in a row. -/
def sensorFails (id : Nat) (s : State) : State :=
  let s := thRecord 0xE2 .corrected id (if 3 ≤ id ∧ id ≤ 6 then 2 else if id ≤ 2 then 1 else 0) none s
  if 3 ≤ id ∧ id ≤ 6 then setLevel id 2 none s else if id ≤ 2 then setPaced id true none s else s

/-- The trip point in quarter degrees: 110 °C of a die or chiplet, 105 °C of a stack (R577). -/
def tripPoint (id : Nat) : Int := if 3 ≤ id ∧ id ≤ 6 then 420 else 440

/-- A valid sample. -/
def sensorValid (id : Nat) (v : Int) (s : State) : State :=
  let x := tgetD s.therm.sensors id newSensor
  let s := { s with therm.sensors := tset s.therm.sensors id { prev := some v, bad := 0, failed := false } }.emit (.pldm id v)
  match x.prev with
  | none => s
  | some a =>
    let s := if 3 ≤ id ∧ id ≤ 6 then setLevel id (nextLevel (tgetD s.therm.levels (id - 3) 0) a v) (some v) s
      else if id ≤ 2 then
        (if 400 ≤ a ∧ 400 ≤ v then setPaced id true (some v) s
         else if a < 388 ∧ v < 388 then setPaced id false (some v) s else s)
      else s
    if tripPoint id ≤ a ∧ tripPoint id ≤ v then
      thRecord 0xE1 .fatalDevice id (if 3 ≤ id ∧ id ≤ 6 then tgetD s.therm.levels (id - 3) 0 else if id ≤ 2 then b2n (paced s id) else 0)
        (some v) s
    else s

/-- One sensor (1-14) gives a sample in quarter degrees, or none that is valid. -/
def thermalSample (s : State) (x : Nat × Option Int) : State :=
  let (id, v) := x
  if id < 1 ∨ 14 < id then s
  else match v with
    | some v => sensorValid id v s
    | none =>
      let x := tgetD s.therm.sensors id newSensor
      let bad := min 4 (x.bad + 1)
      let s := { s with therm.sensors := tset s.therm.sensors id { prev := none, bad, failed := x.failed || decide (bad = 4) } }
      if bad = 4 && !x.failed then sensorFails id s else s

/-- R572: THERMAL_SAMPLE: from the end of LOAD, in HALT too, every sensor is sampled, each 50 µs; the readings are given in quarter
degrees. -/
def execThermalSample (samples : List (Nat × Option Int)) (s : State) : Host.Outcome State Fault Refusal :=
  .next (if s.mode.carries || decide (s.mode = .halt) then samples.foldl thermalSample s else s)

end Sys2Proof.Machine
end

