-- ==== Sys2Proof/Machine/XlateOps.lean ====
section
/-! DEFINITION. Changes of the translation tables: switches, scrubs, migrations, dynamic capacity (R88-R101).
Assumption 47. -/
namespace Sys2Proof.Machine

/-! ## The end of a walk, R78-R81 -/

/-- The fill request that a die posts after a walk (R81). -/
def fillPost (tag win slot : Nat) (e : Option Ext) : Word :=
  mkFld 63 63 1 ||| mkFld 62 59 ((e.map Ext.gen).getD 0) ||| mkFld 58 51 tag ||| mkFld 50 32 ((e.map Ext.pool).getD 0)
    ||| mkFld 31 20 win ||| mkFld 18 0 slot

/-- What a walk's read gives: an uncorrectable error installs nothing and ends the waiting requests (R80); a corrected line
serves; the slot is installed, or in host-assisted mode a fill request is posted under `tag` and its window opens (R81). -/
def walkReturns (w : Walk) (c : Nat) (ecc : Ecc) (tag : Nat) (s : State) : State :=
  let s := { s with xl.walks := s.xl.walks.erase w }
  match ecc with
  | .uncorrectable =>
    failAll w.waiters .xlateInternal (((s.xlateEvent 0 w.die).setEvent Reg.homeEvents 7).raise 0x13 .contained .xlate w.die 0)
  | _ =>
    let s := if ecc = .corrected then correctable c s else s
    if fillAssist s then
      let e := slotEntry s w.win w.slot
      { s with
        xl.fills := s.xl.fills ++ [{ die := w.die, tag, win := w.win, slot := w.slot, gen := (e.map Ext.gen).getD 0,
                                     waiters := w.waiters, deadline := s.now + s.rf Reg.xlateCtl 15 8 * 10000 }],
        xl.fillTag := tag + 1,
        xl.fillPosts := tset s.xl.fillPosts w.die (tgetD s.xl.fillPosts w.die [] ++ [fillPost tag w.win w.slot e]) }
    else resumeAll w.waiters (cacheInstall w.die w.win w.slot s)

/-- WALK_COMPLETE: the walker's read, which its channel has issued, returns. A fill takes the next TAG that has no open window on the
die; with none free the walk waits (DESIGN CHOICE: assumption 76, which also names the ABSENT slot). -/
def walkComplete (die win slot : Nat) (ecc : Ecc) (s : State) : State :=
  match s.xl.walks.find? (fun w => w.die == die && w.win == win && w.slot == slot), readingJob s (.walk die win slot) with
  | some w, some (c, k, _) =>
    let tag := freeFrom s.xl.fillTag ((s.xl.fills.filter (fun f => f.die == die)).map Fill.tag)
    if tag.isNone && fillAssist s && decide (ecc ≠ .uncorrectable) then s
    else retireDue c (walkReturns w c ecc (tag.getD 0) (rollChan c (dropReading c k s)))
  | _, _ => s

/-- R78: WALK_COMPLETE. -/
def execWalkComplete (die win slot : Nat) (ecc : Ecc) (s : State) : Host.Outcome State Fault Refusal :=
  .next (letIn (walkComplete die win slot ecc s))

/-! ## Pool extents -/

/-- The extents that the entries of a table name. -/
def namedExtents (t : Tables) : List Nat := (t.extents.map (fun e => e.2.names)).flatten

/-- R91: a pool extent is free: no entry names it, no scrub runs or waits for it, no add has taken it. -/
def extentFree (s : State) (x : Nat) : Bool :=
  !(namedExtents s.tabs).contains x && !s.xl.scrubs.any (fun c => c.ext == x) && !s.xl.dcAdd.any (fun b => b.items.any (fun a => a.2 == x))

/-- First byte of a pool extent in HBM; none where its backing is no HBM. -/
def extentHbm (s : State) (x : Nat) : Option Nat :=
  (backingFor s.tabs x).bind (fun b => if b.typ = 0 then some (64 * hlineOf s (dpaOf b (x * 2 ^ 28))) else none)

/-- The port behind which a pool extent lies. -/
def extentPort (s : State) (x : Nat) : Option Nat :=
  (backingFor s.tabs x).bind (fun b => if b.typ = 0 then none else some b.port)

/-- Bytes and poison bits of an extent of HBM, as lines that are not 0: line in the extent, data, poison. -/
def extentLines (s : State) (base : Nat) : List (Nat × Line × Bool) :=
  let inside := fun (a : Nat) => decide (base ≤ a) && decide (a < base + 2 ^ 28)
  let ls := (((s.home.mem.filter (fun (c : Host.Cell) => inside c.1)).map (fun (c : Host.Cell) => c.1 / 64))
    ++ s.home.poisoned.filter (fun l => inside (64 * l))).eraseDups
  ls.map (fun l => (l - base / 64, readHbm s l, isPoisoned s l))

/-- An extent of HBM becomes 0. -/
def zeroExtent (base : Nat) (s : State) : State :=
  let inside := fun (a : Nat) => decide (base ≤ a) && decide (a < base + 2 ^ 28)
  { s with
    home.mem := s.home.mem.filter (fun (c : Host.Cell) => !inside c.1),
    home.poisoned := s.home.poisoned.filter (fun l => !inside (64 * l)) }

/-- Lines are written to a pool extent as the tables then place it: in HBM, or behind a port as one message (assumption 34); where no
backing holds the extent any more, nothing is written (DESIGN CHOICE: assumption 76). -/
def writeExtent (x : Nat) (lines : List (Nat × Line × Bool)) (s : State) : State :=
  match extentHbm s x, extentPort s x with
  | some base, _ =>
    lines.foldl (fun s e => writeLine (base / 64 + e.1 % 2 ^ 22) e.2.1 fullMask true e.2.2 s) (zeroExtent base s)
  | none, some p => s.emit (.extentWrite p x lines)
  | none, none => s

/-! ## Switches, R88-R91 -/

/-- The generations with requests in flight. -/
def liveGens (s : State) : List Nat := (List.range 16).filter (genLive s)

/-- An entry without its generation. -/
def plainExt (e : Ext) : Ext := { e with gen := 0 }
def plainWin (w : Win) : Win := { w with gen := 0 }

/-- Do two tables differ in an extent entry, or in a window's entry or run? -/
def extChanged (a b : Tables) (i : Nat) : Bool := decide ((tget a.extents i).map plainExt ≠ (tget b.extents i).map plainExt)
def winChanged (a b : Tables) (n : Nat) : Bool :=
  decide ((tget a.windows n).map plainWin ≠ (tget b.windows n).map plainWin) ||
    (match tget b.windows n with
    | some w => (List.range w.extCount).any (fun k => extChanged a b (w.extFirst + k))
    | none => false)

/-- Does a switch from one table to another change a window, extent or backing entry? -/
def tablesChanged (a b : Tables) : Bool :=
  decide (a.backings ≠ b.backings) || decide (a.windows.map (fun e => (e.1, plainWin e.2)) ≠ b.windows.map (fun e => (e.1, plainWin e.2)))
    || decide (a.extents.map (fun e => (e.1, plainExt e.2)) ≠ b.extents.map (fun e => (e.1, plainExt e.2)))

/-- Is the MIGRATING entry `e` of index `i` the migration that the tables have already, with the same source and destination? -/
def sameMig (old : Tables) (i : Nat) (e : Ext) : Bool :=
  match tget old.extents i with
  | some o => decide (o.st = .migrating) && o.pool == e.pool && o.newPool == e.newPool
  | none => false

/-- R92 step 2: migrations that a switch has started take the lowest-numbered idle MIG_STATUS. -/
def startMigs (old : Tables) (gens : List Nat) (s : State) : State :=
  (s.tabs.extents.filter (fun e => decide (e.2.st = .migrating) && !sameMig old e.1 e.2)).foldl (fun s e =>
    match (List.range 16).find? (fun n => (tget s.xl.migs n).isNone) with
    | some n => { s with xl.migs := tset s.xl.migs n { st := if gens.isEmpty then 2 else 1, ext := e.1, gens, lines := 0 } }
    | none => s) s

/-- R70: the pool extents beyond the capacity that the partners of the ports that are up have reported. -/
def shortOf (s : State) (t : Tables) : List Nat :=
  t.backings.flatMap (fun e =>
    if e.2.typ = 1 ∨ e.2.typ = 2 then
      match s.link? e.2.port with
      | some l => if s.linkIsUp e.2.port then shortExtents l.partner e.2 else []
      | none => []
    else [])

/-- R88-R91: the switch to new tables: the generation steps; changed entries and windows take it; the caches of both dies lose
every entry of a changed window, and its walks start again (R79); what is no longer named waits to be scrubbed; migrations start or
end; the backings are held against their partners' capacity (R70). -/
def applySwitch (new : Tables) (s : State) : State :=
  let old := s.tabs
  if !tablesChanged old new then { s with tabs := new }
  else
    let gens := liveGens s
    let g := (s.xl.curGen + 1) % 16
    let exts := tmap (fun i e =>
      { e with gen := if extChanged old new i then g else ((tget old.extents i).map Ext.gen).getD 0 }) new.extents
    let wins := tmap (fun n w =>
      { w with gen := if winChanged old new n then g else ((tget old.windows n).map Win.gen).getD 0 }) new.windows
    let gone := (namedExtents old).eraseDups.filter (fun x => !(namedExtents new).contains x)
    let s := { s with
      tabs := { new with extents := exts, windows := wins },
      xl.curGen := g,
      xl.cache := s.xl.cache.filter (fun c => !winChanged old new c.2.1),
      xl.migs := s.xl.migs.filter (fun m =>
        ((tget new.extents m.2.ext).map (fun e => decide (e.st = .migrating) && sameMig old m.2.ext e)).getD false),
      xl.short := shortOf s new,
      xl.scrubs := s.xl.scrubs ++ gone.map (fun x => { ext := x, gens, running := gens.isEmpty }) }
    capacityChanged (startMigs old gens (restartWalks (winChanged old new) s))

/-- Would the next generation meet requests still in flight under it (R88)? -/
def switchBlocked (s : State) : Bool := genLive s ((s.xl.curGen + 1) % 16)

/-- GENERATION_DRAINED: the LIVE bit of a generation has cleared: scrubs and copies that waited only for it start (R91, R92). -/
def genDrained (g : Nat) (s : State) : State :=
  if genLive s g then s
  else capacityChanged
    { s with
      xl.scrubs := s.xl.scrubs.map (fun c =>
        let gens := c.gens.filter (· != g); { c with gens, running := c.running || gens.isEmpty }),
      xl.migs := tmap (fun _ m =>
        let gens := m.gens.filter (· != g); { m with gens, st := if m.st = 1 ∧ gens = [] then 2 else m.st }) s.xl.migs }

/-- R90: GENERATION_DRAINED. -/
def execGenerationDrained (gen : Nat) (s : State) : Host.Outcome State Fault Refusal :=
  .next (whenCarries (genDrained gen) s)

/-- EXTENT_SCRUB_COMPLETE: every byte of the extent is 0; named by no entry, it is free (R91). -/
def scrubDone (x : Nat) (s : State) : State :=
  if s.xl.scrubs.any (fun c => c.ext == x && c.running) then
    let s := writeExtent x [] s
    capacityChanged { s with xl.scrubs := s.xl.scrubs.filter (fun c => c.ext != x) }
  else s

/-- R91: EXTENT_SCRUB_COMPLETE. -/
def execExtentScrubComplete (ext : Nat) (s : State) : Host.Outcome State Fault Refusal :=
  .next (whenCarries (scrubDone ext) s)

/-- Has one half of a migration's write been done at its target? Its answer is on its way, has come, or waits for the mirror. -/
def halfDone (s : State) (k : Nat) (t : Trk) (second : Bool) : Bool :=
  answerComing s k second || ((t.ans.map (fun a => a.second == second)).getD false)
    || s.home.mirWaits.any (fun w => decide (w.acc.who = .trk k) && w.acc.second == second)
    || s.home.entries.any (fun e => decide (e.2.acc.who = .trk k) && e.2.acc.second == second && e.2.wrote)

/-- A write on a line with its poison bit (R179, R193). -/
def opOnLine (op : LineOp) (l : Line) (poison : Bool) : Line × Bool :=
  match op with
  | .write d m full p _ => (lineOf (fun i => if m.getLsbD i then lineByte d i else lineByte l i), if full then p else poison || p)
  | .atom o off bs => if poison then (l, true) else ((atomOn o off bs l).2, false)
  | .read _ | .specRd | .inv | .clnEvct => (l, poison)

/-- R93: the copy of a line that a write in progress has changed at the destination, and not yet at the source, keeps that change. -/
def keepWrites (s : State) (dst : Nat) (lines : List (Nat × Line × Bool)) : List (Nat × Line × Bool) :=
  (s.bridge.trks.filter (fun e => halfDone s e.1 e.2 true && !halfDone s e.1 e.2 false)).foldl (fun ls e =>
    match e.2.also with
    | some (pool, _, _) =>
      if pool / 2 ^ 22 = dst then
        let n := pool % 2 ^ 22
        let old := ((ls.find? (fun x => x.1 == n)).map (·.2)).getD (0#512, false)
        ls.filter (fun x => x.1 != n) ++ [(n, opOnLine e.2.op old.1 old.2)]
      else ls
    | none => ls) lines

/-- R122: lines that go to, or come from, an extent behind a LEGACY port have their bytes swapped as the window's BSWAP says. -/
def swapFor (s : State) (x bswap : Nat) (lines : List (Nat × Line × Bool)) : List (Nat × Line × Bool) :=
  if ((backingFor s.tabs x).map Backing.typ) = some 1 then lines.map (fun l => (l.1, swapLine bswap l.2.1, l.2.2)) else lines

/-- MIGRATION_COPY_DONE: the last line is copied, poison with it (R92 step 4, R93). `lines` are the lines that a source
behind a port has returned; writes meanwhile went to both places. -/
def migrationCopied (n : Nat) (lines : List (Nat × Line × Bool)) (s : State) : State :=
  match tget s.xl.migs n with
  | none => s
  | some m =>
    match tget s.tabs.extents m.ext with
    | none => s
    | some e =>
      if m.st ≠ 2 then s
      else
        let bswap := ((tget s.tabs.windows e.window).map Win.bswap).getD 0
        let src := match extentHbm s e.pool with | some base => extentLines s base | none => lines
        let kept := keepWrites s e.newPool (swapFor s e.pool bswap src)
        let s := writeExtent e.newPool (swapFor s e.newPool bswap kept) s
        let s := { s with xl.migs := tset s.xl.migs n { m with st := 3, lines := 2 ^ 22 } }
        capacityChanged (s.xlateEvent 5 0)

/-- R92: MIGRATION_COPY_DONE. -/
def execMigrationCopyDone (n : Nat) (lines : List (Nat × Line × Bool)) (s : State) : Host.Outcome State Fault Refusal :=
  .next (whenCarries (migrationCopied n lines) s)

/-! ## Dynamic capacity, R96-R101 -/

/-- The window of a host's DC region. -/
def dcWindow (s : State) (h region : Nat) : Option (Nat × Win) :=
  s.tabs.windows.find? (fun e => e.2.dynamic && e.2.host == h && e.2.dcRegion == region)

/-- Is a slot of a window ABSENT, and is no add on its way to it? -/
def slotAbsent (s : State) (n : Nat) (w : Win) (k : Nat) : Bool :=
  ((tget s.tabs.extents (w.extFirst + k)).map (fun e => decide (e.st = .absent))).getD true
    && !s.xl.dcAdd.any (fun b => b.win == n && b.items.any (fun a => a.1 == k))

/-- The device physical addresses of slots, as a pool view lists them. -/
def slotDpas (s : State) (w : Win) (ks : List Nat) : List Nat :=
  ks.map (fun k => viewDpa s.tabs w.host (w.hbase * 2 ^ 28 + windowOffset w k 0))

/-- The windows that name a pool extent, or are about to by an add on its way. -/
def namersOf (s : State) (x : Nat) : List Nat :=
  (s.tabs.extents.filter (fun e => e.2.names.contains x)).map (fun e => e.2.window)
    ++ (s.xl.dcAdd.filter (fun b => b.items.any (fun a => a.2 == x))).map DcBatch.win

/-- R74, R76: may a DYNAMIC window name this pool extent too? A SHARED window names HBM only; an extent that is named
already may be named again, up to 64 times, when every window that names it is SHARED, or every one is read-only. -/
def mayName (s : State) (w : Win) (x : Nat) : Bool :=
  let wins := (namersOf s x).map (tget s.tabs.windows)
  let all := fun (f : Win → Bool) => f w && wins.all (fun o => (o.map f).getD false)
  ((backingFor s.tabs x).map (fun b => !w.shared || b.typ == 0)).getD false
    && (wins.isEmpty || (decide (wins.length < 64) && (all Win.shared || all (fun v => !v.rw))))

/-- The pool extents that a request to add asks for; none: refused (R96, R100; the limits of R74 and R76, assumption 60). -/
def dcExtents (s : State) (w : Win) (r : DcAdd) : Option (List Nat) :=
  match r with
  | .free b n =>
    if s.assist 2 then none
    else match tget s.tabs.backings b with
      | none => none
      | some x =>
        if w.shared ∧ x.typ ≠ 0 then none else
        let fs := (((List.range x.plen).map (· + x.pbase)).filter (extentFree s)).take n
        if fs.length = n then some fs else none
  | .prescriptive xs =>
    if distinct xs && xs.all (mayName s w) then some xs else none

/-- DC_ADD_REQUEST (R96 steps 1 to 3): the lowest-numbered ABSENT slots are taken, to be PRESENT at the first boundary after any scrub,
when the add event record lists them (step 4). A request with fewer ABSENT slots is refused. -/
def dcAdd (h region : Nat) (r : DcAdd) (s : State) : State :=
  match dcWindow s h region with
  | none => s
  | some (n, w) =>
    let xs := (dcExtents s w r).getD []
    let ks := ((List.range w.extCount).filter (slotAbsent s n w)).take xs.length
    if ks.length < xs.length ∨ xs = [] then s
    else { s with xl.dcAdd := s.xl.dcAdd ++ [{ win := n, items := ks.zip xs }] }

/-- R96: DC_ADD_REQUEST. -/
def execDcAddRequest (host region : Nat) (req : DcAdd) (s : State) : Host.Outcome State Fault Refusal :=
  .next (whenCarries (dcAdd host region req) s)

/-- DC_ADD_RESPONSE (R96 step 5): slots offered and not accepted become ABSENT at the next boundary. -/
def dcAddAnswer (h region : Nat) (accepted : List Nat) (s : State) : State :=
  match dcWindow s h region with
  | none => s
  | some (n, _) =>
    let drop := (s.xl.dcOffer.filter (fun o => o.1 == n && !accepted.contains o.2)).map (·.2)
    { s with
      xl.dcOffer := s.xl.dcOffer.filter (fun o => o.1 != n),
      xl.dcDrop := s.xl.dcDrop ++ drop.map (fun k => (n, k)) }

/-- R96: DC_ADD_RESPONSE. -/
def execDcAddResponse (host region : Nat) (accepted : List Nat) (s : State) : Host.Outcome State Fault Refusal :=
  .next (whenCarries (dcAddAnswer host region accepted) s)

/-- Slots of a window that are PRESENT and not about to be ABSENT. -/
def dcPresent (s : State) (n : Nat) (w : Win) (k : Nat) : Bool :=
  decide (k < w.extCount) && ((tget s.tabs.extents (w.extFirst + k)).map (fun e => decide (e.st ≠ .absent))).getD false
    && !s.xl.dcDrop.contains (n, k)

/-- DC_RELEASE_REQUEST (R97): the release event record, and its timeout (R98). -/
def dcRelease (h region : Nat) (slots : List Nat) (s : State) : State :=
  match dcWindow s h region with
  | none => s
  | some (n, w) =>
    let ks := slots.eraseDups.filter (fun k => dcPresent s n w k && !s.xl.dcRel.any (fun r => r.win == n && r.slot == k))
    if ks.isEmpty then s
    else
      let t := s.now + s.rf Reg.xlateCtl 47 32 * 1000000
      let s := { s with
        xl.dcRel := s.xl.dcRel ++ ks.map (fun k => { win := n, slot := k, deadline := t, post := none, waits := false }) }
      viewEvent { host := h, sev := .info, typ := 3, dpas := slotDpas s w ks } s

/-- R97: DC_RELEASE_REQUEST. -/
def execDcReleaseRequest (host region : Nat) (slots : List Nat) (s : State) : Host.Outcome State Fault Refusal :=
  .next (whenCarries (dcRelease host region slots) s)

/-- R97 step 3: a slot becomes ABSENT at the next boundary. For a shared window the home first recalls the host's lines; a gone host's
are handled as an expiry (R204, R205). -/
def dcGo (n k : Nat) (s : State) : State :=
  let s := { s with
    xl.dcRel := s.xl.dcRel.filter (fun r => !(r.win == n && r.slot == k)),
    xl.dcDrop := if s.xl.dcDrop.contains (n, k) then s.xl.dcDrop else s.xl.dcDrop ++ [(n, k)] }
  match tget s.tabs.windows n with
  | none => s
  | some w =>
    match tget s.tabs.extents (w.extFirst + k) with
    | none => s
    | some e =>
      if w.shared then
        (s.home.sf.filter (fun x => x.1 / 2 ^ 22 == e.pool && x.2.presence.getLsbD w.host)).foldl (fun s x =>
          if hostIsGone s w.host then expireHolder x.1 w.host s
          else issueSnp x.1 w.host .inv .release (deadlineOf s 32767) s) s
      else s

/-- Posts that have not been answered or closed. -/
def dcOpen (s : State) : Nat := (s.xl.dcRel.filter (fun r => r.post.isSome)).length

/-- R99: timeouts that wait are posted as room frees, in the order in which they expired: fewer than 256 posts unread, and a TAG that no
open post holds, the next one in turn (DESIGN CHOICE: assumption 76). -/
def pumpDcPosts (s : State) : State :=
  s.xl.dcRel.foldl (fun s r =>
    match freeFrom s.xl.dcTag (s.xl.dcRel.filterMap DcRel.post) with
    | none => s
    | some tag =>
    if r.waits && decide (s.xl.dcPosts.length < 256) then
      { s with
        xl.dcTag := tag + 1,
        xl.dcPosts := s.xl.dcPosts ++ [mkFld 63 63 1 ||| mkFld 62 55 tag ||| mkFld 43 32 r.win ||| mkFld 18 0 r.slot],
        xl.dcRel := s.xl.dcRel.map (fun x =>
          if x.win == r.win && x.slot == r.slot then { x with post := some tag, waits := false } else x) }
    else s) s

/-- DC_RELEASE_RESPONSE (R97, R99): the slots that host software names are released; their posts close. -/
def dcReleaseAnswer (h region : Nat) (slots : List Nat) (s : State) : State :=
  match dcWindow s h region with
  | none => s
  | some (n, w) => pumpDcPosts ((slots.eraseDups.filter (dcPresent s n w)).foldl (fun s k => dcGo n k s) s)

/-- R97: DC_RELEASE_RESPONSE. -/
def execDcReleaseResponse (host region : Nat) (slots : List Nat) (s : State) : Host.Outcome State Fault Refusal :=
  .next (whenCarries (fun s => retryVictims (pumpWritebacks (dcReleaseAnswer host region slots s))) s)

/-- DC_RELEASE_TIMEOUT (R98). -/
def dcTimeout (n k : Nat) (s : State) : State :=
  match s.xl.dcRel.find? (fun r => r.win == n && r.slot == k) with
  | none => s
  | some r =>
    if r.post.isSome || r.waits then s
    else
      let s := s.reach r.deadline
      if s.assist 2 then
        let s := s.xlateEvent 6 0
        let late := { r with waits := true }
        pumpDcPosts { s with
          xl.dcRel := s.xl.dcRel.filter (fun x => !(x.win == n && x.slot == k)) ++ [late] }
      else dcGo n k (s.xlateEvent 7 0)

/-- R98: DC_RELEASE_TIMEOUT. -/
def execDcReleaseTimeout (window slot : Nat) (s : State) : Host.Outcome State Fault Refusal :=
  .next (whenCarries (fun s => retryVictims (pumpWritebacks (dcTimeout window slot s))) s)

/-- A read of DC_TMO_REQ takes the oldest post (R99). -/
def dcTmoTake (s : State) : Word × State :=
  let (w, r) := mailRead s.xl.dcPosts
  (w, pumpDcPosts { s with xl.dcPosts := r })

/-- DC_TMO_RESP written (R99). -/
def dcTmoAnswer (data : Word) (s : State) : State :=
  let s := s.wr Reg.dcTmoResp (data &&& (fldMask 63 62 ||| fldMask 55 48))
  if !bitAt data 63 then s
  else match s.xl.dcRel.find? (fun r => r.post == some (fld data 55 48)) with
    | none => s.xlateEvent 10 0
    | some r =>
      if bitAt data 62 then retryVictims (pumpWritebacks (pumpDcPosts (dcGo r.win r.slot (s.xlateEvent 7 0))))
      else pumpDcPosts { s with xl.dcRel := s.xl.dcRel.filter (fun x => !(x.win == r.win && x.slot == r.slot)) }

/-! ## The device's own changes at a boundary, R88, R92 step 5, R95-R97 -/

/-- A slot that is to be ABSENT may go: no line of it is held or being recalled for its host (R97). -/
def dropReady (s : State) (o : Nat × Nat) : Bool :=
  match (tget s.tabs.windows o.1).bind (fun w => (tget s.tabs.extents (w.extFirst + o.2)).map (fun e => (w, e))) with
  | some (w, e) => !w.shared || !s.home.sf.any (fun x => x.1 / 2 ^ 22 == e.pool && x.2.presence.getLsbD w.host)
  | none => true

/-- An add may take effect: its extents are scrubbed (R96 step 3). -/
def addReady (s : State) (b : DcBatch) : Bool := !b.items.any (fun a => s.xl.scrubs.any (fun c => c.ext == a.2))

/-- Set the extent entry of a window's slot. -/
def setSlot (n k : Nat) (f : Ext → Ext) (t : Tables) : Tables :=
  match tget t.windows n with
  | some w =>
    let i := w.extFirst + k
    { t with extents := tset t.extents i (f ((tget t.extents i).getD { st := .absent, gen := 0, pool := 0, newPool := 0, window := n })) }
  | none => t

/-- The tables with the device's own changes that are due: migrations end, then slots are released, then filled. -/
def ownChanges (s : State) (t : Tables) : Tables :=
  let t := s.xl.migBack.foldl (fun t x => { t with extents := tmod t.extents x (fun e => { e with st := .present, newPool := 0 }) }) t
  let t := s.xl.migs.foldl (fun t m =>
    if m.2.st = 3 then { t with extents := tmod t.extents m.2.ext (fun e =>
      if e.st = .migrating then { e with st := .present, pool := e.newPool, newPool := 0 } else e) }
    else t) t
  let t := (s.xl.dcDrop.filter (dropReady s)).foldl (fun t o =>
    setSlot o.1 o.2 (fun e => { e with st := .absent, pool := 0, newPool := 0 }) t) t
  (s.xl.dcAdd.filter (addReady s)).foldl (fun t b => b.items.foldl (fun t a =>
    setSlot b.win a.1 (fun e => { e with st := .present, pool := a.2, newPool := 0 }) t) t) t

/-- R96 step 4: the slots that an add has filled are offered to the host: the add event record lists them. -/
def offerAdd (b : DcBatch) (s : State) : State :=
  match tget s.tabs.windows b.win with
  | none => s
  | some w =>
    let ks := b.items.map (·.1)
    viewEvent { host := w.host, sev := .info, typ := 2, dpas := slotDpas s w ks }
      { s with xl.dcOffer := s.xl.dcOffer ++ ks.map (fun k => (b.win, k)) }

/-- The changes that have taken effect are no longer due. -/
def ownDone (s0 s : State) : State :=
  (s0.xl.dcAdd.filter (addReady s0)).foldl (fun s b => offerAdd b s)
    { s with
      xl.dcDrop := s.xl.dcDrop.filter (fun o => !dropReady s0 o),
      xl.dcAdd := s.xl.dcAdd.filter (fun b => !addReady s0 b),
      xl.migBack := [] }

end Sys2Proof.Machine
end

