-- ==== Sys2Proof/Machine/RasActions.lean ====
section
/-! DEFINITION. What a severity's action does: isolation and rejoining, escalation requests, HALT_REC; records that stewards
write; steward watchdogs (R473-R494, R521). -/
namespace Sys2Proof.Machine

/-! ## FATAL_DEVICE, R479 -/

/-- R479: the first such record is kept until HALT_INFO.VALID is cleared; the device enters HALT (assumption 19). -/
def haltWith (r : ErrRec) (s : State) : State :=
  let s := if s.rb Reg.haltInfo 0 then s else { s with ras.haltRec := some r }.wb Reg.haltInfo 0 true
  enterHalt s

/-! ## Isolating a unit, R487 -/

/-- The port that a PORT or LEGACY source names. -/
def unitPort (s : State) (u : UnitKind) (i : Nat) : Option Nat :=
  match u with
  | .port => if (s.link? i).isSome then some i else none
  | .legacy => (s.portsOf 3).find? (fun p => legIndex s p == i)
  | _ => none

/-- A record of the RAS unit: the unit and the SEQ of the record that caused the action. -/
def erRecord (cls : Nat) (u : UnitKind) (i seq : Nat) (s : State) : State :=
  s.raise cls .corrected .ras 0 (u.code + i * 2 ^ 8 + seq * 2 ^ 32)

/-- An isolation has been made: its event and record; the windows of isolated sources stop (R486). -/
def isolated (u : UnitKind) (i seq : Nat) (s : State) : State :=
  let s := { s with ras.windows := s.ras.windows.filter (fun w => !sourceIsolated s w.unit w.inst) }
  erRecord 0xB1 u i seq (s.setEvent Reg.rasEvents 4)

/-- A port is isolated: its link goes to Disabled; a LEGACY-DEVICE port is contained with cause FORCED. -/
def isolatePort (u : UnitKind) (i p seq : Nat) (s : State) : State :=
  let s := { s with ras.isoPorts := s.ras.isoPorts ++ [p] }
  let s := if s.role p = 3 then capacityChanged (contain p 7 s)
    else if s.linkIsUp p then linkGoesDown p 0 s
    else (s.modLink p (fun l => { l with attempting := false, waitUntil := none, eqUntil := none })).setLtssm p 0
  letIn (degrade 2 (isolated u i seq s))

/-- A cluster is isolated: its jobs end without a record (R334), and its partition is held in reset. -/
def isolateCluster (c seq : Nat) (s : State) : State :=
  let s := { s with ras.isoClusters := s.ras.isoClusters ++ [c] }
  let s := dropClusterJobs c s
  degrade 1 (isolated .cluster c seq { s with mill.caches := terase s.mill.caches c })

/-- R481: a steward's locks are released: the slot records of each ring move into it, then the records that waited enter. -/
def enterWaiting : Nat → State → List ErrRec × State
  | 0, s => ([], s)
  | n + 1, s =>
    match s.ras.waiting with
    | [] => ([], s)
    | w :: r =>
      if ringLocked s w.er then ([], s)
      else
        let (e, s) := enterRing w.er { s with ras.waiting := r }
        let (es, s) := enterWaiting n s
        (e :: es, s)

/-- Release a steward's locks. Answers the records that entered, whose actions are still to be taken. -/
def releaseLocks (stw : Nat) (s : State) : List ErrRec × State :=
  let rings := (s.ras.locks.filter (fun e => e.2 == stw)).map (·.1)
  let s := { s with ras.locks := s.ras.locks.filter (fun e => e.2 != stw) }
  let s := rings.foldl (fun s k => drainSlots k s) s
  enterWaiting s.ras.waiting.length s

/-- R494: is every steward isolated? -/
def noSteward (s : State) : Bool := (List.range 4).all s.ras.isoStewards.testBit

/-- A steward is isolated: its partition is held in reset, its watchdog stops, its locks are released. -/
def isolateSteward (i seq : Nat) (s : State) : List ErrRec × State :=
  let s := { s with ras.isoStewards := s.ras.isoStewards ||| 2 ^ i, ras.wdog := terase s.ras.wdog i }
  let (es, s) := releaseLocks i s
  let s := isolated .steward i seq s
  (es, if noSteward s then
    haltWith { mkRec s 0xB1 .fatalDevice .ras 0 (UnitKind.steward.code + i * 2 ^ 8 + seq * 2 ^ 32) with seq := s.ras.nextSeq } s
    else s)

/-- The sources that stay in place while they are isolated: a queue, a host, a slot. -/
def isolateOther (u : UnitKind) (i seq : Nat) (s : State) : State :=
  let s := isolated u i seq { s with ras.isoOther := s.ras.isoOther ++ [(u, i)] }
  match u with
  | .queue => faultQueue i s
  | .host => letIn (if hostIsGone s i then s else hostGone i s)
  | _ =>
    let s := tripSlot i 6 s
    s.modSlot i (fun sl => { sl with state := .lockedOff })

/-- R487: isolate the source of a record; a kind that cannot be isolated makes the record FATAL_DEVICE. -/
def isolateSource (r : ErrRec) (s : State) : List ErrRec × State :=
  if sourceIsolated s r.unit r.inst then ([], s)
  else match r.unit with
    | .port | .legacy =>
      (match unitPort s r.unit r.inst with
      | some p => ([], isolatePort r.unit r.inst p r.seq s)
      | none => ([], s))
    | .engine => ([], isolateCluster (r.inst / 8) r.seq s)
    | .cluster => ([], isolateCluster r.inst r.seq s)
    | .steward => isolateSteward r.inst r.seq s
    | .queue | .host | .slot => ([], isolateOther r.unit r.inst r.seq s)
    | .pipeline | .xlate | .channel | .home | .tick | .ring | .domain | .almanac | .pair | .ras | .counters =>
      ([], haltWith { r with sev := .fatalDevice } s)

/-! ## Escalation requests, R488 -/

/-- Handled as an expiry: the unit is isolated, with the fallback bit and record. -/
def escFallback (r : ErrRec) (s : State) : List ErrRec × State :=
  let (es, s) := isolateSource r s
  (es, erRecord 0xB4 r.unit r.inst r.seq (s.setEvent Reg.rasEvents 7))

/-- A FATAL_UNIT record in host-assisted mode: one request is posted; with 16 open it is handled as an expiry. -/
def escPost (r : ErrRec) (s : State) : List ErrRec × State :=
  if 16 ≤ s.ras.escOpen.length then escFallback r s
  else
    let tag := (freeFrom s.ras.escTag (s.ras.escOpen.map EscWin.tag)).getD 0
    let w : EscWin := { tag, er := r, deadline := s.now + s.rf Reg.rasCtl 47 32 * 1000 }
    let post := mkFld 63 63 1 ||| mkFld 62 55 tag ||| mkFld 49 42 r.unit.code ||| mkFld 41 24 r.inst ||| mkFld 23 0 (r.seq % 2 ^ 24)
    ([], { s with
      ras.escTag := tag + 1, ras.escOpen := s.ras.escOpen ++ [w], ras.escPosts := s.ras.escPosts ++ [post] })

/-- R478: the action of a record's severity. Answers records that a lock's release let enter. -/
def actOnRecord (r : ErrRec) (s : State) : List ErrRec × State :=
  match r.sev with
  | .corrected | .deferred | .contained => ([], s)
  | .fatalUnit =>
    if sourceIsolated s r.unit r.inst then ([], s) else if s.assist 5 then escPost r s else isolateSource r s
  | .fatalDevice => ([], haltWith r s)

/-- The actions of records that have entered, and of those that enter through them; `n` bounds the records. -/
def actOnAll : Nat → List ErrRec → State → State
  | 0, _, s => s
  | _ + 1, [], s => s
  | n + 1, r :: l, s =>
    let (es, s) := actOnRecord r s
    actOnAll n (l ++ es) s

/-- The actions of records, with room for those that wait. -/
def acts (rs : List ErrRec) (s : State) : State := actOnAll (rs.length + s.ras.waiting.length + 1) rs s

/-- A record reaches EL_W: it waits for a locked ring (R480), or its severity is decided, it enters its ring and its action is
taken (R473-R487). -/
def recordArrives (r : ErrRec) (s : State) : State :=
  if ringLocked s r then { s with ras.waiting := s.ras.waiting ++ [{ er := r, since := s.now }] }
  else
    let (r, s) := enterRing r s
    acts [r] s

/-- ERROR_RECORD_ARRIVES: the `k`th record on its way. The core partition is out of reset from LOAD to HALT. -/
def errorRecordArrives (k : Nat) (s : State) : State :=
  match s.ras.inbox[k]? with
  | some r => if s.mode.loadToHalt then recordArrives r { s with ras.inbox := dropAt s.ras.inbox k } else s
  | none => s

/-- R483: ERROR_RECORD_ARRIVES. -/
def execErrorRecordArrives (k : Nat) (s : State) : Host.Outcome State Fault Refusal := .next (errorRecordArrives k s)

/-- LOCK_WAIT_TIMEOUT (R480): 2 µs after it reached EL_W, the oldest record that waits goes to a last-resort slot. -/
def lockTimeout (s : State) : State :=
  match s.ras.waiting with
  | [] => s
  | w :: r =>
    let (e, s) := enterSlot w.er { s.reach (w.since + 2000) with ras.waiting := r }
    acts [e] s

/-- R480: LOCK_WAIT_TIMEOUT. -/
def execLockWaitTimeout (s : State) : Host.Outcome State Fault Refusal := .next (lockTimeout s)

/-- RING_LOCK_RELEASE (R481). -/
def lockRelease (stw : Nat) (s : State) : State :=
  let (es, s) := releaseLocks stw s
  acts es s

/-- R481: RING_LOCK_RELEASE. -/
def execRingLockRelease (stw : Nat) (s : State) : Host.Outcome State Fault Refusal := .next (lockRelease stw s)

/-- STEWARD_RECORD_WRITE (R480): a steward in service takes the lock of the ring of its `k`th record and writes it. -/
def stewardWrites (stw k : Nat) (s : State) : State :=
  match s.ras.stwInbox[k]? with
  | none => s
  | some r =>
    if 4 ≤ stw ∨ s.ras.isoStewards.testBit stw ∨ !s.mode.loadToHalt ∨ ringLocked s r ∨ s.inGap then s
    else
      let ring := (decideSev s r).1.code
      let s := { s with ras.stwInbox := dropAt s.ras.stwInbox k, ras.locks := tset s.ras.locks ring stw }
      let (e, s) := enterRing r s
      acts [e] s

/-- R480: STEWARD_RECORD_WRITE. -/
def execStewardRecordWrite (stw k : Nat) (s : State) : Host.Outcome State Fault Refusal := .next (stewardWrites stw k s)

/-! ## Answers and expiries, R488, R489 -/

/-- Take an open escalation window. -/
def takeEsc (tag : Nat) (s : State) : Option EscWin × State :=
  match s.ras.escOpen.find? (fun w => w.tag == tag) with
  | some w => (some w, { s with ras.escOpen := s.ras.escOpen.filter (fun x => x.tag != tag) })
  | none => (none, s)

/-- ESC_RESP written with `data` (R488); what the register keeps of it is the write's own (R18). -/
def escAnswer (data : Word) (s : State) : State :=
  if !bitAt data 63 then s
  else
    let act := fld data 57 56
    match (if act = 3 then (none, s) else takeEsc (fld data 55 48) s) with
    | (none, s) => s.setEvent Reg.rasEvents 8
    | (some w, s) =>
      if act = 0 then
        let (es, s) := isolateSource w.er s
        acts es s
      else if act = 1 then s else haltWith { w.er with sev := .fatalDevice } s

/-- A read of ESC_REQ takes the oldest post. -/
def escTake (s : State) : Word × State :=
  let (w, r) := mailRead s.ras.escPosts
  (w, { s with ras.escPosts := r })

/-- ESC_TIMEOUT (R488). -/
def escExpiry (tag : Nat) (s : State) : State :=
  match takeEsc tag s with
  | (none, s) => s
  | (some w, s) =>
    let (es, s) := escFallback w.er (s.reach w.deadline)
    acts es s

/-- R488: ESC_TIMEOUT. -/
def execEscTimeout (tag : Nat) (s : State) : Host.Outcome State Fault Refusal := .next (escExpiry tag s)

/-- R489: a handover to hardware mode closes every open window and isolates each unit. -/
def escToHardware (s : State) : State :=
  s.ras.escOpen.foldl (fun s w =>
    let (es, s) := isolateSource w.er s
    acts es s) { s with ras.escOpen := [] }

/-! ## ISO_CTL, R490, R491 -/

/-- The unit that ISO_CTL names, where it is of a kind it may name and exists. -/
def isoUnit (s : State) (unit inst : Nat) : Option UnitKind :=
  if unit = 1 then (if (unitPort s .port inst).isSome then some .port else none)
  else if unit = 3 then (if (unitPort s .legacy inst).isSome then some .legacy else none)
  else if unit = 0x0C then (if inst < 16 then some .cluster else none)
  else if unit = 0x11 then (if inst < 4 then some .steward else none) else none

/-- ISO_CTL with OP ISOLATE. -/
def isoIsolate (unit inst : Nat) (s : State) : State :=
  match isoUnit s unit inst with
  | none => s
  | some u =>
    let r : ErrRec := mkRec s 0xB1 .corrected u inst 0
    let (es, s) := isolateSource r s
    acts es s

/-- R491: the engines of a cluster that rejoins. One whose item is still on its way keeps its selection. -/
def rejoinCluster (c : Nat) (s : State) : State :=
  ((List.range 8).map (· + 8 * c)).foldl (fun s e => s.modEng e (fun g =>
    { g with st := 0, job := g.job.filter (fun j => decide (j.step = .selecting)), wait := .none })) s

/-- ISO_CTL with OP REJOIN. -/
def isoRejoin (unit inst : Nat) (s : State) : State :=
  match isoUnit s unit inst with
  | none => s
  | some u =>
    if !sourceIsolated s u inst then s
    else
      let s := erRecord 0xB2 u inst 0 s
      match u with
      | .cluster =>
        let s := rejoinCluster inst { s with ras.isoClusters := s.ras.isoClusters.filter (fun c => c != inst) }
        if s.ras.isoClusters.isEmpty then undegrade 1 s else s
      | .steward =>
        { s with
          ras.isoStewards := s.ras.isoStewards ^^^ 2 ^ inst,
          ras.wdog := tset s.ras.wdog inst (s.now + s.rf Reg.rasCtl 23 16 * 1000000) }
      | _ =>
        match unitPort s u inst with
        | none => s
        | some p =>
          let s := { s with ras.isoPorts := s.ras.isoPorts.filter (fun q => q != p) }
          let s := if s.ras.isoPorts.isEmpty then undegrade 2 s else s
          startAttempt p s

/-! ## Steward watchdogs, R492, R493 -/

/-- STEWARD_WATCHDOG_EXPIRY: the steward's partition is reset and it restarts (assumption 35: at once). -/
def watchdogEnds (n : Nat) (s : State) : State :=
  match tget s.ras.wdog n with
  | none => s
  | some t =>
    if s.inGap then s
    else
      let s := s.reach t
      let (es, s) := releaseLocks n s
      let s := { s with
        ras.restarts := tset s.ras.restarts n (satAdd 8 (tgetD s.ras.restarts n 0) 1),
        ras.wdog := tset s.ras.wdog n (s.now + s.rf Reg.rasCtl 23 16 * 1000000) }
      let s := (s.setEvent Reg.rasEvents 5).raise 0xB0 .contained .steward n (UnitKind.steward.code + n * 2 ^ 8)
      acts es s

/-- R493: STEWARD_WATCHDOG_EXPIRY. -/
def execStewardWatchdogExpiry (n : Nat) (s : State) : Host.Outcome State Fault Refusal := .next (watchdogEnds n s)

end Sys2Proof.Machine
end

