-- ==== Sys2Proof/Machine/Effects.lean ====
section
/-! DEFINITION. A write of a register field by field (R12, R16, R18), and what the write of a register of each block starts.
The registers of ALMANAC, PWR_CTL and TEST are in Control. -/
namespace Sys2Proof.Machine

/-! ## Fields -/

/-- One field after a write of the bits of `mask`: RO and RC fields keep their bits (R12), a reserved encoding leaves its field
(R18), a 1 clears a W1C bit; a W1S bit is set by what it starts. -/
def writeFld (mask data : Word) (w : Word) (f : Fld) : Word :=
  let m := fldMask f.hi f.lo &&& mask
  match f.acc with
  | .ro | .rc | .w1s => w
  | .w1c => w &&& ~~~(data &&& m)
  | .rw =>
    let n := (w &&& ~~~m) ||| (data &&& m)
    if f.legal.isEmpty || f.legal.any (fun r => decide (r.1 ≤ fld n f.hi f.lo) && decide (fld n f.hi f.lo ≤ r.2)) then n else w

/-- A register after a write of the bits of `mask`. -/
def writeFlds (d : RegDef) (mask data old : Word) : Word := d.flds.foldl (writeFld mask data) old

/-- The RW bits of a register (R427). -/
def rwMask (d : RegDef) : Word :=
  d.flds.foldl (fun m f => match f.acc with | .rw => m ||| fldMask f.hi f.lo | _ => m) 0#64

/-- The place of an offset in an array of registers. -/
def arrAt (base stride count off : Nat) : Option Nat :=
  if base ≤ off ∧ (off - base) % stride = 0 ∧ (off - base) / stride < count then some ((off - base) / stride) else none

/-! ## What a write starts. `w` is the register after the write, `d` the bits written. -/

/-- PORT_CTL, EQ_RESP. -/
def portEffect (off : Nat) (old w d : Word) (s : State) : State :=
  let p := (off - 0x200000) / 0x1000
  let k := (off - 0x200000) % 0x1000
  if k = 0x10 then
    let s := if bitAt old 0 && !bitAt w 0 then portOff p s else if !bitAt old 0 && bitAt w 0 then portOn p s else s
    if bitAt d 1 then portRetrain p s else s
  else if k = 0x70 then settleLost p (eqAnswer p w s) else s

/-- XLATE_CTL (MIG_RATE is a charge, R276), FILL_RESP_n, DC_TMO_RESP. -/
def xlateEffect (off : Nat) (old w : Word) (s : State) : State :=
  if off = Reg.xlateCtl then (if old = w then s else capacityChanged s)
  else if off = Reg.dcTmoResp then dcTmoAnswer w s
  else match arrAt (Reg.fillResp 0) 0x10 2 off with
    | some d => fillAnswer d w s
    | none => s

/-- ISO_CTL (R490): GO is cleared when OP has been acted on (assumption 44). -/
def isoWrite (w d : Word) (s : State) : State :=
  if !bitAt d 63 then s
  else if bitAt w 62 then isoRejoin (fld w 55 48) (fld w 17 0) s else isoIsolate (fld w 55 48) (fld w 17 0) s

/-- The port of a legacy index. -/
def indexPort (s : State) (i : Nat) : Option Nat := (s.portsOf 3).find? (fun p => legIndex s p == i)

/-- BXE_CTL.FORCE_CONTAIN and RELEASE (R153, R156). -/
def bxeEffect (i : Nat) (d : Word) (s : State) : State :=
  match indexPort s i with
  | none => s
  | some p =>
    let s := if bitAt d 2 then forceContain p s else s
    if bitAt d 3 then releaseWrite p s else s

/-- ESC_RESP, ISO_CTL, STW_WDOG_n, BXE_CTL. -/
def rasEffect (off : Nat) (w d : Word) (s : State) : State :=
  if off = Reg.escResp then escAnswer d s
  else if off = Reg.isoCtl then isoWrite w d s
  else match arrAt (Reg.stwWdog 0) 8 4 off with
    | some n => if bitAt d 0 then watchdogPet n s else s
    | none =>
      match arrAt (Reg.bxeCtl 0) 0x100 256 off with
      | some i => bxeEffect i d s
      | none => s

/-- HOME_CTL (patrol scrub is a charge, R276), EVICT_RESP_n, HOST_COH_nn.READMIT, CH_STATUS_nnn.RETIRE. -/
def homeEffect (off : Nat) (old w d : Word) (s : State) : State :=
  if off = Reg.homeCtl then (if old = w then s else capacityChanged s)
  else match arrAt (Reg.evictResp 0) 0x10 2 off with
    | some n => evictAnswer n w s
    | none =>
      match arrAt (Reg.hostCoh 0) 8 64 off with
      | some h => if bitAt d 0 then readmitWrite h s else s
      | none =>
        match arrAt (Reg.chStatus 0) 8 128 off with
        | some c => if bitAt d 48 then retireStart c s else s
        | none => s

/-- ENG_CTL.ABORT, SH_CTL.RESUME, DISPATCH_RESP_n. -/
def millEffect (off : Nat) (w d : Word) (s : State) : State :=
  match arrAt (Reg.dispatchResp 0) 0x10 2 off with
  | some n => dispatchAnswer n w s
  | none =>
    match arrAt (Reg.engCtl 0) 0x10000 128 off with
    | some e => if bitAt d 2 then engAbort e s else s
    | none =>
      match arrAt (Reg.shCtl 0) 0x10000 128 off with
      | some e => if bitAt d 0 then engResume e s else s
      | none => s

/-- PAIR_CTL's requests, TAKEOVER_RESP. -/
def pairEffect (off : Nat) (w d : Word) (s : State) : State :=
  if off = Reg.pairCtl then
    let s := if bitAt d 1 then moveGo s else s
    let s := if bitAt d 2 then dissolveGo s else s
    if bitAt d 3 then pinClear s else s
  else if off = Reg.takeoverResp then takeoverAnswer w s else s

/-- SLOT_CTL_nnn, SLOT_CMD_nnn. -/
def slotEffect (off : Nat) (w d : Word) (s : State) : State :=
  match arrAt (Reg.slotCtl 0) 0x40 128 off with
  | some i =>
    let s := if bitAt d 16 then slotClear i s else s
    if bitAt d 17 then slotFetClear i s else s
  | none =>
    match arrAt (Reg.slotCmd 0) 0x40 128 off with
    | some i => if bitAt d 63 then slotCmdGo i (setBit w 63) s else s
    | none => s

/-- COUNT_CTL. -/
def countEffect (off : Nat) (old w d : Word) (s : State) : State :=
  if off = Reg.countCtl then
    let w := w ||| (d &&& 4#64)
    countCtlWritten old w (s.wr Reg.countCtl w)
  else s

/-- What the write of a register starts, by its block. -/
def regEffect (off : Nat) (old w d : Word) (s : State) : State :=
  if off < 0x200000 then s
  else if off < 0x400000 then portEffect off old w d s
  else if off < 0x800000 then xlateEffect off old w s
  else if off < 0xA00000 then s
  else if off < 0xC00000 then rasEffect off w d s
  else if off < 0xE00000 then homeEffect off old w d s
  else if off < 0x1400000 then s
  else if off < 0x2000000 then (if off = Reg.qReset then qResetWrite (w ||| (d &&& fldMask 63 63)) s else s)
  else if off < 0x3000000 then millEffect off w d s
  else if off < 0x3200000 then pairEffect off w d s
  else if off < 0x3400000 then slotEffect off w d s
  else if off < 0x3800000 then countEffect off old w d s
  else s

/-! ## Which registers there are -/

/-- Does the register at an offset exist in this configuration? The page of a number that starts no port, or of a legacy index
that names no port, holds none (02, 04, 05); nor does PAIR without a PAIR section. -/
def regPresent (s : State) (off : Nat) : Bool :=
  if 0x200000 ≤ off ∧ off < 0x400000 then (s.link? ((off - 0x200000) / 0x1000)).isSome
  else if 0x810000 ≤ off ∧ off < 0x820000 then (indexPort s ((off - 0x810000) / 0x100)).isSome
  else if 0xA90000 ≤ off ∧ off < 0xAA0000 then (indexPort s ((off - 0xA90000) / 0x100)).isSome
  else if 0x3000000 ≤ off ∧ off < 0x3200000 then s.pair.present
  else if 0x3200100 ≤ off ∧ off < 0x3202100 then decide ((off - 0x3200100) / 0x40 < s.chain.nSlots)
  else true

/-- The `n` counts that a write takes (R477, R496): RING_CONS_s and VLOG_CONS are held in the rings. -/
def consWrite (off : Nat) (mask data : Word) (s : State) : State :=
  if mask &&& fldMask 31 0 = 0#64 then s
  else if off = Reg.vlogCons then vlogConsWrite (fld data 31 0) s
  else match arrAt (Reg.ringCons 1) 0x20 5 off with
    | some k => ringConsWrite (k + 1) (fld data 31 0) s
    | none => s

/-- Is it one of the CONS counts? -/
def isCons (off : Nat) : Bool := off == Reg.vlogCons || (arrAt (Reg.ringCons 1) 0x20 5 off).isSome

/-- A SLOT_CMD written with GO in hardware mode changes nothing (R524). -/
def cmdIdle (off : Nat) (d : Word) (s : State) : Bool :=
  (arrAt (Reg.slotCmd 0) 0x40 128 off).isSome && bitAt d 63 && !s.assist 4

/-- Q_RESET and the answers are stored by what they start; every other register is stored first. -/
def storeReg (d : RegDef) (off : Nat) (mask data : Word) (s : State) : State :=
  let old := s.rd off
  let w := writeFlds d mask data old
  let s := if off = Reg.qReset || cmdIdle off (data &&& mask) s then s else s.wr off w
  regEffect off old w (data &&& mask) s

/-- A write of the bits of `mask` to a register of these blocks. -/
def regWrite (off : Nat) (mask data : Word) (s : State) : State :=
  match regAt off with
  | none => s
  | some d =>
    if !regPresent s off then s
    else if isCons off then consWrite off mask data s
    else storeReg d off mask data s

/-- R427: a REGISTER_PATCH entry is one 64-bit write; its MASK covers RW fields only. -/
def patchWrite (off : Nat) (value mask : Word) (s : State) : State :=
  regWrite off (BitVec.allOnes 64) ((s.rd off &&& ~~~mask) ||| (value &&& mask)) s

end Sys2Proof.Machine
end

