-- ==== Sys2Proof/Machine/Sections.lean ====
section
/-! DEFINITION. Checks 9 to 11 of an image (R429): content, limits and admission, for the flash images, shadow sets and exchange
images; and the pair digest (R444). -/
namespace Sys2Proof.Machine

/-! ## Check 9: content -/

/-- The bits of a word that a layout defines. -/
def bitsOf (l : List (Nat × Nat)) : Word := l.foldl (fun m r => m ||| fldMask r.1 r.2) 0#64

/-- Byte ranges (first, end) of a preamble that a section defines beyond ENTRY_SIZE and ENTRY_COUNT. -/
def preRanges (typ : Nat) : List (Nat × Nat) :=
  match typ with
  | 0x01 => [(8, 15)]
  | 0x07 => [(8, 14)]
  | 0x08 => [(8, 16)]
  | 0x09 => [(8, 24)]
  | 0x0A => [(8, 13), (16, 24)]
  | 0x0B | 0x0D => [(8, 10)]
  | 0x0C => [(8, 9)]
  | 0x0F => [(8, 25)]
  | 0x10 => [(8, 16)]
  | _ => []

/-- Reserved preamble bytes are 0. -/
def preZero (img : RawImage) (x : Sect) : Bool :=
  imgNat img (x.off + 2) 2 == 0 &&
    ((List.range 56).map (· + 8)).all (fun k =>
      (preRanges x.typ).any (fun r => decide (r.1 ≤ k) && decide (k < r.2)) || imgByte img (x.off + k) == 0#8)

/-- Bytes that the preamble and the entries take. -/
def entriesEnd (img : RawImage) (x : Sect) : Nat :=
  64 + entryCount img x * (if x.patch then entrySize img x + 8 else entrySize img x)

/-- ENTRY_SIZE, the entries within the section, the padding of zeros, and the index words of PATCH. -/
def shapeOk (img : RawImage) (x : Sect) : Bool :=
  entrySize img x == wantEntrySize x.typ && (decide (wantEntrySize x.typ ≠ 0) || entryCount img x == 0)
    && decide (entriesEnd img x ≤ x.len)
    && (x.typ == 0x08 || (List.range (x.len - entriesEnd img x)).all (fun k => imgByte img (x.off + entriesEnd img x + k) == 0#8))
    && (!x.patch || (List.range (entryCount img x)).all (fun i =>
      imgNat img (x.off + 64 + i * (entrySize img x + 8) + 4) 4 == 0))

/-- The defined bits of the words of an entry. -/
def entryBits (typ qCount i : Nat) (w : List Word) : List Word :=
  let k := fld (w.getD 3 0#64) 63 56
  match typ with
  | 0x02 =>
    if k = 0 then
      [bitsOf [(55, 48), (46, 40), (31, 28), (23, 18), (10, 8), (2, 0)], bitsOf [(43, 32), (19, 16), (11, 9), (8, 0)],
        bitsOf [(42, 32), (26, 16), (8, 3)], bitsOf [(63, 56), (11, 9)]]
    else [bitsOf [(51, 2)], bitsOf [(51, 2)], bitsOf [(5, 0)], bitsOf [(63, 56)]]
  | 0x03 => [bitsOf [(63, 63), (58, 56), (46, 28), (19, 0)], bitsOf [(55, 28), (20, 0)], 0#64, 0#64]
  | 0x04 =>
    [bitsOf [(63, 63), (55, 28), (13, 8), (0, 0)], bitsOf [(43, 24), (18, 0)], bitsOf [(24, 8), (2, 0)], bitsOf [(51, 28), (5, 0)]]
  | 0x05 => [bitsOf [(63, 62), (59, 56), (46, 28), (11, 0)], bitsOf [(46, 28)]]
  | 0x06 => [bitsOf [(63, 63), (60, 38), (15, 0)], bitsOf [(47, 0)], bitsOf [(5, 0)]]
  | 0x07 =>
    if i < qCount then [bitsOf [(63, 35), (27, 0)], BitVec.allOnes 64]
    else [bitsOf [(63, 38)], bitsOf [(63, 48)]]
  | 0x09 => [bitsOf [(63, 62), (55, 50), (47, 32)]]
  | 0x0A => [bitsOf [(63, 56), (27, 16), (11, 0)]]
  | 0x0B => [bitsOf [(63, 60), (56, 48), (31, 16), (9, 0)], BitVec.allOnes 64, 0#64, 0#64]
  | 0x0E => [bitsOf [(31, 0)], BitVec.allOnes 64, BitVec.allOnes 64]
  | _ => []

/-- Reserved bits of an entry are 0. -/
def entryZero (typ qCount i : Nat) (w : List Word) : Bool :=
  ((entryBits typ qCount i w).zip w).all (fun e => e.2 &&& ~~~e.1 == 0#64)

/-- The register that a patch names exists in these tables. -/
def patchNames (t : Tables) (off : Nat) : Option RegDef :=
  let here := if 0x200000 ≤ off ∧ off < 0x400000 then t.portEnts.any (fun p => p.num == (off - 0x200000) / 0x1000)
    else if 0x810000 ≤ off ∧ off < 0x820000 then
      t.portEnts.any (fun p => p.role == 3 && p.legacyIndex == (off - 0x810000) / 0x100)
    else if 0xA90000 ≤ off ∧ off < 0xAA0000 then
      t.portEnts.any (fun p => p.role == 3 && p.legacyIndex == (off - 0xA90000) / 0x100)
    else if 0x3000000 ≤ off ∧ off < 0x3200000 then t.pair.isSome
    else decide (off < 0x3C00000)
  if here then regAt off else none

/-- R427: a REGISTER_PATCH entry names a register with an RW field, and its MASK covers RW fields only. -/
def patchOk (t : Tables) (w : List Word) : Bool :=
  match patchNames t (fld (w.getD 0 0#64) 31 0) with
  | some d => rwMask d != 0#64 && (w.getD 2 0#64) &&& ~~~(rwMask d) == 0#64
  | none => false

/-- Encodings and ranges of an entry's fields. -/
def entryEnc (t : Tables) (typ qCount i : Nat) (w : List Word) : Bool :=
  let a := w.getD 0 0#64; let b := w.getD 1 0#64; let c := w.getD 2 0#64; let d := w.getD 3 0#64
  match typ with
  | 0x02 =>
    if fld d 63 56 = 0 then
      portEntOk (portEntOf w) && decide (fld d 11 9 ≤ 6) && decide (fld c 42 32 ≠ 0) && decide (fld c 26 16 ≠ 0)
        && decide (fld c 7 4 ≤ 10)
    else fld d 63 56 == 1
  | 0x03 => !bitAt a 63 || decide (fld a 58 56 ≤ 3)
  | 0x04 => !bitAt a 63 || (decide (waysOf (fld c 23 20) ≠ 0) && decide (fld c 19 16 ≤ 6))
  | 0x05 => decide (fld a 63 62 ≠ 3)
  | 0x06 =>
    !bitAt a 63 ||
      (decide (64 ≤ fld a 57 48) && decide (1 ≤ fld a 15 0) && decide (1 ≤ fld b 47 32) && decide (fld b 47 32 ≤ 32767)
        && decide (1 ≤ fld b 31 16) && decide (fld b 31 16 ≤ 32767) && decide (1 ≤ fld b 15 0) && decide (fld b 15 0 ≤ 32767))
  | 0x07 => if i < qCount then !bitAt a 63 || decide (fld b 47 32 ≠ 0) else true
  | 0x0A => fld a 63 56 == 1
  | 0x0B =>
    !bitAt a 63 ||
      (decide (1 ≤ fld a 31 16) && decide (1 ≤ fld a 9 0) && decide (fld a 9 0 ≤ 1000) && decide (1 ≤ fld b 15 0)
        && decide (fld b 15 0 < fld b 31 16) && decide (1 ≤ fld b 63 32))
  | 0x0E => patchOk t w
  | _ => true

/-- The entries of a section under check 9. -/
def entriesOk (t : Tables) (img : RawImage) (x : Sect) : Bool :=
  if x.typ = 0x08 ∨ x.typ = 0x10 then true
  else (entriesOf img x).all (fun (e : Nat × List Word) => entryZero x.typ t.qCount e.1 e.2 && entryEnc t x.typ t.qCount e.1 e.2)

/-- Fields of a preamble. -/
def preEnc (img : RawImage) (x : Sect) : Bool :=
  match x.typ with
  | 0x09 =>
    (preWord img x 8) &&& ~~~(bitsOf [(55, 24), (12, 0)]) == 0#64 && (preWord img x 16) &&& ~~~(bitsOf [(15, 8), (1, 0)]) == 0#64
      && decide (fld (preWord img x 16) 1 0 ≤ 1) && decide (1 ≤ fld (preWord img x 16) 15 8)
  | 0x0A => decide (preNat img x 8 4 ≠ 0) && decide (preNat img x 12 1 ≤ 1)
  | 0x0B => decide (preNat img x 8 2 ≤ 128)
  | 0x0C => preNat img x 8 1 / 4 % 4 == 0
  | 0x0D => decide (preNat img x 8 2 < 1024)
  | 0x0F => decide (preNat img x 24 1 ≤ 1)
  | 0x10 => Config.firmwareForPart (preNat img x 8 8) (imgBytes img (x.off + 64) (entryCount img x))
  | _ => true

/-- A version descriptor's fields as the section gives them. -/
structure VDesc where
  program : Nat
  version : Nat
  flags : Nat
  off : Nat
  len : Nat
  entry : Nat
  evec : Nat
  deriving DecidableEq, Repr

/-- The descriptors of ENGINE_LIBRARY. -/
def vdescs (img : RawImage) (x : Sect) : List VDesc :=
  (entriesOf img x).map (fun (e : Nat × List Word) =>
    let a := e.2.getD 0 0#64; let b := e.2.getD 1 0#64; let c := e.2.getD 2 0#64
    { program := fld a 15 0, version := fld a 31 16, flags := fld a 63 32, off := fld b 31 0, len := fld b 63 32,
      entry := fld c 31 0, evec := fld c 63 32 })

/-- Code areas lie within the section, at multiples of 64, and do not overlap (R428). -/
def codeAreasOk (x : Sect) (ds : List VDesc) : Bool :=
  let cs := ds.filter (fun d => decide (d.len ≠ 0))
  cs.all (fun d => d.off % 64 == 0 && decide (64 ≤ d.off) && decide (d.off + d.len ≤ x.len))
    && !anyOverlap (cs.map (fun d => (d.off, d.len)))

/-- The list of dispatch queues lies within the section. -/
def dispatchListOk (img : RawImage) (x : Sect) : Bool :=
  let n := preNat img x 8 4
  let o := preNat img x 12 4
  n == 0 || (o % 64 == 0 && decide (64 ≤ o) && decide (o + 4 * n ≤ x.len))

/-- R428: the library of an almanac. -/
def libraryOk (t : Tables) (img : RawImage) (x : Sect) : Bool :=
  let ds := vdescs img x
  ds.all (fun d => decide (d.flags ≤ 1) && ((ds.filter (fun e => e.program == d.program && e.flags == 1)).length == 1))
    && codeAreasOk x ds && dispatchListOk img x
    && (List.range (preNat img x 8 4)).all (fun i =>
      match (tget t.queues (imgNat img (x.off + preNat img x 12 4 + 4 * i) 4)).map qcfgOf with
      | some c => c.valid && c.job
      | none => false)

/-- Check 9: the first section whose content fails. `t`: the tables as they will stand; `lib`: the library is an almanac's. -/
def contentBad (t : Tables) (lib : Bool) (img : RawImage) : Option Nat :=
  (List.range (sectCount img)).find? (fun i =>
    let x := sectAt img i
    !(preZero img x && shapeOk img x && preEnc img x && entriesOk t img x
      && (decide (x.typ ≠ 0x08) || if lib then libraryOk t img x else codeAreasOk x (vdescs img x))))

/-! ## Check 10: limits -/

/-- R357: limits of a library's descriptors with code. -/
def versionLimitsOk (vs : List (Nat × Nat × Nat × Nat × Nat)) : Bool :=
  vs.all (fun v => decide (v.1 < 4096) && decide (1 ≤ v.2.1) && decide (4 ≤ v.2.2.1) && decide (v.2.2.1 ≤ 262144) && v.2.2.1 % 4 == 0
      && v.2.2.2.1 % 4 == 0 && decide (v.2.2.2.1 < v.2.2.1) && v.2.2.2.2 % 64 == 0 && decide (v.2.2.2.2 < v.2.2.1)
      && decide ((vs.filter (fun u => u.1 == v.1)).length ≤ 4))
    && distinct (vs.map (fun v => (v.1, v.2.1))) && decide ((vs.map (fun v => v.2.2.1)).sum ≤ 2 ^ 27)

/-- What R357 checks of a resident version: program, version, code bytes, ENTRY, EVEC. -/
def versionKey (v : Version) : Nat × Nat × Nat × Nat × Nat := (v.program, v.version, 4 * v.code.length, v.entry, v.evec)

/-- R281: the queue limits. -/
def queueLimitsOk (t : Tables) : Bool :=
  let qs := (t.queues.filter (fun e => decide (e.1 < t.qCount))).map (fun e => (e.1, qcfgOf e.2))
  let qs := qs.filter (fun e => e.2.valid)
  let bs := (t.queues.filter (fun e => decide (t.qCount ≤ e.1))).map (fun e => (e.1 - t.qCount, pcfgOf e.2))
  let bs := bs.filter (fun e => e.2.valid)
  decide (t.qCount ≤ 262144) && bs.all (fun e => decide (e.1 < 262143))
    && (List.range 64).all (fun h => decide ((bs.filter (fun e => e.2.host == h)).length ≤ 65536)
        && decide ((qs.filter (fun e => !e.2.job && e.2.consHost == h)).length ≤ 65536))
    && qs.all (fun e => decide (1 ≤ e.2.limit) && decide (e.2.limit ≤ 134217727)
        && (!e.2.noticeEn || (match qs.find? (fun q => q.1 == e.2.noticeQ) with | some q => !q.2.job | none => false))
        && (!e.2.job || decide (e.2.clusters ≠ 0)))

/-- R161: a host's interrupt range lies outside its pool-view decoder range. -/
def intRangesOk (t : Tables) : Bool :=
  t.hostEnts.all (fun e =>
    let lo := e.2.1.toNat
    let hi := e.2.2.toNat + 4
    let d := decoderRange t e.1
    decide (e.2.2.toNat < lo) || decide (d.2 ≤ d.1) || decide (hi ≤ d.1) || decide (d.2 ≤ lo))

/-- R174: the region sizes and the reserve of GLOBAL. -/
def regionsOk (t : Tables) : Bool :=
  decide (16 ≤ t.ttabMib) && decide (t.ttabMib ≤ 64) && t.ttabMib % 16 == 0 && decide (1024 ≤ t.granaryMib)
    && decide (t.granaryMib ≤ 32768) && t.granaryMib % 1024 == 0 && decide (t.tallyMib ≤ 16384) && t.tallyMib % 256 == 0
    && decide (t.reserve ≤ 4)

/-- R174: extents that HBM backings may name: the retirement reserve is the top of the region. -/
def hbmExtents (t : Tables) : Nat := poolExtents t - 7 * t.reserve

/-- R197, R209: mirrored windows are in HBM; a tick-ordered window is neither SHARED nor DEV_DMA. -/
def windowKindsOk (t : Tables) : Bool :=
  let inHbm := fun x => t.backings.any (fun b => b.2.typ == 0 && b.2.holds x)
  t.windows.all (fun w =>
    (!w.2.tick || (!w.2.shared && !w.2.devDma))
      && (!w.2.mirror || (t.run w.2).all (fun o => match o with | some e => e.names.all inHbm | none => true)))

/-- R581: PERIOD and COMMIT_PCT. R239: a contributor number has 12 bits. -/
def tickCtlOk (t : Tables) : Bool :=
  t.contribs.all (fun e => decide (e.1 < 4096) || !bitAt (e.2.getD 0 0#64) 63) &&
  decide (1000 ≤ fld t.tickCtl 47 24) && decide (fld t.tickCtl 47 24 ≤ 10000000) && decide (1 ≤ fld t.tickCtl 55 48)
    && decide (fld t.tickCtl 55 48 ≤ 50)

/-! ## Contributors and budgets, R230, R231, R239 -/

/-- The contributors that the section names, and the hosts that own a tick-ordered window and have no number there. -/
def contribNames (t : Tables) : Tbl (Bool × Nat × Nat) :=
  let named := t.contribs.filterMap (fun e =>
    let a := e.2.getD 0 0#64
    if bitAt a 63 then some (e.1, (bitAt a 62, fld a 55 50, fld a 47 32)) else none)
  (List.range 64).foldl (fun l h =>
    if t.windows.any (fun w => w.2.tick && w.2.host == h) && !named.any (fun e => !e.2.1 && e.2.2.1 == h) && (tget l h).isNone
    then tset l h (false, h, 0) else l) named

/-- Records of a commit in the share of the period, times 10,000: (PERIOD_µs × COMMIT_PCT ÷ 100 − 0.5) × 4,096; it may be negative. -/
def commitRoom (t : Tables) : Int := ((fld t.tickCtl 47 24 * fld t.tickCtl 55 48 : Nat) - 5000) * 4096

/-- R230: the default budget. -/
def defaultBudget (t : Tables) : Nat := (commitRoom t).toNat / (20000 * (contribNames t).length)

/-- The contributors with their budgets. -/
def contribsOf (t : Tables) : Tbl Contrib :=
  (contribNames t).map (fun e =>
    (e.1, { engine := e.2.1, host := e.2.2.1, budget := if e.2.2.2 = 0 then min 65535 (defaultBudget t) else e.2.2.2 }))

/-- R230: the default budget, where one is taken, is at least 1. -/
def defaultOk (t : Tables) : Bool := (contribNames t).all (fun e => decide (e.2.2.2 ≠ 0)) || decide (1 ≤ defaultBudget t)

/-- The sum of the budgets. -/
def budgetsOf (t : Tables) : Nat := ((contribsOf t).map (fun e => e.2.budget)).sum

/-- R231: the commit at its worst case fits its share of the period. -/
def budgetsOk (t : Tables) : Bool := decide (((20000 * budgetsOf t : Nat) : Int) ≤ commitRoom t)

/-- R232: the tally holds slot 1, the line words and the staging banks. -/
def tallyOk (t : Tables) : Bool :=
  decide (tallyBytes t (budgetsOf t) ≤ t.tallyMib * 2 ^ 20)

/-! ## Check 11: admission, R275-R277 -/

/-- Lanes times rate of a port as configured: its width, its highest rate. -/
def configuredSpeed (p : PortEnt) : Nat := p.lanes * rate10 (min (fld p.cfg 23 21) p.rateCap)

/-- What admission takes of a host's ports: their chiplets' pipelines and their speed. At LOAD no link is up: the ports as
configured; later those that are up. -/
def admitPorts (s : State) (atLoad : Bool) (t : Tables) (h : Nat) : List Nat × Nat :=
  let ps := t.portEnts.filter (fun p => p.role == 1 && p.owner == h)
  if atLoad then (ps.map PortEnt.num, (ps.map configuredSpeed).sum)
  else
    let up := (ps.map PortEnt.num).filter s.linkIsUp
    (up, (up.map (portSpeed s)).sum)

/-- R275-R277: the ring slots, the HBM sum and the ports' capacity letIn every contract at LINES. -/
def admissionOk (s : State) (atLoad : Bool) (t : Tables) : Bool :=
  let cs := contractsOf t
  let s' := ({ s with tabs := t, tick.contribs := contribsOf t }.wr Reg.tickCtl t.tickCtl)
  let s' := t.patch.foldl (fun s w =>
    let off := fld (w.getD 0 0#64) 31 0
    if off = Reg.homeCtl ∨ off = Reg.xlateCtl then
      s.wr off ((s.rd off &&& ~~~(w.getD 2 0#64)) ||| (w.getD 1 0#64 &&& w.getD 2 0#64)) else s) s'
  let hbm := (cs.map (fun k => k.lines * lineCharge t.pair.isSome k * framesPerSecond)).sum + fixedCharges s' * 10 ^ 9
  decide (hbm ≤ hbmCapacity s')
    && cs.all (fun k => (admitPorts s atLoad t k.host).2 == 0 || decide (k.lines ≤ portLines (admitPorts s atLoad t k.host).2))
    && slotsOk (placeSlots (cs.map (fun k => (k.host, k.lines, pipesOf (admitPorts s atLoad t k.host).1))))

/-! ## The checks in order -/

/-- The section table index of a type; 0xFF where the image has none. -/
def sectIdx (img : RawImage) (typ : Nat) : Nat := ((sectOf img typ).map (·.1)).getD 0xFF

/-- The first section of the section table among some types (R232). -/
def firstOf (img : RawImage) (typs : List Nat) : Nat :=
  ((List.range (sectCount img)).find? (fun i => typs.contains (sectAt img i).typ)).getD 0xFF

/-- The section of the first of some types that the image has; 0xFF where it has none. -/
def sectFirst (img : RawImage) (typs : List Nat) : Nat :=
  ((typs.map (sectIdx img)).find? (fun i => decide (i ≠ 0xFF))).getD 0xFF

/-- The first of a list of checks that fails: its cause and section. -/
def firstFail : List (Bool × Nat × Nat) → Option (Nat × Nat)
  | [] => none
  | (ok, c, i) :: r => if ok then firstFail r else some (c, i)

/-- Checks 9 to 11 of a flash image: cause and section entry index (assumption 36 gives the order within a check). -/
def loadChecks (s : State) (img : RawImage) : Option (Nat × Nat) :=
  let t := laidOver img noTables
  let ix := sectIdx img
  match contentBad t true img with
  | some i => some (9, i)
  | none => firstFail
    [(regionsOk t, 10, ix 0x01), (portLimitsOk t, 10, ix 0x02), (intRangesOk t, 10, ix 0x02),
     (backingLimitsOk t (hbmExtents t), 10, ix 0x03), (windowLimitsOk t, 10, ix 0x04), (windowKindsOk t, 10, ix 0x04),
     (extentLimitsOk t, 10, sectFirst img [0x05, 0x04]),
     (queueLimitsOk t, 10, ix 0x07), (versionLimitsOk (t.versions.map versionKey), 10, ix 0x08), (tickCtlOk t, 10, ix 0x09),
     (pairLimitsOk t, 10, ix 0x0A), (defaultOk t, 11, ix 0x09), (budgetsOk t, 11, ix 0x09), (tallyOk t, 11, ix 0x01),
     (admissionOk s true t, 11, ix 0x06)]

/-! ## Shadow sets -/

/-- A port's role, width, first lane, owning host and PBR ID (R64). -/
def portFixed (p : PortEnt) : Nat × Nat × Nat × Nat × Bool × Nat := (p.num, p.role, p.width, p.owner, p.owned, p.pbr)

/-- R64: no such change to a port whose ENABLE is 1, and none of its lanes given to another. -/
def portChangeOk (s : State) (t : Tables) : Bool :=
  s.tabs.portEnts.all (fun p =>
    !s.portEnabled p.num || t.portEnts.any (fun q => decide (portFixed q = portFixed p))) &&
  t.portEnts.all (fun q =>
    s.tabs.portEnts.any (fun p => decide (portFixed q = portFixed p)) ||
      !s.tabs.portEnts.any (fun p => s.portEnabled p.num && overlap (p.num, p.lanes) (q.num, q.lanes)))

/-- Is a queue without cells, and without an open item of its producers? -/
def queueEmpty (s : State) (q : Nat) : Bool :=
  (s.queue q).lists.all (fun l => l.2.items.isEmpty) && !(s.qu.opens.any (fun e => ((pcfg? s e.1).map (fun c => c.queue == q)).getD false))

/-- The consumer binding of a record. -/
def bindingOf (c : QCfg) : Bool × Nat × Nat × Nat × Bool × Nat := (c.job, c.consHost, c.page, c.clusters, c.mirror, c.home)

/-- R281: a queue that a shadow set removes or rebinds holds no cells and no open item. -/
def queueChangeOk (s : State) (t : Tables) : Bool :=
  (s.tabs.queues.filter (fun e => decide (e.1 < s.tabs.qCount))).all (fun e =>
    let old := qcfgOf e.2
    let new := if e.1 < t.qCount then (tget t.queues e.1).map qcfgOf else none
    !old.valid || (match new with | some c => c.valid && decide (bindingOf c = bindingOf old) | none => false) || queueEmpty s e.1)

/-- R94: the migrations that a shadow set starts. -/
def migrationsOk (s : State) (t : Tables) : Bool :=
  (t.extents.filter (fun e => decide (e.2.st = .migrating) && !sameMig (ownChanges s s.tabs) e.1 e.2)).all (fun e =>
    (match tget t.windows e.2.window with | some w => !w.shared && !w.tick | none => true)
      && extentFree s e.2.newPool
      && ((namedExtents t).filter (· == e.2.newPool)).length == 1
      && ((namedExtents t).filter (· == e.2.pool)).length == 1)

/-- R512: the slots whose place, PORT or limits a shadow set changes are EMPTY or OFF. -/
def slotChangeOk (s : State) (t : Tables) : Bool :=
  s.chain.slots.all (fun e =>
    e.2.state == .empty || e.2.state == .off ||
      (decide (e.1 < t.nSlots) &&
        (match tget t.slots e.1 with
        | some w => fld (w.getD 0 0#64) 60 60 == fld e.2.cfg 60 60 && fld (w.getD 0 0#64) 56 48 == fld e.2.cfg 56 48
            && w.getD 1 0#64 == e.2.limits && bitAt (w.getD 0 0#64) 63 == bitAt e.2.cfg 63
        | none => false)))

/-- The tables as they will stand at the target boundary: the device's own changes, then the set (R431 step 2). -/
def shadowTables (s : State) (img : RawImage) : Tables := laidOver img (ownChanges s s.tabs)

/-- Checks 10 and 11 of a shadow set. Admission is checked last; its failure is R274's. -/
def shadowLimits (s : State) (img : RawImage) (t : Tables) : Option (Nat × Nat) :=
  let ix := sectIdx img
  firstFail
    [(portLimitsOk t && portChangeOk s t, 10, ix 0x02), (intRangesOk t, 10, firstOf img [0x02, 0x04]),
     (backingLimitsOk t (hbmExtents t), 10, ix 0x03), (windowLimitsOk t, 10, firstOf img [0x04, 0x05, 0x03]),
     (windowKindsOk t, 10, firstOf img [0x04, 0x05, 0x03]), (extentLimitsOk t, 10, sectFirst img [0x05, 0x04, 0x03]),
     (migrationsOk s t, 10, ix 0x05),
     (queueLimitsOk t && queueChangeOk s t, 10, ix 0x07), (tickCtlOk t, 10, ix 0x09), (pairLimitsOk t, 10, ix 0x0A),
     (slotChangeOk s t, 10, ix 0x0B), (defaultOk t, 11, firstOf img [0x09, 0x04]), (budgetsOk t, 11, firstOf img [0x09, 0x04]),
     (tallyOk t, 11, firstOf img [0x09, 0x04, 0x05]), (admissionOk s false t, 11, firstOf img [0x06, 0x09, 0x04])]

/-- Checks 2 to 8 of a shadow set or an exchange image in the buffer. `sign`: checks 4 and 8 are made; `keys`: the slots that may
sign. `ban`: section types that check 5 refuses. -/
def bufferChecks (keys : List KeySlot) (mask : Nat) (sign patch : Bool) (ban : List Nat) (img : RawImage) : Option (Nat × Nat) :=
  if decide (imageLen img < 4160) || decide (67108864 < imageLen img) then some (3, 0xFF)
  else if !magicOk img then some (2, 0xFF)
  else if !formatOkSet img then some (3, 0xFF)
  else if sign && !(decide (imgNat img 0xC 4 < 4) && mask.testBit (imgNat img 0xC 4) && keyOk keys img) then some (4, 0xFF)
  else if !tableOk patch [] ban img then some (5, 0xFF)
  else match crcBad img with
    | some i => some (6, i)
    | none =>
      if !digestOk img then some (7, 0xFF)
      else if sign && !signatureOk img then some (8, 0xFF) else none

/-- R431 step 2: checks 2 to 11 of a shadow set. -/
def shadowChecks (s : State) (img : RawImage) : Option (Nat × Nat) :=
  match bufferChecks s.alm.keys (fld s.tabs.security 7 4) (bitAt s.tabs.security 0) true [0x01, 0x08, 0x0C, 0x0D, 0x10] img with
  | some e => some e
  | none =>
    let t := shadowTables s img
    match contentBad t true img with
    | some i => some (9, i)
    | none => shadowLimits s img t

/-! ## Exchange images, R387, R439, R440 -/

/-- The versions that stay or come with an exchange: what R357 checks of each. -/
def exchangeKeys (s : State) (ds : List VDesc) : List (Nat × Nat × Nat × Nat × Nat) :=
  s.tabs.versions.map versionKey ++
    (ds.filter (fun d => decide (d.len ≠ 0))).map (fun d => (d.program, d.version, d.len, d.entry, d.evec))

/-- Is a version resident? -/
def resident (s : State) (p v : Nat) : Bool := s.tabs.versions.any (fun x => x.program == p && x.version == v)

/-- R387, R440: an exchange's descriptors. -/
def exchangeOk (s : State) (ds : List VDesc) : Bool :=
  versionLimitsOk (exchangeKeys s ds)
    && ds.all (fun d =>
      if d.len = 0 then
        resident s d.program d.version &&
          (d.flags == 1 ||
            (d.flags == 2 && s.tabs.versions.any (fun x => x.program == d.program && x.version == d.version && x.current)))
      else decide (d.flags ≤ 1) && !resident s d.program d.version)
    && ds.all (fun d => decide ((ds.filter (fun e => e.program == d.program && e.flags % 2 == 1)).length ≤ 1))

/-- R439: checks 2 to 10 of an exchange image, the signature always required. -/
def swapChecks (s : State) (img : RawImage) : Option (Nat × Nat) :=
  let ban := [0x01, 0x02, 0x03, 0x04, 0x05, 0x06, 0x07, 0x09, 0x0A, 0x0B, 0x0C, 0x0D, 0x0E, 0x0F]
  match bufferChecks s.alm.keys (fld s.tabs.security 7 4) true false ban img with
  | some e => some e
  | none =>
    match contentBad s.tabs false img with
    | some i => some (9, i)
    | none =>
      match sectOf img 0x08 with
      | none => none
      | some (i, x) => if preNat img x 8 4 = 0 && exchangeOk s (vdescs img x) then none else some (10, i)

/-! ## The pair digest, R444 -/

/-- The words of a window entry, its generation apart (assumption 37). -/
def winWords (w : Win) : List Word :=
  [ mkFld 63 63 1 ||| mkFld 51 28 w.hbase ||| mkFld 13 8 w.host ||| mkFld 0 0 (b2n w.rw),
    mkFld 43 24 w.extCount ||| mkFld 18 0 w.extFirst,
    mkFld 24 24 (b2n w.dynamic) ||| mkFld 23 20 w.iw ||| mkFld 19 16 w.ig ||| mkFld 15 15 (b2n w.tick) ||| mkFld 14 14 (b2n w.shared)
      ||| mkFld 13 13 (b2n w.mirror) ||| mkFld 12 12 w.home ||| mkFld 11 11 (b2n w.devDma) ||| mkFld 10 10 (b2n w.engine)
      ||| mkFld 9 8 w.bswap ||| mkFld 2 0 w.dcRegion,
    mkFld 51 28 w.rbase ||| mkFld 5 0 w.tickId ]

/-- The words of an extent entry, its generation apart. -/
def extWords (e : Ext) : List Word :=
  [ mkFld 63 62 (match e.st with | .absent => 0 | .present => 1 | .migrating => 2) ||| mkFld 46 28 e.pool ||| mkFld 11 0 e.window,
    mkFld 46 28 e.newPool ]

/-- The QUEUES records of mirrored queues and of their producer bindings. -/
def mirroredQueues (t : Tables) : List Word :=
  let mir := fun (q : Nat) => decide (q < t.qCount) && ((tget t.queues q).map (fun w => (qcfgOf w).valid && (qcfgOf w).mirror)).getD false
  ((t.queues.filter (fun e => mir e.1 || (decide (t.qCount ≤ e.1) && (pcfgOf e.2).valid && mir (pcfgOf e.2).queue))).map (·.2)).flatten

/-- R444: the pair digest of a member's tables. -/
def pairDigest (t : Tables) : BitVec 384 :=
  let p := t.pair.getD []
  let ext := (t.extents.filter (fun e => ((tget t.windows e.2.window).map Win.mirror).getD false)).flatMap (fun e => extWords e.2)
  let ws := (t.windows.flatMap (fun e => winWords e.2)) ++ ext ++ mirroredQueues t ++ [t.tickCtl, t.bellCtl]
    ++ (t.contribs.map (·.2)).flatten
  Config.sha384 ((wordBytes (p.getD 1 0#64)).take 4 ++ wordBytes (p.getD 2 0#64) ++ ws.flatMap wordBytes
    ++ (wordBytes (BitVec.ofNat 64 t.granaryMib)).take 2 ++ (wordBytes (BitVec.ofNat 64 t.tallyMib)).take 2)

end Sys2Proof.Machine
end

