-- ==== Sys2Proof/Machine/Boundary.lean ====
section
/-! DEFINITION. The tick boundary: the tables that a LOAD or a shadow set puts in place, the translation switch, the shadow set, the
handover, the boundary itself and what a publish lets go on (R88, R206-R208, R229, R244, R431-R438, R448, R449). -/
namespace Sys2Proof.Machine

/-! ## Putting an image's sections in place, R423, R431, R432, R580 -/

/-- Put every register of some offsets back to its reset value. -/
def clearRegs (lo hi : Nat) (s : State) : State :=
  { s with regs := tfilter (fun o _ => !(decide (lo ≤ o) && decide (o < hi))) s.regs }

/-- A port that is no longer in PORTS, or is one with another role, width, lane, owner or PBR ID, is gone. -/
def dropPort (s : State) (p : PortEnt) : State :=
  let s := clearRegs (Reg.portPage p.num) (Reg.portPage p.num + 0x1000) s
  let s := { s with
    links := terase s.links p.num, bridge.legs := terase s.bridge.legs p.num,
    bridge.ctxs := s.bridge.ctxs.filter (fun c => c.port != p.num) }
  if p.role = 3 then
    let i := p.legacyIndex
    clearRegs (Reg.bxePage i) (Reg.bxePage i + 0x100) (clearRegs (Reg.legPage i) (Reg.legPage i + 0x100) s)
  else s

/-- A port entry is put in place: a new port is enabled, with MARGIN_EN 1 (PORT_CTL); a kept one takes the entry's settings. A
legacy port has its virtual bridge's state, and the context of its requester-0 stream (R103). -/
def placePort (s : State) (p : PortEnt) : State :=
  let n := p.num
  let s := ((s.wr (Reg.portCfg n) p.cfg).wr (Reg.portId n) p.id).wr (Reg.eqCtl n) p.eq
  if (s.link? n).isSome then s.wf (Reg.portCtl n) 11 9 p.rateCap
  else
    let s := { s.wr (Reg.portCtl n) (mkFld 11 9 p.rateCap ||| mkFld 3 3 1 ||| mkFld 0 0 1) with links := tset s.links n newLink }
    if p.role = 3 then
      { s with bridge.legs := tset s.bridge.legs n newLeg,
               bridge.ctxs := s.bridge.ctxs ++ [{ port := n, stream := 0, hostLink := none }] }
    else s

/-- PORTS: the ports, and the interrupt ranges of its host entries. `given`: the entries that the image carries. -/
def installPorts (old : Tables) (given : List (List Word)) (s : State) : State :=
  let t := s.tabs
  let gone := old.portEnts.filter (fun p => !t.portEnts.any (fun q => decide (portFixed q = portFixed p)))
  let s := gone.foldl dropPort s
  let s := ((given.filter isPortEnt).map portEntOf).foldl placePort s
  let s := (List.range 64).foldl (fun s h =>
    match t.hostEnts.find? (fun e => e.1 == h) with
    | some e => (s.wr (Reg.intBase h) e.2.1).wr (Reg.intLimit h) e.2.2
    | none => (s.wr (Reg.intBase h) 0#64).wr (Reg.intLimit h) 0#64) s
  capacityChanged s

/-- CONTRACTS: the budgets of its hosts; a host without a contract has the defaults of HOST_ARB. -/
def installContracts (s : State) : State :=
  let es := s.tabs.contracts.filter (fun e => bitAt (e.2.getD 0 0#64) 63)
  capacityChanged ((List.range 64).foldl (fun s h =>
    match es.find? (fun e => fld (e.2.getD 2 0#64) 5 0 == h) with
    | some e => s.wr (Reg.hostArb h) (e.2.getD 1 0#64)
    | none => s.wr (Reg.hostArb h) (resetValue (Reg.hostArb h))) s)

/-- QUEUES: a producer record carries NEXT_SEQ and LAST_RESULT 0; a queue that is no longer configured keeps nothing. -/
def installQueues (given : List Nat) (s : State) : State :=
  let s := (given.filter (fun i => decide (s.tabs.qCount ≤ i))).foldl (fun s i => setProd (i - s.tabs.qCount) 0 0 s) s
  { s with qu.queues := tfilter (fun q _ => (qcfg? s q).isSome) s.qu.queues }

/-- The contributors of the tables, and TICK_CTL with the number of them (R230). -/
def installContribs (s : State) : State :=
  let cs := contribsOf s.tabs
  { s with tick.contribs := cs }.wr Reg.tickCtl (setFld s.tabs.tickCtl 12 0 cs.length)

/-- The pool extents of the tick-ordered windows, each with its TICK_ID. -/
def tickExtents (t : Tables) : List (Nat × Nat) :=
  (t.windows.filter (fun e => e.2.tick)).flatMap (fun e => (t.run e.2).filterMap (fun o => o.map (fun x => (e.2.tickId, x.pool))))

/-- R223: the extents of a window that becomes tick-ordered, or that come under another TICK_ID, have every line word at
TICK_PUBLISHED, slot 0 their contents. -/
def installTickWindows (old : Tables) (s : State) : State :=
  let now := tickExtents s.tabs
  let before := tickExtents old
  let fresh := ((now.filter (fun e => !before.contains e)).map (·.2)).eraseDups
  { s with
    tick.tags := tfilter (fun l _ => !fresh.contains (l / 2 ^ 22)) s.tick.tags,
    tick.baseTag := fresh.foldl (fun b x => tset b x s.tick.published)
      (tfilter (fun x _ => now.any (fun e => e.2 == x)) s.tick.baseTag) }

/-- PAIR: who the member and its partner are, and the twins of other pairs' members (R442, R470). -/
def installPair (s : State) : State :=
  match s.tabs.pair with
  | none => s
  | some p =>
    let m := fld (p.getD 1 0#64) 39 32
    let s := { s with
      pair.pairId := fld (p.getD 1 0#64) 31 0, pair.member := m, pair.pairSerial := p.getD 2 0#64,
      pair.twins := s.tabs.twins.map (fun e => (fld (e.2.getD 0 0#64) 11 0, fld (e.2.getD 0 0#64) 27 16)) }
    if s.pair.present then s
    else { s with pair.present := true, pair.state := .waiting, pair.holder := [0, 1], pair.missRun := 0, pair.lastBeat := s.now }

/-- R444: the digest is computed again at every switch that changes an input of it. -/
def renewDigest (s : State) : State := if s.pair.present then { s with pair.digest := pairDigest s.tabs } else s

/-- SLOTS: the program that the chain takes at its next frame (R512). -/
def slotProgram (t : Tables) : List (Word × Word) :=
  (List.range t.nSlots).map (fun i => let w := (tget t.slots i).getD []; (w.getD 0 0#64, w.getD 1 0#64))

/-- The sections of an image, laid over `old` to give the tables as they now stand, take effect together, REGISTER_PATCH last
(R423, R432). -/
def installSections (img : RawImage) (old : Tables) (s : State) : State :=
  let given := fun (typ : Nat) => ((sectOf img typ).map (fun e => entriesOf img e.2)).getD []
  let has := fun (typ : Nat) => (sectOf img typ).isSome
  let s := if has 0x02 then installPorts old ((given 0x02).map (·.2)) s else s
  let s := if has 0x06 then installContracts s else s
  let s := if has 0x07 then installQueues ((given 0x07).map (·.1)) s else s
  let s := if has 0x09 then s.wr Reg.bellCtl s.tabs.bellCtl else s
  let s := installTickWindows old (installContribs s)
  let s := if has 0x0A then installPair s else s
  let s := if has 0x0B then { s with chain.newProgram := some (slotProgram s.tabs) } else s
  let s := if has 0x0F then
      ((s.wb Reg.countCtl 1 s.tabs.snapEn).wr Reg.counterAccess s.tabs.counterAccess).wr Reg.engineCntAccess s.tabs.engineAccess
    else s
  let s := renewDigest s
  s.tabs.patch.foldl (fun s w => patchWrite (fld (w.getD 0 0#64) 31 0) (w.getD 1 0#64) (w.getD 2 0#64) s) s

/-! ## The translation switch and the shadow set, R88, R431, R433, R449 -/

/-- A switch to new tables, counted when it is one. -/
def switchTo (new : Tables) (s : State) : State :=
  let s := if tablesChanged s.tabs new then s.count 0x1028 48 1 else s
  applySwitch new s

/-- A switch that R88 defers to the next boundary. -/
def deferSwitch (s : State) : State := s.xlateEvent 4 0

/-- The device's own changes that are due at the boundary. -/
def ownSwitch (s : State) : State :=
  let t := ownChanges s s.tabs
  if tablesChanged s.tabs t && switchBlocked s then deferSwitch s else renewDigest (ownDone s (switchTo t s))

/-- The shadow set is refused: its cause and section, the event, the record; where admission failed, R274's as well. -/
def refuseShadow (cause sect : Nat) (adm : Bool) (s : State) : State :=
  let s := ((s.wf Reg.shadowStatus 2 0 4).wf Reg.shadowStatus 11 8 cause).wf Reg.shadowStatus 7 4 sect
  let s := almRecord 0x91 .corrected cause sect 0xFF ({ s with alm.armed := none }.setEvent Reg.almEvents 2)
  if adm then (s.setEvent Reg.arbEvents 2).raise 0x53 .corrected .ring 0 (raInfo 0xFF 0xFF 0xFF) else s

/-- Is the failure of check 11 that of the sums of R275 to R277? -/
def admissionFails (t : Tables) (e : Nat × Nat) : Bool := e.1 == 11 && defaultOk t && budgetsOk t && tallyOk t

/-- R433: a limit that an armed set would break at its boundary. A fall in capacity since then breaks none. -/
def shadowConflict (s : State) (img : RawImage) (t : Tables) : Option Nat :=
  match shadowLimits s img t with
  | some e => if admissionFails t e then none else some e.2
  | none => none

/-- R449: a set that changes the pair digest needs the partner's set with the same target and digest. -/
def partnerAgrees (s : State) (t : Tables) : Bool :=
  !mirrorOn s || decide (pairDigest t = pairDigest s.tabs)
    || decide (s.pair.partnerSet = some ((s.rd Reg.shadowTarget).toNat, pairDigest t))

/-- The armed set takes effect (R431 step 4). -/
def applyShadow (img : RawImage) (t : Tables) (s : State) : State :=
  let old := s.tabs
  let s := installSections img old (ownDone s (switchTo t s))
  let s := ((s.wf Reg.shadowStatus 2 0 0).wf Reg.shadowStatus 63 32 s.tick.num)
  { s with alm.armed := none }.setEvent Reg.almEvents 1

/-- The boundary's translation switch: the device's own changes, and the armed set where this boundary is its own. -/
def boundarySwitch (s : State) : State :=
  let target := (s.rd Reg.shadowTarget).toNat
  match s.alm.armed with
  | some img =>
    if target = 0 ∨ target ≤ s.tick.num then
      let t := shadowTables s img
      if tablesChanged s.tabs t && switchBlocked s then deferSwitch s
      else if !partnerAgrees s t then ownSwitch (refuseShadow 0xC 0xFF false s)
      else match shadowConflict s img t with
        | some sect => ownSwitch (refuseShadow 0xC sect false s)
        | none => applyShadow img t s
    else ownSwitch s
  | none => ownSwitch s

/-! ## The handover, R437, R438 -/

/-- Function 1 to hardware: every open fill window closes and the walker installs (assumption 38). An entry that this boundary
changed is walked again, as R83 has it. -/
def fillsToHardware (s : State) : State :=
  s.xl.fills.foldl (fun s f =>
    if ((slotEntry s f.win f.slot).map Ext.gen).getD 0 = f.gen then resumeAll f.waiters (cacheInstall f.die f.win f.slot s)
    else beginWalk f.die f.win f.slot f.waiters s)
    { s with xl.fills := [] }

/-- Function 2 to hardware: releases whose timeouts were posted, or wait to be, are forced at once. -/
def releasesToHardware (s : State) : State :=
  (s.xl.dcRel.filter (fun r => r.post.isSome || r.waits)).foldl (fun s r => dcGo r.win r.slot (s.xlateEvent 7 0)) s

/-- Function 3 to hardware: a partner with EVT_PENDING is collected. -/
def eventsToHardware (s : State) : State :=
  (s.portsOf 3).foldl (fun s p =>
    if s.rb (Reg.bxeEvents (legIndex s p)) 6 then s.modLeg p (fun l => { l with evtAt := some (l.evtAt.getD s.now) }) else s) s

/-- Function 6 to hardware: the hardware's victims. -/
def evictsToHardware (s : State) : State := s.home.evicts.foldl (fun s e => evictWith e (hwVictim s e.set e.why) s) s

/-- Function 8 to hardware: each job runs on the engine that is held for it. -/
def dispatchToHardware (s : State) : State :=
  s.mill.windows.foldl (fun s w => startJob w.eng s) { s with mill.windows := [] }

/-- Function 9 to hardware: the hardware's presets. -/
def presetsToHardware (s : State) : State :=
  s.portList.foldl (fun s p => if ((s.link? p).bind Link.eqUntil).isSome then settleLost p (eqFallback false p s) else s) s

/-- R438, R460, R489, R525: what a switch to hardware mode does with the open items of its function. -/
def toHardware (f : Nat) (s : State) : State :=
  match f with
  | 1 => fillsToHardware s
  | 2 => releasesToHardware s
  | 3 => eventsToHardware s
  | 4 => slotsToHardware s
  | 5 => escToHardware s
  | 6 => evictsToHardware s
  | 8 => dispatchToHardware s
  | 9 => presetsToHardware s
  | 10 => match s.pair.tkOpen with
    | some (_, mask) => takeoverDecide true mask s
    | none => s
  | _ => s

/-- R437 step 3: the pending handover switches at the boundary. -/
def handoverSwitch (s : State) : State :=
  match s.alm.splitPending with
  | none => s
  | some (f, on) =>
    let s := { (s.wb Reg.splitReq 63 false) with alm.splitPending := none }
    let s := (s.wb Reg.splitStatus (f - 1) on).wb Reg.splitStatus 16 false
    let s := (s.wf Reg.splitStatus 25 24 1).wf Reg.splitStatus 63 32 s.tick.num
    let s := almRecord 0x94 .corrected 0 0xFF f (s.setEvent Reg.almEvents 6)
    if on then s else toHardware f s

/-! ## The boundary, R206-R208, R229, R244, R448 -/

/-- R448: the member with the lower count takes the other's in place of the steps of R206; both then take this boundary. -/
def adoptCounts (s : State) : State :=
  match s.pair.takeTick with
  | some (n, _) => { s with tick.num := n, tick.published := n - 1, pair.takeTick := none }
  | none => s

/-- A boundary at this time: the snapshot, the bank switch and the start of the commit, the translation switch with the shadow set,
the handover; member 0 of a pair tells member 1 its instant on the partner's DTB (R453). -/
def takeBoundary (s : State) : State :=
  let s := adoptCounts s
  let s := closeTick (takeSnapshot (s.tick.num + 1) s)
  let s := boundarySwitch s
  let s := { s with tick.nextNominal := s.now + tickPeriod s, tick.bellCtl := s.rd Reg.bellCtl, pair.partnerSet := none }
  let s := noteAbsences (handoverSwitch s)
  let s := if mirrorOn s && s.pair.member == 0 then s.emit (.twinBoundary ((s.now : Int) + s.pair.dtbOffset).toNat) else s
  letIn (retryVictims s)

/-- A boundary has come due: with the commit before it still running it waits for the publish (R229). -/
def boundaryDueNow (s : State) : State :=
  if !s.tick.committing then takeBoundary s else if s.alm.drainBoundary then s else deferCommit s

/-- R244: a boundary that falls before the end of a takeover's retry period is deferred. -/
def deferTakeover (s : State) : State :=
  if s.tick.defer = .takeover then s
  else { s with tick.defer := .takeover, tick.openAcct.takeover := true }.setEvent Reg.tickEvents 7

/-- Does a takeover defer a boundary that falls at `t`? -/
def takeoverDefers (s : State) (t : Nat) : Bool :=
  decide (s.pair.tkSets ≠ 0) && (match s.pair.tkUntil with | some u => decide (t < u) | none => true)

/-- The instant at which the next boundary is taken: the end of the retry period for one that is deferred to it. -/
def boundaryAt (s : State) : Nat :=
  match s.tick.defer, s.pair.tkUntil with
  | .takeover, some u => u
  | _, _ => (boundaryDue s).1

/-- TICK_BOUNDARY: the next boundary instant is reached (R207). `partner`: what the partner reports of its armed set. -/
def tickBoundary (partner : Option (Nat × BitVec 384)) (s : State) : State :=
  if !s.tick.running || followsPartner s || decide (s.tick.defer = .commit) then s
  else
    let s := { s with pair.partnerSet := partner }
    let t := boundaryAt s
    if takeoverDefers s t then
      if s.tick.defer = .takeover then s
      else
        let s := deferTakeover (s.reach t)
        if (boundaryDue s).2 then bellMissed s else s
    else
      let missed := (boundaryDue s).2 && decide (s.tick.defer = .none)
      let s := s.reach t
      boundaryDueNow (if missed then bellMissed s else s)

/-- R208: TICK_BOUNDARY (assumptions 41, 42). -/
def execTickBoundary (partner : Option (Nat × BitVec 384)) (s : State) : Host.Outcome State Fault Refusal :=
  .next (whenCarries (tickBoundary partner) s)

/-- BOUNDARY_MESSAGE (R448): member 1 takes its boundary when member 0's message arrives. -/
def boundaryMessage (instant : Nat) (partner : Option (Nat × BitVec 384)) (s : State) : State :=
  if !s.tick.running || !followsPartner s then s
  else boundaryDueNow { s.reach instant with pair.partnerSet := partner }

/-- R448: BOUNDARY_MESSAGE. -/
def execBoundaryMessage (instant : Nat) (partner : Option (Nat × BitVec 384)) (s : State) : Host.Outcome State Fault Refusal :=
  .next (whenCarries (boundaryMessage instant partner) s)

/-- R422 step 3: DRAIN takes a boundary at once, or in the cycle after the publish that is awaited. -/
def drainTakes (s : State) : State :=
  if !s.tick.running then s
  else if s.tick.committing then { s with alm.drainBoundary := true }
  else if takeoverDefers s s.now then deferTakeover s
  else takeBoundary { s with alm.drainBoundary := false }

/-- What a publish lets go on: a dissolution, a boundary that waited for it, and in DRAIN the moves of the sets (R229, R422, R467,
R468). -/
def afterPublish (s : State) : State :=
  let s := pairAfterPublish s
  if s.alm.drainBoundary then drainTakes { s with alm.drainBoundary := false }
  else if s.tick.defer = .commit then
    (if takeoverDefers s s.now then deferTakeover { s with tick.defer := .none } else takeBoundary s)
  else pumpAll (drainMove s)

/-- TICK_PUBLISH. -/
def publishTick (errs : List (Nat × TickErr)) (s : State) : State :=
  let s' := tickCommitDone errs s
  if s'.tick.published = s.tick.published then s' else afterPublish s'

/-- R226: TICK_PUBLISH. -/
def execTickPublish (errs : List (Nat × TickErr)) (s : State) : Host.Outcome State Fault Refusal :=
  .next (whenCarries (publishTick errs) s)

end Sys2Proof.Machine
end

