-- ==== Sys2Proof/Machine/Reset.lean ====
section
/-! DEFINITION. Resets of the core partition, the entry to LOAD and the entry to DRAIN (R407, R414, R415, R419, R422, R423, R499,
R501, R502, R555). -/
namespace Sys2Proof.Machine

/-! ## The core partition is reset, R407, R419, R435, R497 -/

/-- R555: RESET_CAUSE in the cycle in which a reset of the core partition starts: the lowest of its causes, each cause's HISTORY
bit, and the count. -/
def noteReset (causes : List Nat) (s : State) : State :=
  let s := s.wf Reg.resetCause 7 0 (causes.foldl min 7)
  let s := causes.foldl (fun s c => s.wb Reg.resetCause (15 + c) true) s
  s.wf Reg.resetCause 47 32 (satAdd 16 (s.rf Reg.resetCause 47 32) 1)

/-- The registers that D0 holds. -/
def aonRegs (t : Tbl Word) : Tbl Word := tfilter (fun o _ => ((regAt o).map RegDef.aon).getD false) t

/-- The clocks after a core reset: D0 alone runs; the master DTB goes on (R393, R407). -/
def clkReset (c : Clk) : Clk := { newClk with dtb := c.dtb, auxOsc := c.auxOsc, locked := c.locked &&& 1#18 }

/-- The slot chain in AUX, OFF and TEST: held low, a frame in progress lost, the slots and notices kept (R507). -/
def chainReset (c : Chain) : Chain :=
  { c with waitSince := none, shifting := false, applyNext := false, newProgram := none }

/-- Everything in D1 to D17 returns to its reset value. What D0 holds stays: its registers, the keys, the pins and the hold, the
slots, HALT_REC, the DTB (R393, R406, R430, R479, R501, R504, R557) (assumption 19). -/
def coreState (s : State) : State :=
  { State.reset with
    pending := s.pending, out := s.out, fresh := s.fresh, regs := aonRegs s.regs, clk := clkReset s.clk,
    alm := { newAlm with mode := s.alm.mode, entry := s.alm.entry, prev := s.alm.prev, keys := s.alm.keys },
    pwr := { s.pwr with haltOutN := true, step := .none }, chain := chainReset s.chain,
    ras := { newRas with haltRec := s.ras.haltRec }, pair := { newPair with aliveIn := s.pair.aliveIn },
    jtag := { s.jtag with bistBusy := none, keyBusy := none } }

/-- The core partition is reset for these causes, and the device enters a mode (assumption 20). -/
def coreReset (causes : List Nat) (m : Mode) (s : State) : State := setMode m (coreState (noteReset causes s))

/-! ## PWR_EN_OUT, R499-R504 -/

/-- PWR_EN_OUT is deasserted. -/
def pwrEnOff (s : State) : State :=
  if s.pwr.pwrEn then { s with pwr.pwrEn := false, pwr.pwrEnFell := some s.now, pwr.pgDeadline := none } else s

/-! ## The entry to LOAD, R414, R423, R430 -/

/-- May the device enter LOAD: from AUX, with PWR_EN_OUT and PWR_GOOD_IN asserted and no reset, hold or off request (R26, R414,
R499, R501, R503)? -/
def mayLoad (s : State) : Bool :=
  decide (s.mode = .aux) && s.pwr.auxGood && s.pwr.pwrEn && s.pwr.pwrGood && !s.pwr.sysRst && s.pwr.holdCause == 0
    && decide (s.pwr.offPending = .none)

/-- R423 step 1, R430: LOAD starts to read the image that NEXT_IMAGE names; ALM_STATUS is cleared; D1 and the stewards start
(assumption 20). -/
def enterLoad (s : State) : State :=
  let s := setMode .load { s with regs := aonRegs s.regs }
  let wd := s.now + s.rf Reg.rasCtl 23 16 * 1000000
  { s.wr Reg.almStatus 0#64 with
    alm.load := .reading (s.rb Reg.almCtl 0) false, alm.image := [], alm.hbmTrained := false,
    clk.running := s.clk.running ||| 2#18, clk.locked := s.clk.locked ||| 0x3C03F#18,
    clk.followers := tset s.clk.followers 1 { loaded := false, lag16 := 0, since := 0, rate := .nominal },
    ras.wdog := [(0, wd), (1, wd), (2, wd), (3, wd)],
    chain.frames := 0, pwr.step := .u3 }

/-- LOAD is entered where it may be. With OFF_REQ_N asserted step U2 ends in its reversal (R503) (assumption 20). -/
def tryLoad (s : State) : State :=
  if !mayLoad s then s
  else if s.pwr.offReq then coreState (noteReset [5] (pwrEnOff s))
  else enterLoad s

/-! ## DRAIN, R415, R422, R502 -/

/-- An exchange whose checks run when DRAIN starts is refused (R415): its image goes. -/
def refuseSwap (cause sect : Nat) (s : State) : State :=
  let s := ((s.wf Reg.swapStatus 2 0 5).wf Reg.swapStatus 11 8 cause).wf Reg.swapStatus 15 12 sect
  almRecord 0x92 .corrected cause sect 0xFF (s.setEvent Reg.almEvents 4)

/-- DRAIN starts: its boundary is taken at once (R422 steps 1 to 4). -/
def drainStart (byGo : Bool) (s : State) : State :=
  let s := setMode .drain s
  let s : State := { s.wb Reg.pwrCtl 0 false with alm.drainPending := false, alm.drainByGo := byGo }
  let s := if s.alm.swap = .checking then refuseSwap 0 0xFF { s.wf Reg.shadowStatus 2 0 0 with alm.swap := .idle } else s
  drainMove (drainTakes s)

/-- A DRAIN request that waited for TAKEOVER or SWAP to end (R415). -/
def drainIfPending (s : State) : State :=
  if s.alm.drainPending && s.mode.steady then drainStart s.alm.drainByGo s else s

/-- An off request in a mode of service: DRAIN now, or after TAKEOVER or SWAP (R415, R502). -/
def requestDrain (byGo : Bool) (s : State) : State :=
  if s.mode.steady then drainStart byGo s
  else if s.alm.drainPending then s
  else { s with alm.drainPending := true, alm.drainByGo := byGo }

/-- TAKEOVER_END, with a DRAIN request that waited for it (R415, R461). -/
def takeoverEnds (s : State) : State := drainIfPending (takeoverEnd s)

/-- R461: TAKEOVER_END. -/
def execTakeoverEnd (s : State) : Host.Outcome State Fault Refusal := .next (whenCarries takeoverEnds s)

/-- Does a request still hold a tracker, or wait for one? -/
def trackersHeld (s : State) : Bool := !s.bridge.trks.isEmpty || !s.bridge.waiting.isEmpty

/-- Are DRAIN's steps done: trackers complete, the boundary's tick published, the sets handed over (R422 steps 2 to 4)? -/
def drainDone (s : State) : Bool :=
  !trackersHeld s && !s.tick.committing && !s.alm.drainBoundary && decide (s.tick.defer = .none)
    && s.pair.moveSet.isNone && !(List.range 2).any (mayMoveSet s)

/-- DRAIN_END (R422, R504): the steps are done, or 250 ms have passed, the time of a set's move not counted: PWR_EN_OUT falls, the
core partition is held in reset, the device enters OFF (assumption 20). -/
def drainEnd (s : State) : State :=
  if s.mode ≠ .drain then s
  else if !drainDone s && s.pair.moveSet.isSome then s
  else
    let s := if drainDone s then s else s.reach (s.alm.entry + 250000000)
    let byGo := s.alm.drainByGo
    let s := coreReset [4] .off (pwrEnOff s)
    if byGo then { s with pwr.holdCause := 1 } else s

/-- R422: DRAIN_END. -/
def execDrainEnd (s : State) : Host.Outcome State Fault Refusal := .next (drainEnd s)

end Sys2Proof.Machine
end

