-- ==== Sys2Proof/Machine/Almanac.lean ====
section
/-! DEFINITION. LOAD, TRAIN, shadow sets, handovers and exchanges (R414-R418, R423-R441). -/
namespace Sys2Proof.Machine

/-! ## LOAD, R423, R429, R430 -/

/-- ALM_STATUS takes the failing check of image A (false) or B (true). -/
def noteImage (img : Bool) (cause sect : Nat) (s : State) : State :=
  if img then (s.wf Reg.almStatus 35 32 cause).wf Reg.almStatus 55 48 sect
  else (s.wf Reg.almStatus 27 24 cause).wf Reg.almStatus 47 40 sect

/-- LOAD fails (R26, R423): the device returns to AUX with AUX_CAUSE `c` and is held off; an off request that waited for LOAD to
end reverses power-up with it (R503) (assumption 43). -/
def loadFails (c : Nat) (s : State) : State :=
  let s := (s.wf Reg.almStatus 17 16 c).wb Reg.almStatus 0 false
  let off := decide (s.pwr.offPending ≠ .none)
  let s := coreReset (if off then [5, 6] else [6]) .aux (pwrEnOff s)
  { s with pwr.holdCause := 2, pwr.offPending := .none }

/-- A check of an image fails: the other image is read, or LOAD fails with IMAGES (R430). -/
def imageFails (img second : Bool) (e : Nat × Nat) (s : State) : State :=
  let s := noteImage img e.1 e.2 s
  if second then loadFails 1 s else { s with alm.load := .reading (!img) true }

/-- IMAGE_READ_COMPLETE (R429, checks 1 to 8). -/
def imageRead (answers : Bool) (image : RawImage) (s : State) : State :=
  match s.mode, s.alm.load with
  | .load, .reading img second =>
    (match readChecks s.alm.keys answers image with
    | some e => imageFails img second e s
    | none => { s with alm.image := image, alm.load := .checking img second })
  | _, _ => s

/-- R429: IMAGE_READ_COMPLETE. -/
def execImageReadComplete (answers : Bool) (image : RawImage) (s : State) : Host.Outcome State Fault Refusal :=
  .next (imageRead answers image s)

/-- R430: the image is used; the record of a fallback carries what failed in the other one. -/
def imagePasses (img second : Bool) (s : State) : State :=
  let s := (s.wb Reg.almStatus 0 true).wb Reg.almStatus 1 img
  let s := { s with alm.load := .building img }
  if second then
    let cause := if img then s.rf Reg.almStatus 27 24 else s.rf Reg.almStatus 35 32
    let sect := if img then s.rf Reg.almStatus 47 40 else s.rf Reg.almStatus 55 48
    almRecord 0x90 .deferred cause sect 0xFF ((s.wb Reg.almStatus 2 true).setEvent Reg.almEvents 0)
  else s

/-- IMAGE_CHECK_COMPLETE (R429, checks 9 to 11). -/
def imageCheck (s : State) : State :=
  match s.mode, s.alm.load with
  | .load, .checking img second =>
    (match loadChecks s s.alm.image with
    | some e => imageFails img second e s
    | none => imagePasses img second s)
  | _, _ => s

/-- R430: IMAGE_CHECK_COMPLETE. -/
def execImageCheckComplete (s : State) : Host.Outcome State Fault Refusal := .next (imageCheck s)

/-- HBM_TRAINING_COMPLETE (R423). -/
def hbmTraining (ok : Bool) (s : State) : State :=
  if s.mode ≠ .load then s else if ok then { s with alm.hbmTrained := true } else loadFails 2 s

/-- R423: HBM_TRAINING_COMPLETE. -/
def execHbmTrainingComplete (ok : Bool) (s : State) : Host.Outcome State Fault Refusal := .next (hbmTraining ok s)

/-- R423 steps 2 to 4, R206, R256, R424, R436: HBM is cleared and carved, the tables are in place, the patch is applied, the tick
starts. -/
def buildTables (s : State) : State :=
  let img := s.alm.image
  let t := laidOver img noTables
  let s : State := { s with tabs := t, home := newHome, tick := { newTick with num := 1 } }
  let s := installSections img noTables s
  let s := { s with chain.newProgram := some (slotProgram t) }
  let s := (s.wf Reg.splitStatus 9 0 t.split).wf Reg.shadowStatus 31 16 (t.ttabMib - 9)
  let s := { s with
    alm.runFw := t.fwVersion, alm.load := .idle, clk.locked := s.clk.locked ||| 0x3FC0#18,
    tick.running := true, tick.lastBoundary := s.now, tick.nextNominal := s.now + tickPeriod s,
    tick.bellCtl := s.rd Reg.bellCtl, rings.frame := 0, cnt := newCnt }
  capacityChanged (noteAbsences s)

/-- LOAD_COMPLETE (R423, R424): the device enters TRAIN; an off request that waited ends power-up here (R503). -/
def loadComplete (s : State) : State :=
  match s.mode, s.alm.load with
  | .load, .building _ =>
    if !s.alm.hbmTrained then s
    else
      let s := buildTables s
      if s.pwr.offPending ≠ .none then { s with pwr.step := .none } else { setMode .train s with pwr.step := .u4 }
  | _, _ => s

/-- R423: LOAD_COMPLETE. -/
def execLoadComplete (s : State) : Host.Outcome State Fault Refusal := .next (loadComplete s)

/-! ## TRAIN, R417 -/

/-- Has each port of the PORTS section come up or failed? -/
def portsSettled (s : State) : Bool := s.portList.all (fun p => s.linkIsUp p || s.rb (Reg.linkEvents p) 3)

/-- TRAIN_END (R417): every port is up or has failed, or 1,300 ms have passed. -/
def trainEnd (s : State) : State :=
  if s.mode ≠ .train then s
  else
    let s := if portsSettled s then s else s.reach (s.alm.entry + 1300000000)
    let s := { s with pwr.step := .none }
    if s.pwr.offPending ≠ .none then s
    else
      let s := setMode (baseMode s) s
      if s.alm.degCauses ≠ 0#4 then setMode .degraded s else s

/-- R417: TRAIN_END (assumption 43). -/
def execTrainEnd (s : State) : Host.Outcome State Fault Refusal := .next (trainEnd s)

/-! ## Shadow sets, R431-R434 -/

/-- SHADOW_STATUS.STATE. -/
def shadowState (s : State) : Nat := s.rf Reg.shadowStatus 2 0

/-- SHADOW_CTL.OPEN (R431 step 1, R434) (assumption 40). -/
def shadowOpen (s : State) : State :=
  if s.mode.steady && shadowState s == 0 then (s.wf Reg.shadowStatus 2 0 1).wr Reg.shadowPtr 0#64 else s

/-- Is a byte offset inside the shadow buffer? -/
def inShadow (s : State) (o : Nat) : Bool := decide (o < s.rf Reg.shadowStatus 31 16 * 2 ^ 20)

/-- A write of SHADOW_DATA (R431 step 1): ignored outside LOADING and at or beyond BUF_MIB. -/
def shadowData (w : Word) (s : State) : State :=
  let o := (s.rd Reg.shadowPtr).toNat
  if shadowState s == 1 && inShadow s o then
    { s.wr Reg.shadowPtr (mkFld 25 3 (o / 8 + 1)) with alm.shadowBuf := tput 0#64 s.alm.shadowBuf (o / 8) w }
  else s

/-- A read of SHADOW_DATA: the 8 bytes at SHADOW_PTR. -/
def readShadowData (s : State) : Word :=
  let o := (s.rd Reg.shadowPtr).toNat
  if inShadow s o then tgetD s.alm.shadowBuf (o / 8) 0#64 else 0#64

/-- SHADOW_CTL.GO (R431 step 2, R434) (assumption 40). -/
def shadowGo (s : State) : State :=
  if s.mode.steady && shadowState s == 1 then s.wf Reg.shadowStatus 2 0 2 else s

/-- The shadow set is given up. -/
def dropShadow (s : State) : State :=
  { (s.wf Reg.shadowStatus 2 0 0).wb Reg.shadowCtl 2 false with alm.armed := none }

/-- SHADOW_CTL.ABANDON (R434): at once from LOADING, ARMED and REFUSED; in CHECKING when the checks end. -/
def shadowAbandon (s : State) : State :=
  match shadowState s with
  | 1 | 3 | 4 => dropShadow s
  | 2 => s.wb Reg.shadowCtl 2 true
  | _ => s

/-- SHADOW_CHECK_COMPLETE (R431 steps 2 and 3, R274, R434). -/
def shadowChecked (s : State) : State :=
  if shadowState s ≠ 2 then s
  else
    let img := s.alm.shadowBuf
    let s := match shadowChecks s img with
      | none => { s.wf Reg.shadowStatus 2 0 3 with alm.armed := some img }
      | some e => refuseShadow e.1 e.2 (admissionFails (shadowTables s img) e) s
    if s.rb Reg.shadowCtl 2 then dropShadow s else s

/-- R431: SHADOW_CHECK_COMPLETE. -/
def execShadowCheckComplete (s : State) : Host.Outcome State Fault Refusal := .next (whenCarries shadowChecked s)

/-! ## Handovers, R437 -/

/-- A write of SPLIT_REQ with GO = 1 (R437 steps 1 to 3): refused at once, or pending until the next boundary (assumption 40). -/
def handoverGo (f : Nat) (s : State) : State :=
  let on := s.rb Reg.splitReq 8
  let s := s.wf Reg.splitStatus 23 20 f
  if f = 0 ∨ 10 < f ∨ s.assist f = on ∨ s.alm.splitPending.isSome ∨ !s.mode.steady then
    ((s.wf Reg.splitStatus 25 24 2).wb Reg.splitReq 63 s.alm.splitPending.isSome).setEvent Reg.almEvents 7
  else { (s.wb Reg.splitReq 63 true).wb Reg.splitStatus 16 true with alm.splitPending := some (f, on) }

/-! ## Exchanges, R439-R441 -/

/-- SWAP_CTL.GO (R415, R439) (assumption 40). -/
def swapGo (s : State) : State :=
  if shadowState s ≠ 1 then s
  else if !s.mode.steady then refuseSwap 0 0xFF s
  else
    { (s.wr Reg.swapStatus ((s.rd Reg.swapStatus &&& fldMask 47 16) ||| 1#64)).wf Reg.shadowStatus 2 0 5 with
      alm.swap := .checking }

/-- Which parts the image of an exchange holds. -/
def hasPart (typ : Nat) (img : RawImage) : Bool := (sectOf img typ).isSome

/-- SWAP_CHECK_COMPLETE (R439): the exchange is refused, or SWAP is entered; in TAKEOVER the mode follows it (R415)
(assumption 40). -/
def swapChecked (s : State) : State :=
  match s.alm.swap with
  | .checking =>
    (match swapChecks s s.alm.shadowBuf with
    | some e => refuseSwap e.1 e.2 { s.wf Reg.shadowStatus 2 0 0 with alm.swap := .idle }
    | none =>
      let lib := hasPart 0x08 s.alm.shadowBuf
      let s : State := { s with alm.swap := .library, alm.swapFw := hasPart 0x10 s.alm.shadowBuf, alm.swapLib := lib }
      let s := if s.mode.steady then setMode .swap s else s
      if lib then s.wf Reg.swapStatus 2 0 2 else s)
  | _ => s

/-- R439: SWAP_CHECK_COMPLETE. -/
def execSwapCheckComplete (s : State) : Host.Outcome State Fault Refusal := .next (whenCarries swapChecked s)

/-- The exchange is over (R440 step 4): the buffer is free and SWAP is left under R418. -/
def swapEnd (s : State) : State :=
  let s := s.wf Reg.shadowStatus 2 0 0
  let s := if s.rf Reg.swapStatus 2 0 = 6 then s else s.wf Reg.swapStatus 2 0 4
  let s := { s with alm.swap := .idle, alm.swapFw := false, alm.swapLib := false }.setEvent Reg.almEvents 3
  let s := match s.mode with
    | .swap => setMode (returnMode s) s
    | _ => s
  drainIfPending s

/-- One descriptor of an exchange: a version comes, becomes current, or is withdrawn (R440) (assumption 40). -/
def libStep (img : RawImage) (x : Sect) (vs : List Version) (w : List Word) : List Version :=
  let v := versionOf img x w
  let same := fun (u : Version) => u.program == v.program && u.version == v.version
  let vs := if v.code.isEmpty then vs else vs ++ [{ v with current := false, withdraw := false }]
  if v.withdraw then vs.map (fun u => if same u then { u with current := false } else u)
  else if v.current then vs.map (fun u => if u.program == v.program then { u with current := same u } else u)
  else vs

/-- SWAP_LIBRARY_COPIED (R385, R386, R440 steps 1 and 2): the new versions, and every change of a current version in one step; a
version that is current no more and has no job is freed. -/
def libraryCopied (s : State) : State :=
  match s.alm.swap with
  | .library =>
    if !s.alm.swapLib then s
    else
      let img := s.alm.shadowBuf
      let old := s.tabs.versions.filter Version.current
      let ws : List (List Word) := match sectOf img 0x08 with | some (_, x) => (entriesOf img x).map Prod.snd | none => []
      let x : Sect := ((sectOf img 0x08).map Prod.snd).getD { typ := 0x08, flags := 0, off := 0, len := 0, crc := 0 }
      let s : State := { s with tabs.versions := ws.foldl (libStep img x) s.tabs.versions, alm.swapLib := false }
      let s := old.foldl (fun s v => freeVersion v.program v.version s) s
      if s.alm.swapFw then s else swapEnd s
  | _ => s

/-- R440: SWAP_LIBRARY_COPIED. -/
def execSwapLibraryCopied (s : State) : Host.Outcome State Fault Refusal := .next (whenCarries libraryCopied s)

/-- The stewards' partitions leave reset: the watchdogs of those in service start (R492, assumption 39) (assumption 17). -/
def startWdogs (s : State) : State :=
  let due := s.now + s.rf Reg.rasCtl 23 16 * 1000000
  { s with ras.wdog := tmap (fun _ _ => due) s.ras.wdog }

/-- STEWARD_GAP_START (R441): the stewards stop; their locks are released (R481); the gap starts. -/
def gapStart (s : State) : State :=
  match s.alm.swap with
  | .library =>
    if s.alm.swapLib || !s.alm.swapFw then s
    else
      let new := match sectOf s.alm.shadowBuf 0x10 with | some (_, x) => preWord s.alm.shadowBuf x 8 | none => 0#64
      let s := (List.range 4).foldl (fun s i => let (es, s) := releaseLocks i s; acts es s) s
      startWdogs { s.wf Reg.swapStatus 2 0 3 with alm.swap := .gap s.now false, alm.prevFw := s.alm.runFw, alm.newFw := new }
  | _ => s

/-- R441: STEWARD_GAP_START. -/
def execStewardGapStart (s : State) : Host.Outcome State Fault Refusal := .next (whenCarries gapStart s)

/-- STEWARD_GAP_TIMEOUT (R441): the new firmware is not ready 5 ms after the gap started; the previous firmware starts again. -/
def gapTimeout (s : State) : State :=
  match s.alm.swap with
  | .gap start false =>
    let s := { (s.reach (start + 5000000)).wf Reg.swapStatus 2 0 6 with alm.swap := .gap start true }
    almRecord 0x93 .contained 0 0xFF 0xFF (startWdogs (s.setEvent Reg.almEvents 5))
  | _ => s

/-- R441: STEWARD_GAP_TIMEOUT. -/
def execStewardGapTimeout (s : State) : Host.Outcome State Fault Refusal := .next (gapTimeout s)

end Sys2Proof.Machine
end

