-- ==== Sys2Proof/Machine/Power.lean ====
section
/-! DEFINITION. The supply and reset pins, off requests, and the clock faults (R393, R412-R414, R419, R498-R506). -/
namespace Sys2Proof.Machine

/-! ## Auxiliary power, R393, R414, R498 -/

/-- AUX_POWER_GOOD (R414): D0 leaves the AON reset and the device enters AUX; the keys are fused. -/
def auxGood (s : State) : State :=
  if s.pwr.auxGood then s
  else
    { State.reset with
      pending := s.pending, out := s.out, fresh := s.fresh, alm := { newAlm with keys := s.alm.keys },
      pwr := { newPwr with pwrGood := s.pwr.pwrGood, sysRst := s.pwr.sysRst, offReq := s.pwr.offReq } }

/-- R414: AUX_POWER_GOOD. -/
def execAuxPowerGood (s : State) : Host.Outcome State Fault Refusal := .next (auxGood s)

/-- AUX_POWER_LOSS (R414, R498): the device enters OFF at once, and nothing but what is fused is kept. -/
def auxLoss (s : State) : State :=
  { State.reset with
    pending := s.pending, out := s.out, fresh := s.fresh, clk := { newClk with running := 0#18, locked := 0#18 },
    alm := { newAlm with mode := .off, prev := s.alm.mode, keys := s.alm.keys },
    pwr := { newPwr with auxGood := false, pwrGood := s.pwr.pwrGood, sysRst := s.pwr.sysRst, offReq := s.pwr.offReq } }

/-- R498: AUX_POWER_LOSS. -/
def execAuxPowerLoss (s : State) : Host.Outcome State Fault Refusal := .next (auxLoss s)

/-! ## PWR_GOOD_IN and SYS_RST_N, R414, R419-R421, R500, R501 -/

/-- PWR_GOOD_ASSERT (R414, R500): the power-good timer stops, PG_FAILS returns to 0, step U1 ends, LOAD starts. -/
def pwrGoodUp (s : State) : State :=
  if !s.pwr.auxGood then { s with pwr.pwrGood := true }
  else
    let st := match s.pwr.step with | .u1 => PwrStep.none | x => x
    tryLoad { s with pwr.pwrGood := true, pwr.pwrGoodFell := none, pwr.pgDeadline := none, pwr.pgFails := 0, pwr.step := st }

/-- R414: PWR_GOOD_ASSERT. -/
def execPwrGoodAssert (s : State) : Host.Outcome State Fault Refusal := .next (pwrGoodUp s)

/-- R419, R421: a loss of power or a reset from LOAD to HALT, or in TEST, takes the device to AUX. -/
def toAux (cause : Nat) (s : State) : State :=
  if s.mode.loadToHalt then coreReset [cause] .aux s
  else if s.mode = .test then coreReset [7] .aux s else s

/-- PWR_GOOD_DEASSERT (R419). -/
def pwrGoodDown (s : State) : State :=
  if !s.pwr.auxGood then { s with pwr.pwrGood := false }
  else toAux 2 { s with pwr.pwrGood := false, pwr.pwrGoodFell := if s.pwr.pwrGood then some s.now else s.pwr.pwrGoodFell }

/-- R419: PWR_GOOD_DEASSERT. -/
def execPwrGoodDeassert (s : State) : Host.Outcome State Fault Refusal := .next (pwrGoodDown s)

/-- SYS_RST_ASSERT (R419, R501): every hold is cleared; ignored in OFF. -/
def sysRstDown (s : State) : State :=
  if !s.pwr.auxGood ∨ s.mode = .off then { s with pwr.sysRst := true }
  else toAux 3 { s with pwr.sysRst := true, pwr.holdCause := 0 }

/-- R419: SYS_RST_ASSERT. -/
def execSysRstAssert (s : State) : Host.Outcome State Fault Refusal := .next (sysRstDown s)

/-- R414: SYS_RST_DEASSERT. -/
def execSysRstDeassert (s : State) : Host.Outcome State Fault Refusal := .next (tryLoad { s with pwr.sysRst := false })

/-! ## PWR_EN_OUT, R499, R500 -/

/-- PWR_EN_ASSERT (R499): 10 ms after the last deassertion at the earliest. With PWR_GOOD_IN still asserted LOAD starts (R505). -/
def pwrEnUp (s : State) : State :=
  if s.mode ≠ .aux ∨ !s.pwr.auxGood ∨ s.pwr.pwrEn ∨ s.pwr.offReq ∨ s.pwr.holdCause ≠ 0 ∨ s.pwr.offPending ≠ .none then s
  else
    let s := match s.pwr.pwrEnFell with | some t => s.reach (t + 10000000) | none => s
    let s := { s with pwr.pwrEn := true }
    if s.pwr.pwrGood then tryLoad s else { s with pwr.pgDeadline := some (s.now + 200000000), pwr.step := .u1 }

/-- R499: PWR_EN_ASSERT. -/
def execPwrEnAssert (s : State) : Host.Outcome State Fault Refusal := .next (pwrEnUp s)

/-- POWER_GOOD_TIMEOUT (R500): the third in a row holds the device off. -/
def pgTimeout (s : State) : State :=
  match s.pwr.pgDeadline with
  | none => s
  | some t =>
    let s := pwrEnOff (s.reach t)
    let n := min 3 (s.pwr.pgFails + 1)
    let s := { s with pwr.pgFails := n, pwr.step := .none, pwr.holdCause := if n = 3 then 3 else s.pwr.holdCause }
    (s.setEvent Reg.pwrEvents 0).raise 0xC4 .corrected .ras 0 0

/-- R500: POWER_GOOD_TIMEOUT. -/
def execPowerGoodTimeout (s : State) : Host.Outcome State Fault Refusal := .next (pgTimeout s)

/-! ## Off requests, R502-R505 -/

/-- Is a power-up step in progress: U1, LOAD or TRAIN (R503)? -/
def poweringUp (s : State) : Bool := decide (s.pwr.step ≠ .none)

/-- An off request, by the pin or by OFF_GO (R502, R503, R505) (assumption 20). -/
def offRequest (byGo : Bool) (s : State) : State :=
  if s.mode.serves then requestDrain byGo s
  else match s.mode with
    | .halt | .test => if byGo then s else pwrEnOff s
    | .aux | .load | .train =>
      if poweringUp s && decide (s.pwr.offPending = .none) then { s with pwr.offPending := if byGo then .byGo else .byPin } else s
    | _ => s

/-- OFF_REQ_ASSERT (R502). -/
def offReqUp (s : State) : State :=
  let s := { s with pwr.offReq := true }
  if s.pwr.auxGood then offRequest false s else s

/-- R502: OFF_REQ_ASSERT. -/
def execOffReqAssert (s : State) : Host.Outcome State Fault Refusal := .next (offReqUp s)

/-- OFF_REQ_DEASSERT (R501, R505): an on request; it clears MGMT_OFF and PG_TIMEOUT where the pin had been asserted. -/
def offReqDown (s : State) : State :=
  let cleared := s.pwr.offReq && (s.pwr.holdCause == 1 || s.pwr.holdCause == 3)
  { s with pwr.offReq := false, pwr.holdCause := if cleared then 0 else s.pwr.holdCause }

/-- R505: OFF_REQ_DEASSERT. -/
def execOffReqDeassert (s : State) : Host.Outcome State Fault Refusal := .next (offReqDown s)

/-- PWR_CTL.OFF_GO written (R503): the bit reads 1 until the request is acted on. -/
def offGoWrite (s : State) : State :=
  let s := offRequest true s
  s.wb Reg.pwrCtl 0 (s.alm.drainPending || decide (s.pwr.offPending ≠ .none))

/-- POWER_UP_REVERSAL (R503): the step has ended; LOAD and TRAIN reset the core partition, and PWR_EN_OUT falls
(assumption 20). -/
def reversal (s : State) : State :=
  if s.pwr.offPending = .none ∨ s.pwr.step ≠ .none then s
  else
    let hold := if s.pwr.offPending = .byGo then 1 else s.pwr.holdCause
    let s := pwrEnOff s
    let s := match s.mode with
      | .load | .train => coreReset [5] .aux s
      | _ => s
    { s.wb Reg.pwrCtl 0 false with pwr.offPending := .none, pwr.holdCause := hold }

/-- R503: POWER_UP_REVERSAL. -/
def execPowerUpReversal (s : State) : Host.Outcome State Fault Refusal := .next (reversal s)

/-- OFF_EXIT (R504): PWR_GOOD_IN low for 10 ms, or 100 ms after PWR_EN_OUT fell, whichever comes first. -/
def offExit (s : State) : State :=
  if s.mode ≠ .off ∨ !s.pwr.auxGood then s
  else
    let a := s.pwr.pwrEnFell.map (· + 100000000)
    let b := if s.pwr.pwrGood then none else s.pwr.pwrGoodFell.map (· + 10000000)
    let s := match a, b with
      | some x, some y => s.reach (min x y)
      | some x, none | none, some x => s.reach x
      | none, none => s
    setMode .aux s

/-- R504: OFF_EXIT. -/
def execOffExit (s : State) : Host.Outcome State Fault Refusal := .next (offExit s)

/-! ## Clock faults, R412, R413 -/

/-- The domains that the core PLLs of a die drive (12): 0 the west die, 1 the east die; D1 and D5 run from both. -/
def coreDomains (die : Nat) : BitVec 18 := if die = 0 then 0xC02E#18 else 0x30032#18

/-- Is the core partition out of reset? -/
def coreOut (s : State) : Bool := s.mode.loadToHalt || decide (s.mode = .test)

/-- CORE_PLL_LOCK_LOSS (R412): the record, the event, HALT. With REFCLK_AUX gone a steward writes its own record (R413)
(assumption 18). -/
def coreLockLoss (die : Nat) (s : State) : State :=
  if !coreOut s ∨ 1 < die then s
  else
    let s := { s with clk.locked := s.clk.locked &&& ~~~(coreDomains die) }.setEvent Reg.clkEvents 1
    let d := 3 + die
    let s := s.raise 0x80 .fatalDevice .domain d (d + 256 * 0xFF)
    let s := if s.clk.auxOsc then
        { s with ras.stwInbox := s.ras.stwInbox ++ [mkRec s 0x83 .fatalDevice .domain 0 (256 * 0xFF)] }
      else s
    enterHalt s

/-- R412: CORE_PLL_LOCK_LOSS. -/
def execCorePllLockLoss (die : Nat) (s : State) : Host.Outcome State Fault Refusal := .next (coreLockLoss die s)

/-- The ports of a SerDes chiplet. -/
def chipletPorts (s : State) (n : Nat) : List Nat := s.portList.filter (fun p => chipletOf p == n)

/-- CHIPLET_PLL_LOCK_LOSS (R412): its ports go down under R61, the record, the reset of its partition. An attempt on one of them
ends too (assumption 18). -/
def chipletLockLoss (n : Nat) (s : State) : State :=
  if !coreOut s ∨ 8 ≤ n ∨ !s.clk.locked.getLsbD (6 + n) then s
  else
    let bit : BitVec 18 := BitVec.ofNat 18 (2 ^ (6 + n))
    let s := { s with clk.locked := s.clk.locked &&& ~~~bit, clk.running := s.clk.running &&& ~~~bit }.setEvent Reg.clkEvents 2
    let s := s.raise 0x80 .contained .domain (6 + n) (6 + n + 256 * 0xFF)
    (chipletPorts s n).foldl (fun s p =>
      if s.linkIsUp p then linkGoesDown p 1 s
      else (s.modLink p (fun l => { l with attempting := false, eqUntil := none })).setLtssm p (if s.portEnabled p then 1 else 0)) s

/-- R412: CHIPLET_PLL_LOCK_LOSS. -/
def execChipletPllLockLoss (n : Nat) (s : State) : Host.Outcome State Fault Refusal := .next (chipletLockLoss n s)

/-- CHIPLET_PLL_RELOCK (R412): the domain leaves reset (R408) and its ports start new attempts under R53. -/
def chipletRelock (n : Nat) (s : State) : State :=
  if !s.mode.trains ∨ 8 ≤ n ∨ s.clk.locked.getLsbD (6 + n) then s
  else
    let s : State := { s with clk.locked := s.clk.locked ||| BitVec.ofNat 18 (2 ^ (6 + n)) }
    (chipletPorts s n).foldl (fun s p => attemptStart p s) (domainRelease (6 + n) s)

/-- R412: CHIPLET_PLL_RELOCK. -/
def execChipletPllRelock (n : Nat) (s : State) : Host.Outcome State Fault Refusal := .next (chipletRelock n s)

/-- AUX_REFCLK_LOSS (R413): D0 runs from its own oscillator, the DTB goes on; the core PLLs' loss follows as its own command. -/
def auxRefclkLoss (s : State) : State :=
  if !s.pwr.auxGood ∨ s.clk.auxOsc then s
  else { s with clk.auxOsc := true, clk.locked := s.clk.locked &&& ~~~1#18 }.setEvent Reg.clkEvents 0

/-- R413: AUX_REFCLK_LOSS. -/
def execAuxRefclkLoss (s : State) : Host.Outcome State Fault Refusal := .next (auxRefclkLoss s)

/-! ## A D0 cycle without a command -/

/-- With no command waiting one D0 cycle passes (assumption 1): the DTB steps by 10 (R393), and LOAD starts where AUX meets its
conditions (R414). -/
def idle (s : State) : State :=
  if s.pwr.auxGood then
    let t := { s with clk.dtb := s.clk.dtb + 10 }
    tryLoad (if t.now / 1000000000 = s.now / 1000000000 then t else whenCarries rollAll t)
  else s

end Sys2Proof.Machine
end

