-- ==== Sys2Proof/Machine/Test.lean ====
section
/-! DEFINITION. The JTAG port and the TEST block's work (R421, R551, R558-R560). -/
namespace Sys2Proof.Machine

/-! ## Instructions, R551 -/

/-- An instruction that acts in every mode from AUX: it is loaded and Capture-DR gives `dr`. -/
def jtagLoad (code dr : Nat) (s : State) : State :=
  if s.pwr.auxGood && decide (s.mode ≠ .off) then { s with jtag.ir := code }.emit (.jtagCapture dr) else s

/-- An instruction that acts in TEST only, and as BYPASS otherwise. -/
def jtagInTest (code dr : Nat) (s : State) : State := if s.mode = .test then jtagLoad code dr s else jtagLoad 0xFF 0 s

/-- The identification register. -/
def idcodeWord : Nat := 0x15120B77

/-- R551: IDCODE. -/
def execIdcode (s : State) : Host.Outcome State Fault Refusal := .next (jtagLoad 0x01 idcodeWord s)

/-- R551: BYPASS, whose register captures 0 (IEEE 1149.1). -/
def execBypass (s : State) : Host.Outcome State Fault Refusal := .next (jtagLoad 0xFF 0 s)

/-- SAMPLE/PRELOAD: the boundary-scan register takes the levels of the pins, which the spec does not list (assumption 4). -/
def samplePins (s : State) : State :=
  if s.pwr.auxGood && decide (s.mode ≠ .off) then
    let (v, s) := s.free
    jtagLoad 0x02 v.toNat { s with jtag.scan := v.toNat }
  else s

/-- R551: SAMPLE/PRELOAD. -/
def execSamplePreload (s : State) : Host.Outcome State Fault Refusal := .next (samplePins s)

/-- EXTEST: in TEST the pins are driven from the boundary-scan register. -/
def extest (scan : Nat) (s : State) : State :=
  if s.mode = .test then jtagLoad 0x00 scan { s with jtag.scan := scan } else jtagLoad 0xFF 0 s

/-- R551: EXTEST. -/
def execExtest (scan : Nat) (s : State) : Host.Outcome State Fault Refusal := .next (extest scan s)

/-- R551: CLAMP. -/
def execClamp (s : State) : Host.Outcome State Fault Refusal := .next (jtagInTest 0x03 0 s)

/-- R551: HIGHZ. -/
def execHighz (s : State) : Host.Outcome State Fault Refusal := .next (jtagInTest 0x04 0 s)

/-- TEST_ENTER (R421, R551): from AUX; D1 leaves reset with its registers at their reset values. -/
def testEnter (s : State) : State :=
  if s.mode = .aux then
    setMode .test (jtagLoad 0x40 0 { s with
      regs := aonRegs s.regs, clk.running := s.clk.running ||| 2#18, clk.locked := s.clk.locked ||| 0x3C03F#18,
      clk.followers := tset s.clk.followers 1 { loaded := false, lag16 := 0, since := 0, rate := .nominal } })
  else jtagLoad 0x40 0 s

/-- R551: TEST_ENTER. -/
def execTestEnter (s : State) : Host.Outcome State Fault Refusal := .next (testEnter s)

/-- TEST_EXIT (R421, R551): the core partition is reset and the device enters AUX. -/
def testExit (s : State) : State :=
  if s.mode = .test then coreReset [7] .aux (jtagLoad 0x41 0 s) else jtagLoad 0x41 0 s

/-- R421: TEST_EXIT. -/
def execTestExit (s : State) : Host.Outcome State Fault Refusal := .next (testExit s)

/-! ## Built-in tests, R559 -/

/-- The bits of BIST_STATUS that a selection leaves. -/
def keepTests (w : Word) (sel : Nat) : Word := w &&& ~~~(mkFld 5 0 sel ||| mkFld 13 8 sel)

/-- BIST_GO: a run of the tests of BIST_SEL; nothing while one is in progress. -/
def bistStart (s : State) : State :=
  if s.jtag.bistBusy.isSome then s
  else
    let sel := s.rf Reg.testCtl 5 0
    { (s.wr Reg.bistStatus (setBit (keepTests (s.rd Reg.bistStatus) sel) 16)).wb Reg.testCtl 8 true with jtag.bistBusy := some sel }

/-- BIST_GO (R559): BIST_SEL and BIST_GO of TEST_CTL written together. -/
def bistGo (sel : Nat) (s : State) : State := if s.mode = .test ∧ s.jtag.bistBusy = none then bistStart (s.wf Reg.testCtl 5 0 sel) else s

/-- R559: BIST_GO. -/
def execBistGo (sel : Nat) (s : State) : Host.Outcome State Fault Refusal := .next (bistGo sel s)

/-- BIST_COMPLETE (R559): bit n of `pass` tells whether test n passed. -/
def bistComplete (pass : Nat) (s : State) : State :=
  match s.jtag.bistBusy with
  | none => s
  | some sel =>
    let good := (mkFld 5 0 pass).toNat &&& sel
    let w := keepTests (s.rd Reg.bistStatus) sel ||| mkFld 5 0 good ||| mkFld 13 8 (sel ^^^ good)
    { (s.wr Reg.bistStatus (clrBit w 16)).wb Reg.testCtl 8 false with jtag.bistBusy := none }

/-- R559: BIST_COMPLETE. -/
def execBistComplete (pass : Nat) (s : State) : Host.Outcome State Fault Refusal := .next (bistComplete pass s)

/-! ## Key slots, R560 -/

/-- The digest in KEY_DIGEST_0 to KEY_DIGEST_5. -/
def keyDigestOf (s : State) : BitVec 384 :=
  BitVec.ofNat 384 (((List.range 6).map (fun k => (s.rd (Reg.keyDigest k)).toNat * 2 ^ (64 * k))).sum)

/-- May a slot be programmed with this digest? -/
def mayProgram (s : State) (slot : Nat) (d : BitVec 384) : Bool :=
  match s.alm.keys[slot]? with
  | some k => k.digest.isNone && !k.revoked && decide (d ≠ 0#384)
  | none => false

/-- KEY_PROG_CTL.GO: the slot and action that the register names. -/
def keyGo (s : State) : State :=
  if s.jtag.keyBusy.isSome then s
  else
    let slot := s.rf Reg.keyProgCtl 1 0
    let revoke := s.rb Reg.keyProgCtl 8
    let d := keyDigestOf s
    if revoke || mayProgram s slot d then
      { (s.wb Reg.keyProgCtl 63 true).wb Reg.keyProgStatus 0 true with
        jtag.keyBusy := some (slot, if revoke then none else some d) }
    else (s.wb Reg.keyProgCtl 63 false).wf Reg.keyProgStatus 9 8 2

/-- KEY_PROG_CTL written with GO = 1. -/
def keyRequest (slot : Nat) (revoke : Bool) (s : State) : State :=
  if s.mode = .test ∧ s.jtag.keyBusy = none then keyGo ((s.wf Reg.keyProgCtl 1 0 slot).wb Reg.keyProgCtl 8 revoke) else s

/-- R560: KEY_PROGRAM. -/
def execKeyProgram (slot : Nat) (s : State) : Host.Outcome State Fault Refusal := .next (keyRequest slot false s)

/-- R560: KEY_REVOKE. -/
def execKeyRevoke (slot : Nat) (s : State) : Host.Outcome State Fault Refusal := .next (keyRequest slot true s)

/-- KEY_PROGRAM_COMPLETE (R560): the slot is written. -/
def keyDone (s : State) : State :=
  match s.jtag.keyBusy with
  | none => s
  | some (slot, d) =>
    let k := s.alm.keys.getD slot newKey
    let k := match d with
      | none => { k with revoked := true }
      | some x => { k with digest := some x }
    { ((s.wb Reg.keyProgCtl 63 false).wb Reg.keyProgStatus 0 false).wf Reg.keyProgStatus 9 8 1 with
      alm.keys := setAt s.alm.keys slot k, jtag.keyBusy := none }

/-- R560: KEY_PROGRAM_COMPLETE. -/
def execKeyProgramComplete (s : State) : Host.Outcome State Fault Refusal := .next (keyDone s)

/-- KEY_STATUS. -/
def readKeyStatus (s : State) : Word :=
  let mask := fun (p : KeySlot → Bool) => ((s.alm.keys.zipIdx).map (fun e => if p e.1 then 2 ^ e.2 else 0)).sum
  mkFld 11 8 (mask KeySlot.revoked) ||| mkFld 3 0 (mask (fun k => k.digest.isSome))

end Sys2Proof.Machine
end

