-- ==== Sys2Proof/Machine/Control.lean ====
section
/-! DEFINITION. The control space: what each register reads as, what a read and a write do, which path is served in which mode, and
how an access completes (R8-R18, R425, R544-R549, R558). -/
namespace Sys2Proof.Machine

/-! ## What a register reads as -/

/-- GLOBAL and CLOCK_RESET. -/
def derivedGlobal (s : State) (off : Nat) : Option Word :=
  if off = Reg.devMode then some (mkFld 3 0 s.mode.code)
  else if off = Reg.modeEntryDtb then some (BitVec.ofNat 64 s.alm.entry)
  else if off = Reg.evtMsgStatus then some (setFld (s.rd off) 8 0 s.gapHeld.length)
  else if off = Reg.clkStatus then some (readClkStatus s)
  else if off = Reg.dtb then some (BitVec.ofNat 64 (readDtb s))
  else if off = Reg.followStatus then some (readFollowStatus s)
  else (arrAt (Reg.dom 0) 8 18 off).map domWord

/-- PORT pages: CREDIT_STATUS and the counter sets (R529). -/
def derivedPort (s : State) (off : Nat) : Option Word :=
  let p := (off - 0x200000) / 0x1000
  let k := (off - 0x200000) % 0x1000
  if k = 0x40 then some (readCreditStatus s p)
  else if 0x800 ≤ k ∧ k < 0x8F0 then some (readCounters s (cntPort p (k - 0x800)))
  else none

/-- XLATE. -/
def derivedXlate (s : State) (off : Nat) : Option Word :=
  if off = Reg.xlateStatus then some (readXlateStatus s)
  else if off = Reg.genStatus then some (readGenStatus s)
  else if off = Reg.dcTmoReq then some (mailRead s.xl.dcPosts).1
  else match arrAt (Reg.fillReq 0) 0x10 2 off with
    | some d => some (mailRead (tgetD s.xl.fillPosts d [])).1
    | none => (arrAt (Reg.migStatus 0) 8 16 off).map (readMigStatus s)

/-- TRK_STATUS_nn. -/
def readTrkStatus (s : State) (bp : Nat) : Word :=
  let ts := trksOf s bp
  mkFld 44 32 (tgetD s.bridge.high bp 0) ||| mkFld 28 16 (ts.filter (fun e => decide (e.2.st = .held))).length ||| mkFld 12 0 ts.length

/-- LEG_STATUS of a port; 0 while its link is down. -/
def readLegStatus (s : State) (p : Nat) : Word :=
  match s.leg? p with
  | some l =>
    if s.linkIsUp p then
      mkFld 58 56 l.mps ||| mkFld 49 48 (tagMode s p l) ||| mkFld 42 32 l.tags.length ||| mkFld 26 16 l.quar.length
        ||| mkFld 9 0 (s.bridge.ctxs.filter (fun c => c.port == p)).length
    else 0#64
  | none => 0#64

/-- BRIDGE. -/
def derivedBridge (s : State) (off : Nat) : Option Word :=
  match arrAt (Reg.trkStatus 0) 8 16 off with
  | some n => some (readTrkStatus s n)
  | none =>
    match arrAt (Reg.legStatus 0) 0x100 256 off with
    | some i => (indexPort s i).map (readLegStatus s)
    | none => none

/-- BXE_STATUS of a port. -/
def readBxeStatus (s : State) (p : Nat) : Word :=
  match s.leg? p, s.link? p with
  | some l, some k =>
    mkFld 39 32 (min 255 l.ctoRun) ||| mkFld 19 16 l.intx ||| mkFld 11 8 l.cause ||| mkFld 2 2 (b2n l.pounding)
      ||| mkFld 1 1 (b2n (!s.linkIsUp p || k.contained)) ||| mkFld 0 0 (b2n k.contained)
  | _, _ => 0#64

/-- INTX_AGG_k: the upstream wires of 16 hosts (R163). -/
def readIntxAgg (s : State) (k : Nat) : Word :=
  (List.range 16).foldl (fun w j => w ||| mkFld (4 * j + 3) (4 * j) (hostWires (·.intx) s (16 * k + j))) 0#64

/-- The bridge error part of RAS. -/
def derivedBx (s : State) (off : Nat) : Option Word :=
  if off = Reg.bxgCtl then some (putBit (s.rd off) 0 (s.assist 3))
  else match arrAt (Reg.intxAgg 0) 8 4 off with
    | some k => some (readIntxAgg s k)
    | none =>
      match arrAt (Reg.bxeStatus 0) 0x100 256 off with
      | some i => (indexPort s i).map (readBxeStatus s)
      | none => none

/-- The counts of the rings and of the violation log. -/
def derivedCounts (s : State) (off : Nat) : Option Word :=
  if off = Reg.vlogProd then some (BitVec.ofNat 64 s.ras.vprod)
  else if off = Reg.vlogCons then some (BitVec.ofNat 64 s.ras.vcons)
  else if off = Reg.vlogOvf then some (BitVec.ofNat 64 s.ras.vovf)
  else match arrAt (Reg.ringProd 1) 0x20 5 off, arrAt (Reg.ringCons 1) 0x20 5 off, arrAt (Reg.ringOvf 1) 0x20 5 off with
    | some k, _, _ => some (BitVec.ofNat 64 (s.ring (k + 1)).prod)
    | none, some k, _ => some (BitVec.ofNat 64 (s.ring (k + 1)).cons)
    | none, none, some k => some (BitVec.ofNat 64 (s.ring (k + 1)).ovf)
    | none, none, none => none

/-- The positions of the rings, of the violation log, of the last-resort slots, and HALT_REC. -/
def derivedRecords (s : State) (off : Nat) : Option Word :=
  match arrAt Reg.lastResort 8 128 off, arrAt Reg.haltRec 8 8 off with
  | some i, _ => some (readSlotWord s (i / 8) (i % 8))
  | none, some k => some (readHaltRec s k)
  | none, none =>
    match arrAt (Reg.ringPos 1) 8 10240 off, arrAt Reg.vlogPos 8 16384 off with
    | some i, _ => some (readRingWord s (i / 2048 + 1) (i % 2048 / 8) (i % 8))
    | none, some i => some (readVlogWord s (i / 4) (i % 4))
    | none, none => none

/-- RAS. -/
def derivedRas (s : State) (off : Nat) : Option Word :=
  if 0xA80000 ≤ off then derivedBx s off
  else if off = Reg.rasCtl then some (putBit (s.rd off) 8 (s.assist 5))
  else if off = Reg.rasStatus then some (readRasStatus s)
  else if off = Reg.escReq then some (mailRead s.ras.escPosts).1
  else if off = Reg.lrStatus then some (readLrStatus s)
  else match arrAt (Reg.isoPort 0) 8 8 off, arrAt (Reg.stwWdog 0) 8 4 off with
    | some k, _ => some (readIsoPort s k)
    | none, some n => some (readWdog s n)
    | none, none => (derivedCounts s off).orElse (fun _ => derivedRecords s off)

/-- HOME. -/
def derivedHome (s : State) (off : Nat) : Option Word :=
  if off = Reg.homeCtl then some (putBit (s.rd off) 0 (s.assist 6))
  else if off = Reg.homeStatus then some (readHomeStatus s)
  else match arrAt (Reg.evictReq 0) 0x10 2 off, arrAt (Reg.carve 0) 8 8 off with
    | some d, _ => some (mailRead (tgetD s.home.evictPosts d [])).1
    | none, some k => some (readCarve s k)
    | none, none =>
      match arrAt (Reg.hostCoh 0) 8 64 off, arrAt (Reg.chStatus 0) 8 128 off with
      | some h, _ => some (readHostCoh s h)
      | none, some c => some (readChStatus s c)
      | none, none => none

/-- TICK. -/
def derivedTick (s : State) (off : Nat) : Option Word :=
  if off = Reg.tickStatus then some (readTickStatus s)
  else if off = Reg.tickNum then some (BitVec.ofNat 64 s.tick.num)
  else if off = Reg.tickPublished then some (BitVec.ofNat 64 s.tick.published)
  else if off = Reg.nextNominal then some (BitVec.ofNat 64 s.tick.nextNominal)
  else if off = Reg.bellStatus then some (readBellStatus s)
  else if off = Reg.tallyStatus then some (readTallyStatus s)
  else match arrAt (Reg.twCfg 0) 8 64 off, arrAt (Reg.contrib 0) 8 4096 off with
    | some n, _ => some (readTwCfg s n)
    | none, some c => some (readContrib s c)
    | none, none => (arrAt (Reg.tickReport 0) 8 4096 off).map (fun i => readReport s (i / 256) (i % 256))

/-- RING_ARB. -/
def derivedArb (s : State) (off : Nat) : Option Word :=
  if off = Reg.arbStatus then some (readArbStatus s)
  else if off = Reg.hbmCapacity then some (readHbmCapacity s)
  else if off = Reg.frameNum then some (BitVec.ofNat 64 s.rings.frame)
  else match arrAt (Reg.contract 0) 8 64 off with
    | some h => some (readContract s h)
    | none => (arrAt (Reg.planeStatus 0) 8 24 off).map (readPlaneStatus s)

/-- QUEUE. -/
def derivedQueue (s : State) (off : Nat) : Option Word :=
  if off = Reg.queueCtl then some (readQueueCtl s)
  else if off = Reg.queueStatus then some (readQueueStatus s)
  else if off = Reg.noticeReq then some (mailRead s.qu.notices).1
  else none

/-- An engine's page. -/
def derivedEngine (s : State) (e k : Nat) : Option Word :=
  if k = 0x8 then some (readEngStatus s e)
  else if k = 0x10 then some (readEngJob s e)
  else if k = 0x18 then some (readEngPc s e)
  else if 0x100 ≤ k ∧ k < 0x160 then some (readShadow s e ((k - 0x100) / 8))
  else if k = 0x170 then some (readDumpData s e)
  else none

/-- ENGINE and the mill registers. -/
def derivedMill (s : State) (off : Nat) : Option Word :=
  if off < 0x2800000 then derivedEngine s ((off - 0x2000000) / 0x10000) ((off - 0x2000000) % 0x10000)
  else if off = Reg.millStatus then some (readMillStatus s)
  else if off = Reg.libQuery then some (readLibQuery s)
  else (arrAt (Reg.dispatchReq 0) 0x10 2 off).map (fun n => (dispatchTake n s).1)

/-- PAIR. -/
def derivedPair (s : State) (off : Nat) : Option Word :=
  if off = Reg.pairStatus then some (readPairStatus s)
  else if off = Reg.dtbOffset then some (readDtbOffset s)
  else if off = Reg.takeoverReq then some (takeoverTake s).1
  else if off = Reg.syncProgress then some (readSyncProgress s)
  else if off = Reg.takeoverLog then some (readTakeoverLog s)
  else none

/-- PWR_STATUS (R501). -/
def readPwrStatus (s : State) : Word :=
  mkFld 15 12 s.pwr.holdCause ||| mkFld 11 11 (b2n (s.pwr.holdCause != 0)) ||| mkFld 10 9 s.pwr.pgFails ||| mkFld 8 8 (b2n (s.assist 4))
    ||| mkFld 4 4 (b2n s.pwr.pwrEn) ||| mkFld 3 3 (b2n s.pwr.offReq) ||| mkFld 2 2 (b2n s.pwr.sysRst)
    ||| mkFld 1 1 (b2n s.pwr.pwrGood) ||| mkFld 0 0 (b2n s.pwr.auxGood)

/-- A slot's page. -/
def derivedSlot (s : State) (i k : Nat) : Option Word :=
  match s.slot? i with
  | none => none
  | some sl =>
    if k = 0 then some sl.cfg
    else if k = 8 then some sl.limits
    else if k = 0x18 then some (readSlotStatus s i)
    else if k = 0x20 then some (readSlotMeas s i)
    else if k = 0x28 then some (putBit (s.rd (Reg.slotCmd i)) 63 sl.cmdPending)
    else none

/-- SLOT_POWER. -/
def derivedPower (s : State) (off : Nat) : Option Word :=
  if off = Reg.pwrStatus then some (readPwrStatus s)
  else if off = Reg.scStatus then some (readScStatus s)
  else if off = Reg.hpReq then some (mailRead s.chain.hpPosts).1
  else if 0x3200100 ≤ off then derivedSlot s ((off - 0x3200100) / 0x40) ((off - 0x3200100) % 0x40)
  else none

/-- COUNTERS: the control registers COUNT_CTL, COUNTER_ACCESS and ENGINE_CNT_ACCESS stay in the bank. -/
def derivedCounters (s : State) (off : Nat) : Option Word :=
  if off = Reg.countStatus then some (readCountStatus s)
  else if off < Reg.counters + 0x1000 then none
  else some (readCounters s (off - Reg.counters))

/-- MODE_DETAIL (R415, R418). -/
def readModeDetail (s : State) : Word :=
  mkFld 19 16 s.alm.degCauses.toNat ||| mkFld 11 8 s.alm.prev.code ||| mkFld 3 0 (baseMode s).code

/-- ALMANAC. -/
def derivedAlmanac (s : State) (off : Nat) : Option Word :=
  if off = Reg.modeDetail then some (readModeDetail s)
  else if off = Reg.keyStatus then some (readKeyStatus s)
  else if off = Reg.stwFwVersion then some s.alm.runFw
  else if off = Reg.shadowData then some (readShadowData s)
  else none

/-- The registers whose value is made from the state, by block. -/
def derived (s : State) (off : Nat) : Option Word :=
  if off < 0x200000 then derivedGlobal s off
  else if off < 0x400000 then derivedPort s off
  else if off < 0x800000 then derivedXlate s off
  else if off < 0xA00000 then derivedBridge s off
  else if off < 0xC00000 then derivedRas s off
  else if off < 0xE00000 then derivedHome s off
  else if off < 0x1000000 then derivedTick s off
  else if off < 0x1400000 then derivedArb s off
  else if off < 0x2000000 then derivedQueue s off
  else if off < 0x3000000 then derivedMill s off
  else if off < 0x3200000 then derivedPair s off
  else if off < 0x3400000 then derivedPower s off
  else if off < 0x3800000 then derivedCounters s off
  else if off < 0x3C00000 then derivedAlmanac s off
  else none

/-- The value of the register at a multiple of 8: 0 where there is none (R16, R17). -/
def regValue (s : State) (off : Nat) : Word := if regPresent s off then (derived s off).getD (s.rd off) else 0#64

/-! ## Reading -/

/-- A 64-bit read of a mailbox takes its oldest post (R82). -/
def mailTake (off : Nat) (s : State) : Option State :=
  if off = Reg.dcTmoReq then some (dcTmoTake s).2
  else if off = Reg.escReq then some (escTake s).2
  else if off = Reg.noticeReq then some (noticeTake s).2
  else if off = Reg.takeoverReq then some (takeoverTake s).2
  else if off = Reg.hpReq then some { s with chain.hpPosts := (mailRead s.chain.hpPosts).2 }
  else match arrAt (Reg.fillReq 0) 0x10 2 off, arrAt (Reg.evictReq 0) 0x10 2 off, arrAt (Reg.dispatchReq 0) 0x10 2 off with
    | some d, _, _ => some (fillReqTake d s).2
    | none, some d, _ => some (evictReqTake d s).2
    | none, none, some n => some (dispatchTake n s).2
    | none, none, none => none

/-- Is it one of the RC counters that a freeze keeps (R536): those of the bridge errors? (assumption 16) -/
def frozenRc (off : Nat) : Bool :=
  (arrAt (Reg.lateTrk 0) 8 16 off).isSome || (arrAt (Reg.lateCompletion 0) 0x100 256 off).isSome
    || (arrAt (Reg.ctoCount 0) 0x100 256 off).isSome || (arrAt (Reg.poundCount 0) 0x100 256 off).isSome

/-- The RC fields that lie in the state and not in the bank. -/
def clearHeld (off lo : Nat) (s : State) : Option State :=
  if off = Reg.followStatus then some (if lo = 32 then { s with clk.maxLag := 0 } else { s with clk.errDom := 0#18 })
  else if off = Reg.vlogOvf then some { s with ras.vovf := 0 }
  else if off = Reg.lrStatus then some { s with ras.slotLost := 0 }
  else if off = Reg.scStatus then some (if lo = 32 then { s with chain.aborts := 0 } else { s with chain.markerErrs := 0 })
  else if off = Reg.countStatus then some { s with cnt.skipped := 0 }
  else match arrAt (Reg.ringOvf 1) 0x20 5 off, arrAt (Reg.trkStatus 0) 8 16 off, arrAt (Reg.planeStatus 0) 8 24 off with
    | some k, _, _ => some (s.setRing (k + 1) { s.ring (k + 1) with ovf := 0 })
    | none, some n, _ => some { s with bridge.high := tput 0 s.bridge.high n (trksOf s n).length }
    | none, none, some p => some { s with rings.drops := tput 0 s.rings.drops p 0 }
    | none, none, none => none

/-- R15: a read of the bits of `mask` clears the RC fields that it covers whole (assumption 16). -/
def clearRc (off : Nat) (mask : Word) (s : State) : State :=
  match regAt off with
  | none => s
  | some d =>
    if frozenRc off && s.cnt.frozenAll then s
    else d.flds.foldl (fun s f =>
      if f.acc = .rc ∧ fldMask f.hi f.lo &&& ~~~mask = 0#64 then (clearHeld off f.lo s).getD (s.wf off f.hi f.lo 0) else s) s

/-- The bits that an access reaches (R10). -/
def accMask (off bytes : Nat) : Word :=
  if bytes = 8 then BitVec.allOnes 64 else if off % 8 = 4 then fldMask 63 32 else fldMask 31 0

/-- A read of 32 or 64 bits: the value, and the state with what the read takes or clears. -/
def csrRead (off bytes : Nat) (s : State) : Word × State :=
  let o := off / 8 * 8
  let v := regValue s o
  let out := if bytes = 8 then v else if off % 8 = 4 then v >>> 32 else v &&& fldMask 31 0
  if !regPresent s o then (out, s)
  else match (if bytes = 8 then mailTake o s else none) with
    | some s' => (out, s')
    | none => (out, clearRc o (accMask off bytes) s)

/-! ## Writing -/

/-- SHADOW_CTL: OPEN, GO, ABANDON in this order. -/
def shadowCtlWrite (d : Word) (s : State) : State :=
  let s := if bitAt d 0 then shadowOpen s else s
  let s := if bitAt d 1 then shadowGo s else s
  if bitAt d 2 then shadowAbandon s else s

/-- TEST_CTL and KEY_PROG_CTL: a GO written while BUSY is 1 changes nothing (R559, R560). -/
def testWrite (off : Nat) (mask data : Word) (s : State) : State :=
  let d := data &&& mask
  if off = Reg.testCtl then
    if bitAt d 8 && s.jtag.bistBusy.isSome then s
    else
      let s := regWrite off mask data s
      if bitAt d 8 then bistStart s else s
  else if off = Reg.keyProgCtl then
    if bitAt d 63 && s.jtag.keyBusy.isSome then s
    else
      let s := regWrite off mask data s
      if bitAt d 63 then keyGo s else s
  else regWrite off mask data s

/-- A write of the bits of `mask` to the register at a multiple of 8. -/
def csrWriteReg (off : Nat) (mask data : Word) (s : State) : State :=
  let d := data &&& mask
  if off = Reg.pwrCtl then (if bitAt d 0 then offGoWrite s else s)
  else if off = Reg.shadowCtl then shadowCtlWrite d s
  else if off = Reg.shadowData then shadowData data s
  else if off = Reg.swapCtl then (if bitAt d 0 then swapGo s else s)
  else if off = Reg.splitReq then
    let s := regWrite off mask data s
    if bitAt d 63 then handoverGo (if mask &&& 0xF#64 = 0#64 then s.rf Reg.splitReq 3 0 else fld data 3 0) s else s
  else if 0x3C00000 ≤ off then testWrite off mask data s
  else regWrite off mask data s

/-- What a write lets go on. -/
def afterWrite (s : State) : State := if s.mode.carries then letIn (retryVictims s) else s

/-- A write of 32 or 64 bits (R10). -/
def csrWrite (off bytes : Nat) (data : Word) (s : State) : State :=
  let data := if bytes = 8 then data else if off % 8 = 4 then data <<< 32 else data
  afterWrite (csrWriteReg (off / 8 * 8) (accMask off bytes) data s)

/-! ## Paths and modes, R425, R544, R545, R548, R558 -/

/-- Is the port a HOST port with its link up, as VDM and BAR 2 need? -/
def hostPortUp (s : State) (p : Nat) : Bool := s.mode.carries && s.role p == 1 && s.linkIsUp p && ideOk s p

/-- Can an access come by this path at all: the bus, link or port is there, and the steward runs? -/
def pathThere (s : State) (p : Path) : Bool :=
  match p with
  | .mctpI3c => s.pwr.auxGood && decide (s.mode ≠ .off)
  | .mctpVdm q => hostPortUp s q && s.rb (Reg.portCfg q) 31
  | .bar2 q => hostPortUp s q
  | .steward n => decide (n < 4) && s.mode.loadToHalt && !s.ras.isoStewards.testBit n && !s.inGap
  | .jtag => decide (s.mode = .test)

/-- The blocks that MCTP over MGMT_I3C reaches in LOAD. -/
def loadBlock (off : Nat) : Bool :=
  decide (off < 0x200000) || (decide (0xA00000 ≤ off) && decide (off < 0xC00000))
    || (decide (0x3800000 ≤ off) && decide (off < 0x3C00000))

/-- The set of R425. -/
def auxSet (off : Nat) (write : Bool) : Bool :=
  let o := off / 8 * 8
  o == Reg.almCtl || (!write && [Reg.devMode, Reg.almStatus, Reg.keyStatus, Reg.pendEdges].contains o)

/-- Does the path serve the block in this mode (R425, R544)? -/
def modeServes (s : State) (p : Path) (off : Nat) (write : Bool) : Bool :=
  match p with
  | .mctpI3c =>
    (match s.mode with
    | .off => false
    | .aux | .test => auxSet off write
    | .load => loadBlock off
    | .train | .solo | .paired | .takeover | .degraded | .swap | .drain | .halt => true)
  | .bar2 _ | .mctpVdm _ | .steward _ | .jtag => true

/-- BAR 2 serves only a HOST port with MGMT = 1 (R39, R544). -/
def portManaged (s : State) : Path → Bool
  | .bar2 q => s.rb (Reg.portCfg q) 31
  | _ => true

/-- A length and alignment of R8. -/
def widthOk (a : CsrAcc) : Bool := a.whole && ((a.bytes == 4 && a.off % 4 == 0) || (a.bytes == 8 && a.off % 8 == 0))

/-- R11: a 32-bit write of a 64-bit only register (assumption 16). -/
def only64Bad (s : State) (a : CsrAcc) : Bool :=
  a.data.isSome && a.bytes == 4 && regPresent s (a.off / 8 * 8) && ((regAt (a.off / 8 * 8)).map RegDef.only64).getD false

/-- R548: SWAP_CTL.GO on BAR 2, and writes in HALT (assumption 16). -/
def writeRefused (s : State) (a : CsrAcc) : Bool :=
  match a.data with
  | none => false
  | some d =>
    let o := a.off / 8 * 8
    (match a.path with
      | .bar2 _ => a.off == Reg.swapCtl && bitAt d 0 && !bitAt s.tabs.security 1
      | _ => false)
    || (decide (s.mode = .halt) && !((regAt o).map RegDef.halt).getD false)

/-- Is the access to the TEST block by another path than JTAG (R558)? (assumption 15) -/
def testHidden (a : CsrAcc) : Bool := decide (0x3C00000 ≤ a.off) && decide (a.off < 0x4000000) && decide (a.path ≠ .jtag)

/-- The completion code of an access: 0 SUCCESS, 1 ACCESS_ERROR, 2 MODE_REFUSED (R545) (assumptions 15, 16). -/
def csrCode (s : State) (a : CsrAcc) : Nat :=
  if 0x4000000 ≤ a.off then 1
  else if !portManaged s a.path then 2
  else if testHidden a then (if widthOk a then 0 else 1)
  else if !modeServes s a.path a.off a.data.isSome then 2
  else if !widthOk a || only64Bad s a || writeRefused s a then 1 else 0

/-! ## An access completes, R546, R549 -/

/-- One read or write that has passed its checks: the data read. -/
def csrDo (a : CsrAcc) (s : State) : Word × State :=
  if testHidden a then (0#64, s)
  else match a.data with
    | some d => (0#64, csrWrite a.off a.bytes d s)
    | none => csrRead a.off a.bytes s

/-- R549: the reads of READ_BLOCK, or the one access: the data so far, and the code of the first that fails. -/
def csrRun : Nat → CsrAcc → State → List Word × Nat × State
  | 0, _, s => ([], 0, s)
  | n + 1, a, s =>
    match csrCode s a with
    | 0 =>
      let (w, s) := csrDo a s
      let (ws, c, s) := csrRun n { a with off := a.off + 8 } s
      (w :: ws, c, s)
    | c => ([], c, s)

/-- R546: an Unsupported Request of BAR 2 is logged in the pool view's AER capability. -/
def barError (p : Path) (s : State) : State :=
  match p with
  | .bar2 q => viewAerLog (portHost s q) 0 s
  | _ => s

/-- The answer of an access on its path (R546). -/
def csrAnswer (a : CsrAcc) (ws : List Word) (code : Nat) (s : State) : State :=
  match a.reply with
  | .mctp tag cmd => s.emit (.mctp a.path tag cmd code (if a.data.isSome then [] else ws))
  | .bar =>
    let s := if code = 0 then s else barError a.path s
    (match a.path, a.data with
    | .bar2 q, none => s.emit (.barCpl q (if code = 0 then ws.head? else none))
    | _, _ => s)
  | .plain =>
    if code ≠ 0 then (barError a.path s).emit (.accessError a.path a.off code)
    else match a.data with
      | some _ => s.emit (.writeDone a.path a.off)
      | none => s.emit (.readDone a.path a.off (ws.headD 0#64))

/-- A READ_BLOCK whose COUNT is outside its range (*MCTP messages*). -/
def badCount (a : CsrAcc) : Bool :=
  match a.reply with
  | .mctp _ cmd => cmd == 5 && (a.count == 0 || decide (32 < a.count))
  | _ => false

/-- Serve an access: the decoder takes it (R547) (assumption 16). -/
def csrServe (a : CsrAcc) (s : State) : State :=
  if !pathThere s a.path then s
  else if badCount a then csrAnswer a [] 3 s
  else
    let (ws, c, s) := csrRun a.count a s
    csrAnswer a ws c s

/-- Is it an MCTP access? -/
def isMctp : Path → Bool
  | .mctpI3c | .mctpVdm _ => true
  | _ => false

/-- Does a steward gap hold an access of this path (R441)? -/
def gapHolds : Path → Bool
  | .mctpI3c | .mctpVdm _ | .bar2 _ => true
  | .steward _ | .jtag => false

/-- An access arrives: in a steward gap MCTP and BAR 2 accesses wait; MCTP requests beyond 64 are discarded (R441). -/
def csrArrive (a : CsrAcc) (s : State) : State :=
  if s.inGap && gapHolds a.path then
    if isMctp a.path && decide (64 ≤ (s.alm.held.filter (fun x => isMctp x.path)).length) then s
    else if pathThere s a.path then { s with alm.held := s.alm.held ++ [a] } else s
  else csrServe a s

/-- A read by a path. -/
def readBy (p : Path) (off bytes : Nat) (s : State) : State :=
  csrArrive { path := p, reply := .plain, off, bytes, whole := true, data := none, count := 1 } s

/-- A write by a path. -/
def writeBy (p : Path) (off bytes : Nat) (data : Word) (s : State) : State :=
  csrArrive { path := p, reply := .plain, off, bytes, whole := true, data := some data, count := 1 } s

/-- A 64-bit write that sets some bits and leaves the RW fields as they stand. -/
def writeBits (p : Path) (off : Nat) (set : Word) (s : State) : State :=
  let keep := ((regAt off).map rwMask).getD 0#64
  writeBy p off 8 ((s.rd off &&& keep) ||| set) s

end Sys2Proof.Machine
end

