-- ==== Sys2Proof/Machine/Access.lean ====
section
/-! DEFINITION. The commands that are accesses of the control space: each is a read or a write of the register its rule names, by the
path that makes it; then MCTP, BAR 2 and JTAG accesses, and the end of the steward gap (R8, R15, R441, R544-R552). -/
namespace Sys2Proof.Machine

/-- Does the register that a command names exist? -/
def named (there : Bool) (f : State → State) (s : State) : State := if there then f s else s

/-! ## Registers without a row of their own -/

/-- R8: REGISTER_WRITE. -/
def execRegisterWrite (p : Path) (off bytes : Nat) (data : Word) (s : State) : Host.Outcome State Fault Refusal :=
  .next (writeBy p off bytes data s)

/-- R15: CLEARING_READ. -/
def execClearingRead (p : Path) (off bytes : Nat) (s : State) : Host.Outcome State Fault Refusal := .next (readBy p off bytes s)

/-! ## Mailboxes: 64-bit reads of the posts, 64-bit writes of the answers -/

/-- R82: FILL_REQ_READ. -/
def execFillReqRead (p : Path) (die : Nat) (s : State) : Host.Outcome State Fault Refusal :=
  .next (named (die < 2) (readBy p (Reg.fillReq die) 8) s)

/-- R83: FILL_RESP_WRITE. -/
def execFillRespWrite (p : Path) (die : Nat) (data : Word) (s : State) : Host.Outcome State Fault Refusal :=
  .next (named (die < 2) (writeBy p (Reg.fillResp die) 8 data) s)

/-- R195: EVICT_REQ_READ. -/
def execEvictReqRead (p : Path) (die : Nat) (s : State) : Host.Outcome State Fault Refusal :=
  .next (named (die < 2) (readBy p (Reg.evictReq die) 8) s)

/-- R195: EVICT_RESP_WRITE. -/
def execEvictRespWrite (p : Path) (die : Nat) (data : Word) (s : State) : Host.Outcome State Fault Refusal :=
  .next (named (die < 2) (writeBy p (Reg.evictResp die) 8 data) s)

/-- R99: DC_TMO_REQ_READ. -/
def execDcTmoReqRead (p : Path) (s : State) : Host.Outcome State Fault Refusal := .next (readBy p Reg.dcTmoReq 8 s)

/-- R99: DC_TMO_RESP_WRITE. -/
def execDcTmoRespWrite (p : Path) (data : Word) (s : State) : Host.Outcome State Fault Refusal :=
  .next (writeBy p Reg.dcTmoResp 8 data s)

/-- R56: EQ_RESP. -/
def execEqResp (p : Path) (port : Nat) (data : Word) (s : State) : Host.Outcome State Fault Refusal :=
  .next (named (port < 512) (writeBy p (Reg.eqResp port) 8 data) s)

/-- R309: NOTICE_REQ_READ. -/
def execNoticeReqRead (p : Path) (s : State) : Host.Outcome State Fault Refusal := .next (readBy p Reg.noticeReq 8 s)

/-- R335: DISPATCH_REQ_READ. -/
def execDispatchReqRead (p : Path) (n : Nat) (s : State) : Host.Outcome State Fault Refusal :=
  .next (named (n < 2) (readBy p (Reg.dispatchReq n) 8) s)

/-- R336: DISPATCH_RESP_WRITE. -/
def execDispatchRespWrite (p : Path) (n : Nat) (data : Word) (s : State) : Host.Outcome State Fault Refusal :=
  .next (named (n < 2) (writeBy p (Reg.dispatchResp n) 8 data) s)

/-- R460: TAKEOVER_REQ_READ. -/
def execTakeoverReqRead (p : Path) (s : State) : Host.Outcome State Fault Refusal := .next (readBy p Reg.takeoverReq 8 s)

/-- R460: TAKEOVER_RESP_WRITE. -/
def execTakeoverRespWrite (p : Path) (data : Word) (s : State) : Host.Outcome State Fault Refusal :=
  .next (writeBy p Reg.takeoverResp 8 data s)

/-- R488: ESC_REQ_READ. -/
def execEscReqRead (p : Path) (s : State) : Host.Outcome State Fault Refusal := .next (readBy p Reg.escReq 8 s)

/-- R488: ESC_RESP_WRITE. -/
def execEscRespWrite (p : Path) (data : Word) (s : State) : Host.Outcome State Fault Refusal :=
  .next (writeBy p Reg.escResp 8 data s)

/-- R524: HP_REQ_READ. -/
def execHpReqRead (p : Path) (s : State) : Host.Outcome State Fault Refusal := .next (readBy p Reg.hpReq 8 s)

/-! ## Ports and the bridge -/

/-- R139: PORT_ENABLE: PORT_CTL.ENABLE is set. -/
def execPortEnable (p : Path) (port : Nat) (s : State) : Host.Outcome State Fault Refusal :=
  .next (named (port < 512) (writeBits p (Reg.portCtl port) 1#64) s)

/-- PORT_CTL with ENABLE 0 and the other RW fields as they stand. -/
def disableWord (s : State) (port : Nat) : Word := clrBit (s.rd (Reg.portCtl port)) 0 &&& ~~~2#64

/-- R62: PORT_DISABLE: PORT_CTL.ENABLE is cleared. -/
def execPortDisable (p : Path) (port : Nat) (s : State) : Host.Outcome State Fault Refusal :=
  .next (named (port < 512) (writeBy p (Reg.portCtl port) 8 (disableWord s port)) s)

/-- R63: PORT_RETRAIN: PORT_CTL.RETRAIN. -/
def execPortRetrain (p : Path) (port : Nat) (s : State) : Host.Outcome State Fault Refusal :=
  .next (named (port < 512) (writeBits p (Reg.portCtl port) 2#64) s)

/-- R153: BXE_FORCE_CONTAIN: BXE_CTL.FORCE_CONTAIN of a legacy index. -/
def execBxeForceContain (p : Path) (index : Nat) (s : State) : Host.Outcome State Fault Refusal :=
  .next (named (index < 256) (writeBits p (Reg.bxeCtl index) 4#64) s)

/-- R156: BXE_RELEASE: BXE_CTL.RELEASE of a legacy index. -/
def execBxeRelease (p : Path) (index : Nat) (s : State) : Host.Outcome State Fault Refusal :=
  .next (named (index < 256) (writeBits p (Reg.bxeCtl index) 8#64) s)

/-! ## Home -/

/-- R205: HOST_READMIT: HOST_COH_nn.READMIT. -/
def execHostReadmit (p : Path) (h : Nat) (s : State) : Host.Outcome State Fault Refusal :=
  .next (named (h < 64) (writeBits p (Reg.hostCoh h) 1#64) s)

/-- R185: CHANNEL_RETIRE_REQUEST: CH_STATUS_nnn.RETIRE. -/
def execChannelRetireRequest (p : Path) (ch : Nat) (s : State) : Host.Outcome State Fault Refusal :=
  .next (named (ch < 128) (writeBits p (Reg.chStatus ch) (mkFld 48 48 1)) s)

/-! ## Queues and engines -/

/-- R316: QUEUE_RESET: Q_RESET with GO. -/
def execQueueReset (p : Path) (data : Word) (s : State) : Host.Outcome State Fault Refusal :=
  .next (writeBy p Reg.qReset 8 (setBit data 63) s)

/-- R333: ENG_ABORT: ENG_CTL.ABORT. -/
def execEngAbort (p : Path) (e : Nat) (s : State) : Host.Outcome State Fault Refusal :=
  .next (named (e < 128) (writeBits p (Reg.engCtl e) 4#64) s)

/-- R389: ENGINE_RESUME: SH_CTL.RESUME. -/
def execEngineResume (p : Path) (e : Nat) (s : State) : Host.Outcome State Fault Refusal :=
  .next (named (e < 128) (writeBits p (Reg.shCtl e) 1#64) s)

/-! ## Power, shadow sets, handovers, exchanges -/

/-- R503: OFF_GO: PWR_CTL.OFF_GO. -/
def execOffGo (p : Path) (s : State) : Host.Outcome State Fault Refusal := .next (writeBits p Reg.pwrCtl 1#64 s)

/-- R431: SHADOW_OPEN: SHADOW_CTL.OPEN. -/
def execShadowOpen (p : Path) (s : State) : Host.Outcome State Fault Refusal := .next (writeBits p Reg.shadowCtl 1#64 s)

/-- R431: SHADOW_DATA_WRITE. -/
def execShadowDataWrite (p : Path) (data : Word) (s : State) : Host.Outcome State Fault Refusal :=
  .next (writeBy p Reg.shadowData 8 data s)

/-- R431: SHADOW_GO: SHADOW_CTL.GO. -/
def execShadowGo (p : Path) (s : State) : Host.Outcome State Fault Refusal := .next (writeBits p Reg.shadowCtl 2#64 s)

/-- R434: SHADOW_ABANDON: SHADOW_CTL.ABANDON. -/
def execShadowAbandon (p : Path) (s : State) : Host.Outcome State Fault Refusal := .next (writeBits p Reg.shadowCtl 4#64 s)

/-- R437: HANDOVER_REQUEST: SPLIT_REQ with GO. -/
def execHandoverRequest (p : Path) (data : Word) (s : State) : Host.Outcome State Fault Refusal :=
  .next (writeBy p Reg.splitReq 8 (setBit data 63) s)

/-- R439: SWAP_REQUEST: SWAP_CTL.GO. -/
def execSwapRequest (p : Path) (s : State) : Host.Outcome State Fault Refusal := .next (writeBits p Reg.swapCtl 1#64 s)

/-! ## The pair -/

/-- R467: MOVE_GO: PAIR_CTL.MOVE_GO. -/
def execMoveGo (p : Path) (s : State) : Host.Outcome State Fault Refusal := .next (writeBits p Reg.pairCtl 2#64 s)

/-- R468: DISSOLVE: PAIR_CTL.DISSOLVE. -/
def execDissolve (p : Path) (s : State) : Host.Outcome State Fault Refusal := .next (writeBits p Reg.pairCtl 4#64 s)

/-- R457: PIN_CLEAR: PAIR_CTL.PIN_CLEAR. -/
def execPinClear (p : Path) (s : State) : Host.Outcome State Fault Refusal := .next (writeBits p Reg.pairCtl 8#64 s)

/-! ## Error records -/

/-- R477: RING_CONS_WRITE: RING_CONS_s of a ring, 1 to 5. -/
def execRingConsWrite (p : Path) (ring value : Nat) (s : State) : Host.Outcome State Fault Refusal :=
  .next (named (1 ≤ ring ∧ ring ≤ 5) (writeBy p (Reg.ringCons ring) 8 (BitVec.ofNat 64 value)) s)

/-- R496: VLOG_CONS_WRITE. -/
def execVlogConsWrite (p : Path) (value : Nat) (s : State) : Host.Outcome State Fault Refusal :=
  .next (writeBy p Reg.vlogCons 8 (BitVec.ofNat 64 value) s)

/-- ISO_CTL with GO. -/
def isoWord (rejoin : Bool) (unit inst : Nat) : Word :=
  mkFld 63 63 1 ||| mkFld 62 62 (b2n rejoin) ||| mkFld 55 48 unit ||| mkFld 17 0 inst

/-- R490: ISO_ISOLATE. -/
def execIsoIsolate (p : Path) (unit inst : Nat) (s : State) : Host.Outcome State Fault Refusal :=
  .next (writeBy p Reg.isoCtl 8 (isoWord false unit inst) s)

/-- R490: ISO_REJOIN. -/
def execIsoRejoin (p : Path) (unit inst : Nat) (s : State) : Host.Outcome State Fault Refusal :=
  .next (writeBy p Reg.isoCtl 8 (isoWord true unit inst) s)

/-! ## Slots and counters -/

/-- R519: SLOT_CLEAR: SLOT_CTL_nnn.CLEAR. -/
def execSlotClear (p : Path) (slot : Nat) (s : State) : Host.Outcome State Fault Refusal :=
  .next (named (slot < 128) (writeBits p (Reg.slotCtl slot) (mkFld 16 16 1)) s)

/-- R519: SLOT_FET_CLEAR: SLOT_CTL_nnn.FET_CLEAR. -/
def execSlotFetClear (p : Path) (slot : Nat) (s : State) : Host.Outcome State Fault Refusal :=
  .next (named (slot < 128) (writeBits p (Reg.slotCtl slot) (mkFld 17 17 1)) s)

/-- R524: SLOT_CMD_GO: SLOT_CMD_nnn with GO. -/
def execSlotCmdGo (p : Path) (slot : Nat) (data : Word) (s : State) : Host.Outcome State Fault Refusal :=
  .next (named (slot < 128) (writeBy p (Reg.slotCmd slot) 8 (setBit data 63)) s)

/-- COUNT_CTL with FREEZE as given, SNAP_EN as it stands and no CLEAR. -/
def freezeWord (s : State) (on : Bool) : Word := putBit (clrBit (s.rd Reg.countCtl) 2) 0 on

/-- R535: COUNT_FREEZE: COUNT_CTL.FREEZE. -/
def execCountFreeze (p : Path) (on : Bool) (s : State) : Host.Outcome State Fault Refusal :=
  .next (writeBy p Reg.countCtl 8 (freezeWord s on) s)

/-- R537: COUNT_CLEAR: COUNT_CTL.CLEAR. -/
def execCountClear (p : Path) (s : State) : Host.Outcome State Fault Refusal := .next (writeBits p Reg.countCtl 4#64 s)

/-! ## MCTP requests, R544-R549 -/

/-- An MCTP request arrives. -/
def mctpArrive (p : Path) (tag cmd off bytes count : Nat) (data : Option Word) (s : State) : State :=
  named (isMctp p) (csrArrive { path := p, reply := .mctp tag cmd, off, bytes, whole := true, data, count }) s

/-- R544: READ32. -/
def execRead32 (p : Path) (tag off : Nat) (s : State) : Host.Outcome State Fault Refusal := .next (mctpArrive p tag 1 off 4 1 none s)

/-- R544: READ64. -/
def execRead64 (p : Path) (tag off : Nat) (s : State) : Host.Outcome State Fault Refusal := .next (mctpArrive p tag 2 off 8 1 none s)

/-- R544: WRITE32. -/
def execWrite32 (p : Path) (tag off : Nat) (data : BitVec 32) (s : State) : Host.Outcome State Fault Refusal :=
  .next (mctpArrive p tag 3 off 4 1 (some (data.setWidth 64)) s)

/-- R544: WRITE64. -/
def execWrite64 (p : Path) (tag off : Nat) (data : Word) (s : State) : Host.Outcome State Fault Refusal :=
  .next (mctpArrive p tag 4 off 8 1 (some data) s)

/-- R549: READ_BLOCK. -/
def execReadBlock (p : Path) (tag off count : Nat) (s : State) : Host.Outcome State Fault Refusal :=
  .next (mctpArrive p tag 5 off 8 count none s)

/-! ## BAR 2, R39, R546 -/

/-- BAR2_ACCESS: a request of the management host reaches BAR 2 of a HOST port. -/
def bar2Request (port : Nat) (r : BarReq) (s : State) : State :=
  if !hostPortUp s port then s
  else
    csrArrive { path := .bar2 port, reply := .bar, off := r.off, bytes := 4 * r.dws, whole := r.allBe, data := r.data, count := 1 }
      (s.count (cntPort port 0) 48 1)

/-- R546: BAR2_ACCESS. -/
def execBar2Access (port : Nat) (req : BarReq) (s : State) : Host.Outcome State Fault Refusal := .next (bar2Request port req s)

/-! ## JTAG CSR_ACCESS, R551, R552 -/

/-- What Capture-DR of CSR_ACCESS gives (assumption 59). -/
def accessCapture (j : Jtag) : Nat := j.accData.toNat * 2 ^ 32 + j.accOff * 2 + b2n j.accErr

/-- The access at Update-DR: a 64-bit read or write at OFFSET × 8. -/
def jtagAccess (write : Bool) (o : Nat) (data : Word) (s : State) : State :=
  let a : CsrAcc :=
    { path := .jtag, reply := .plain, off := 8 * o, bytes := 8, whole := true, data := if write then some data else none, count := 1 }
  match csrCode s a with
  | 0 =>
    let (w, s) := csrDo a s
    { s with jtag.accData := w, jtag.accOff := o, jtag.accErr := false }
  | _ => { s with jtag.accData := 0#64, jtag.accOff := o, jtag.accErr := true }

/-- CSR_ACCESS: a scan of the access register: it captures the last access and makes a new one (OFFSET has 23 bits). BYPASS outside
TEST (assumption 59). -/
def jtagCsr (write : Bool) (off : Nat) (data : Word) (s : State) : State :=
  if s.mode = .test then jtagAccess write (off % 2 ^ 23) data (jtagLoad 0x42 (accessCapture s.jtag) s) else jtagLoad 0xFF 0 s

/-- R552: CSR_ACCESS. -/
def execCsrAccess (write : Bool) (off : Nat) (data : Word) (s : State) : Host.Outcome State Fault Refusal :=
  .next (jtagCsr write off data s)

/-! ## The steward gap ends, R441 -/

/-- The messages that the gap held are sent, in their order (assumption 17). -/
def sendHeld (s : State) : State := s.gapHeld.foldl (fun s m => s.toFm m) { s with gapHeld := [] }

/-- The accesses that the gap held are served, in their order (assumption 17). -/
def serveHeld (s : State) : State := s.alm.held.foldl (fun s a => csrServe a s) { s with alm.held := [] }

/-- SWAP_STATUS.GAP_US, and no gap any more (assumption 17). -/
def gapOver (start : Nat) (s : State) : State := { s.wf Reg.swapStatus 47 16 ((s.now - start) / 1000) with alm.swap := .idle }

/-- STEWARD_FIRMWARE_READY: the firmware that started has read and cleared PEND_EDGES; the gap and the exchange end
(assumption 17). -/
def firmwareReady (s : State) : State :=
  match s.alm.swap with
  | .gap start rev =>
    let s := gapOver start (s.wr Reg.pendEdges 0#64)
    serveHeld (resumeSlots (swapEnd (sendHeld { s with alm.runFw := if rev then s.alm.prevFw else s.alm.newFw })))
  | _ => s

/-- R441: STEWARD_FIRMWARE_READY. -/
def execStewardFirmwareReady (s : State) : Host.Outcome State Fault Refusal := .next (firmwareReady s)

/-- STEWARD_REVERT_TIMEOUT: the previous firmware is not ready 10 ms after the gap started: a FATAL_DEVICE record, and HALT
(assumption 17). -/
def revertFails (s : State) : State :=
  match s.alm.swap with
  | .gap start true =>
    let s := gapOver start (s.reach (start + 10000000))
    let s := almRecord 0x93 .fatalDevice 0 0xFF 0xFF (s.wf Reg.shadowStatus 2 0 0)
    serveHeld (sendHeld (enterHalt { s with alm.swapFw := false, alm.swapLib := false }))
  | _ => s

/-- R441: STEWARD_REVERT_TIMEOUT. -/
def execStewardRevertTimeout (s : State) : Host.Outcome State Fault Refusal := .next (revertFails s)

end Sys2Proof.Machine
end

