-- ==== Sys2Proof/Machine/EngExec.lean ====
section
/-! DEFINITION. The engine instructions, one meaning a row of the table. Each names the engine that issues it and the fields of
its word; for a load also whether the bench words that it reads hold an uncorrectable error (R321).
Assumption 48. -/
namespace Sys2Proof.Machine

/-- R341: ALU ADD writes ra + rb. -/
def execEngAdd (e rd ra rb : Nat) (s : State) : Host.Outcome State Fault Refusal :=
  .next (engRun e (.alu .add rd ra rb) false s)

/-- R341: ALU SUB writes ra − rb. -/
def execEngSub (e rd ra rb : Nat) (s : State) : Host.Outcome State Fault Refusal :=
  .next (engRun e (.alu .sub rd ra rb) false s)

/-- R341: ALU AND writes the bitwise AND. -/
def execEngAnd (e rd ra rb : Nat) (s : State) : Host.Outcome State Fault Refusal :=
  .next (engRun e (.alu .and rd ra rb) false s)

/-- R341: ALU OR writes the bitwise OR. -/
def execEngOr (e rd ra rb : Nat) (s : State) : Host.Outcome State Fault Refusal :=
  .next (engRun e (.alu .or rd ra rb) false s)

/-- R341: ALU XOR writes the bitwise XOR. -/
def execEngXor (e rd ra rb : Nat) (s : State) : Host.Outcome State Fault Refusal :=
  .next (engRun e (.alu .xor rd ra rb) false s)

/-- R341: ALU SLL shifts left by rb[5:0]. -/
def execEngSll (e rd ra rb : Nat) (s : State) : Host.Outcome State Fault Refusal :=
  .next (engRun e (.alu .sll rd ra rb) false s)

/-- R341: ALU SRL shifts right logically. -/
def execEngSrl (e rd ra rb : Nat) (s : State) : Host.Outcome State Fault Refusal :=
  .next (engRun e (.alu .srl rd ra rb) false s)

/-- R341: ALU SRA shifts right arithmetically. -/
def execEngSra (e rd ra rb : Nat) (s : State) : Host.Outcome State Fault Refusal :=
  .next (engRun e (.alu .sra rd ra rb) false s)

/-- R341: ALU SLT writes 1 when ra < rb signed. -/
def execEngSlt (e rd ra rb : Nat) (s : State) : Host.Outcome State Fault Refusal :=
  .next (engRun e (.alu .slt rd ra rb) false s)

/-- R341: ALU SLTU writes 1 when ra < rb unsigned. -/
def execEngSltu (e rd ra rb : Nat) (s : State) : Host.Outcome State Fault Refusal :=
  .next (engRun e (.alu .sltu rd ra rb) false s)

/-- R341: ALU MIN writes the signed minimum. -/
def execEngMin (e rd ra rb : Nat) (s : State) : Host.Outcome State Fault Refusal :=
  .next (engRun e (.alu .min rd ra rb) false s)

/-- R341: ALU MAX writes the signed maximum. -/
def execEngMax (e rd ra rb : Nat) (s : State) : Host.Outcome State Fault Refusal :=
  .next (engRun e (.alu .max rd ra rb) false s)

/-- R341: ALU MINU writes the unsigned minimum. -/
def execEngMinu (e rd ra rb : Nat) (s : State) : Host.Outcome State Fault Refusal :=
  .next (engRun e (.alu .minu rd ra rb) false s)

/-- R341: ALU MAXU writes the unsigned maximum. -/
def execEngMaxu (e rd ra rb : Nat) (s : State) : Host.Outcome State Fault Refusal :=
  .next (engRun e (.alu .maxu rd ra rb) false s)

/-- R341: ALU MUL writes the low 64 bits of the product. -/
def execEngMul (e rd ra rb : Nat) (s : State) : Host.Outcome State Fault Refusal :=
  .next (engRun e (.alu .mul rd ra rb) false s)

/-- R341: ALU MULH writes the high 64 bits, signed. -/
def execEngMulh (e rd ra rb : Nat) (s : State) : Host.Outcome State Fault Refusal :=
  .next (engRun e (.alu .mulh rd ra rb) false s)

/-- R341: ALU MULHU writes the high 64 bits, unsigned. -/
def execEngMulhu (e rd ra rb : Nat) (s : State) : Host.Outcome State Fault Refusal :=
  .next (engRun e (.alu .mulhu rd ra rb) false s)

/-- R341: ALU DIV divides signed, rounding toward zero. -/
def execEngDiv (e rd ra rb : Nat) (s : State) : Host.Outcome State Fault Refusal :=
  .next (engRun e (.alu .div rd ra rb) false s)

/-- R341: ALU DIVU divides unsigned. -/
def execEngDivu (e rd ra rb : Nat) (s : State) : Host.Outcome State Fault Refusal :=
  .next (engRun e (.alu .divu rd ra rb) false s)

/-- R341: ALU REM writes the signed remainder. -/
def execEngRem (e rd ra rb : Nat) (s : State) : Host.Outcome State Fault Refusal :=
  .next (engRun e (.alu .rem rd ra rb) false s)

/-- R341: ALU REMU writes the unsigned remainder. -/
def execEngRemu (e rd ra rb : Nat) (s : State) : Host.Outcome State Fault Refusal :=
  .next (engRun e (.alu .remu rd ra rb) false s)

/-- R341: ALU CLZ counts leading zeros of ra. -/
def execEngClz (e rd ra rb : Nat) (s : State) : Host.Outcome State Fault Refusal :=
  .next (engRun e (.alu .clz rd ra rb) false s)

/-- R341: ALU CTZ counts trailing zeros of ra. -/
def execEngCtz (e rd ra rb : Nat) (s : State) : Host.Outcome State Fault Refusal :=
  .next (engRun e (.alu .ctz rd ra rb) false s)

/-- R341: ALU POPC counts set bits of ra. -/
def execEngPopc (e rd ra rb : Nat) (s : State) : Host.Outcome State Fault Refusal :=
  .next (engRun e (.alu .popc rd ra rb) false s)

/-- R341: ALU BREV8 reverses the bytes of ra. -/
def execEngBrev8 (e rd ra rb : Nat) (s : State) : Host.Outcome State Fault Refusal :=
  .next (engRun e (.alu .brev8 rd ra rb) false s)

/-- R341: ADDI writes ra + sext(imm16). -/
def execEngAddi (e rd ra im : Nat) (s : State) : Host.Outcome State Fault Refusal :=
  .next (engRun e (.imm .addi rd ra im) false s)

/-- R341: ANDI ANDs with the zero-extended immediate. -/
def execEngAndi (e rd ra im : Nat) (s : State) : Host.Outcome State Fault Refusal :=
  .next (engRun e (.imm .andi rd ra im) false s)

/-- R341: ORI ORs with the zero-extended immediate. -/
def execEngOri (e rd ra im : Nat) (s : State) : Host.Outcome State Fault Refusal :=
  .next (engRun e (.imm .ori rd ra im) false s)

/-- R341: XORI XORs with the zero-extended immediate. -/
def execEngXori (e rd ra im : Nat) (s : State) : Host.Outcome State Fault Refusal :=
  .next (engRun e (.imm .xori rd ra im) false s)

/-- R341: SLTI compares ra with the immediate, signed. -/
def execEngSlti (e rd ra im : Nat) (s : State) : Host.Outcome State Fault Refusal :=
  .next (engRun e (.imm .slti rd ra im) false s)

/-- R341: SLTIU compares ra with the immediate, unsigned. -/
def execEngSltiu (e rd ra im : Nat) (s : State) : Host.Outcome State Fault Refusal :=
  .next (engRun e (.imm .sltiu rd ra im) false s)

/-- R341: SHI with SLL shifts left by an immediate amount. -/
def execEngShiSll (e rd ra x amt : Nat) (s : State) : Host.Outcome State Fault Refusal :=
  .next (engRun e (.shi .sll rd ra x amt) false s)

/-- R341: SHI with SRL shifts right logically by an immediate amount. -/
def execEngShiSrl (e rd ra x amt : Nat) (s : State) : Host.Outcome State Fault Refusal :=
  .next (engRun e (.shi .srl rd ra x amt) false s)

/-- R341: SHI with SRA shifts right arithmetically by an immediate amount. -/
def execEngShiSra (e rd ra x amt : Nat) (s : State) : Host.Outcome State Fault Refusal :=
  .next (engRun e (.shi .sra rd ra x amt) false s)

/-- R341: LUI writes sext(imm16 × 2^16). -/
def execEngLui (e rd im : Nat) (s : State) : Host.Outcome State Fault Refusal :=
  .next (engRun e (.lui rd im) false s)

/-- R342: Scalar FADD adds in FMT, rounded once. -/
def execEngFadd (e fmt rd ra rb : Nat) (s : State) : Host.Outcome State Fault Refusal :=
  .next (engRun e (.fpu .add fmt 0 rd ra rb) false s)

/-- R342: Scalar FSUB subtracts in FMT. -/
def execEngFsub (e fmt rd ra rb : Nat) (s : State) : Host.Outcome State Fault Refusal :=
  .next (engRun e (.fpu .sub fmt 0 rd ra rb) false s)

/-- R342: Scalar FMUL multiplies in FMT. -/
def execEngFmul (e fmt rd ra rb : Nat) (s : State) : Host.Outcome State Fault Refusal :=
  .next (engRun e (.fpu .mul fmt 0 rd ra rb) false s)

/-- R342: Scalar FDIV divides in FMT. -/
def execEngFdiv (e fmt rd ra rb : Nat) (s : State) : Host.Outcome State Fault Refusal :=
  .next (engRun e (.fpu .div fmt 0 rd ra rb) false s)

/-- R342: Scalar FMIN returns the smaller operand. -/
def execEngFmin (e fmt rd ra rb : Nat) (s : State) : Host.Outcome State Fault Refusal :=
  .next (engRun e (.fpu .min fmt 0 rd ra rb) false s)

/-- R342: Scalar FMAX returns the larger operand. -/
def execEngFmax (e fmt rd ra rb : Nat) (s : State) : Host.Outcome State Fault Refusal :=
  .next (engRun e (.fpu .max fmt 0 rd ra rb) false s)

/-- R342: Scalar FSQRT takes the square root of ra. -/
def execEngFsqrt (e fmt rd ra rb : Nat) (s : State) : Host.Outcome State Fault Refusal :=
  .next (engRun e (.fpu .sqrt fmt 0 rd ra rb) false s)

/-- R342: FEQ writes 1 when the operands are equal. -/
def execEngFeq (e fmt rd ra rb : Nat) (s : State) : Host.Outcome State Fault Refusal :=
  .next (engRun e (.fpu .eq fmt 0 rd ra rb) false s)

/-- R342: FLT writes 1 when ra is less than rb. -/
def execEngFlt (e fmt rd ra rb : Nat) (s : State) : Host.Outcome State Fault Refusal :=
  .next (engRun e (.fpu .lt fmt 0 rd ra rb) false s)

/-- R342: FLE writes 1 when ra is at most rb. -/
def execEngFle (e fmt rd ra rb : Nat) (s : State) : Host.Outcome State Fault Refusal :=
  .next (engRun e (.fpu .le fmt 0 rd ra rb) false s)

/-- R342: FCVT.I converts to signed 64-bit, saturating. -/
def execEngFcvtI (e fmt rd ra rb : Nat) (s : State) : Host.Outcome State Fault Refusal :=
  .next (engRun e (.fpu .cvtI fmt 0 rd ra rb) false s)

/-- R342: FCVT.F converts from signed 64-bit. -/
def execEngFcvtF (e fmt rd ra rb : Nat) (s : State) : Host.Outcome State Fault Refusal :=
  .next (engRun e (.fpu .cvtF fmt 0 rd ra rb) false s)

/-- R342: FCVT.X converts from SRC format to FMT. -/
def execEngFcvtX (e fmt src rd ra rb : Nat) (s : State) : Host.Outcome State Fault Refusal :=
  .next (engRun e (.fpu .cvtX fmt src rd ra rb) false s)

/-- R343: LB loads a sign-extended byte. -/
def execEngLb (e rd ra im : Nat) (ue : Bool) (s : State) : Host.Outcome State Fault Refusal :=
  .next (engRun e (.load .b rd ra im) ue s)

/-- R343: LBU loads a zero-extended byte. -/
def execEngLbu (e rd ra im : Nat) (ue : Bool) (s : State) : Host.Outcome State Fault Refusal :=
  .next (engRun e (.load .bu rd ra im) ue s)

/-- R343: LH loads a sign-extended halfword. -/
def execEngLh (e rd ra im : Nat) (ue : Bool) (s : State) : Host.Outcome State Fault Refusal :=
  .next (engRun e (.load .h rd ra im) ue s)

/-- R343: LHU loads a zero-extended halfword. -/
def execEngLhu (e rd ra im : Nat) (ue : Bool) (s : State) : Host.Outcome State Fault Refusal :=
  .next (engRun e (.load .hu rd ra im) ue s)

/-- R343: LW loads a sign-extended word. -/
def execEngLw (e rd ra im : Nat) (ue : Bool) (s : State) : Host.Outcome State Fault Refusal :=
  .next (engRun e (.load .w rd ra im) ue s)

/-- R343: LWU loads a zero-extended word. -/
def execEngLwu (e rd ra im : Nat) (ue : Bool) (s : State) : Host.Outcome State Fault Refusal :=
  .next (engRun e (.load .wu rd ra im) ue s)

/-- R343: LD loads 8 bytes. -/
def execEngLd (e rd ra im : Nat) (ue : Bool) (s : State) : Host.Outcome State Fault Refusal :=
  .next (engRun e (.load .d rd ra im) ue s)

/-- R343: SB stores a byte to the bench or a window. -/
def execEngSb (e rs ra im : Nat) (s : State) : Host.Outcome State Fault Refusal :=
  .next (engRun e (.store 0 rs ra im) false s)

/-- R343: SH stores a halfword. -/
def execEngSh (e rs ra im : Nat) (s : State) : Host.Outcome State Fault Refusal :=
  .next (engRun e (.store 1 rs ra im) false s)

/-- R343: SW stores a word. -/
def execEngSw (e rs ra im : Nat) (s : State) : Host.Outcome State Fault Refusal :=
  .next (engRun e (.store 2 rs ra im) false s)

/-- R343: SD stores 8 bytes. -/
def execEngSd (e rs ra im : Nat) (s : State) : Host.Outcome State Fault Refusal :=
  .next (engRun e (.store 3 rs ra im) false s)

/-- R343: VLD loads 64 aligned bytes into a vector register. -/
def execEngVld (e vd ra im : Nat) (ue : Bool) (s : State) : Host.Outcome State Fault Refusal :=
  .next (engRun e (.vld vd ra im) ue s)

/-- R343: VST stores 64 bytes of a vector register. -/
def execEngVst (e vs ra im : Nat) (s : State) : Host.Outcome State Fault Refusal :=
  .next (engRun e (.vst vs ra im) false s)

/-- R343: VSTM stores the active lanes of a vector register. -/
def execEngVstm (e vd ra typ p : Nat) (s : State) : Host.Outcome State Fault Refusal :=
  .next (engRun e (.vstm vd ra typ p) false s)

/-- R344: BEQ branches when the registers are equal, with a delay slot. -/
def execEngBeq (e a b off annul : Nat) (s : State) : Host.Outcome State Fault Refusal :=
  .next (engRun e (.br .eq a b off annul) false s)

/-- R344: BNE branches when they differ. -/
def execEngBne (e a b off annul : Nat) (s : State) : Host.Outcome State Fault Refusal :=
  .next (engRun e (.br .ne a b off annul) false s)

/-- R344: BLT branches when less, signed. -/
def execEngBlt (e a b off annul : Nat) (s : State) : Host.Outcome State Fault Refusal :=
  .next (engRun e (.br .lt a b off annul) false s)

/-- R344: BGE branches when greater or equal, signed. -/
def execEngBge (e a b off annul : Nat) (s : State) : Host.Outcome State Fault Refusal :=
  .next (engRun e (.br .ge a b off annul) false s)

/-- R344: BLTU branches when less, unsigned. -/
def execEngBltu (e a b off annul : Nat) (s : State) : Host.Outcome State Fault Refusal :=
  .next (engRun e (.br .ltu a b off annul) false s)

/-- R344: BGEU branches when greater or equal, unsigned. -/
def execEngBgeu (e a b off annul : Nat) (s : State) : Host.Outcome State Fault Refusal :=
  .next (engRun e (.br .geu a b off annul) false s)

/-- R344: J jumps by a 26-bit offset. -/
def execEngJ (e off : Nat) (s : State) : Host.Outcome State Fault Refusal :=
  .next (engRun e (.jump off) false s)

/-- R344: JAL jumps and links to g30. -/
def execEngJal (e off : Nat) (s : State) : Host.Outcome State Fault Refusal :=
  .next (engRun e (.jal off) false s)

/-- R344: JR jumps to g(ra) and links when rd is not 0. -/
def execEngJr (e rd ra x : Nat) (s : State) : Host.Outcome State Fault Refusal :=
  .next (engRun e (.jr rd ra x) false s)

/-- R346: LOOP starts a hardware loop with a count from a register. -/
def execEngLoop (e ra len : Nat) (s : State) : Host.Outcome State Fault Refusal :=
  .next (engRun e (.loop ra len) false s)

/-- R346: LOOPI starts a hardware loop with an immediate count. -/
def execEngLoopi (e count len : Nat) (s : State) : Host.Outcome State Fault Refusal :=
  .next (engRun e (.loopi count len) false s)

/-- R351: QPUSH commits one item from the bench under the slot's producer binding. -/
def execEngQpush (e rd ra x slot : Nat) (s : State) : Host.Outcome State Fault Refusal :=
  .next (engRun e (.qpush rd ra x slot) false s)

/-- R352: QPOP copies and passes the current item of the slot's stream queue. -/
def execEngQpop (e rd ra x slot : Nat) (s : State) : Host.Outcome State Fault Refusal :=
  .next (engRun e (.qpop rd ra x slot) false s)

/-- R353: QREL RELEASE issues RELEASE on the stream queue. -/
def execEngQrelRelease (e x y slot : Nat) (s : State) : Host.Outcome State Fault Refusal :=
  .next (engRun e (.qrel .release x y slot) false s)

/-- R353: QREL MARK issues MARK on the stream queue. -/
def execEngQrelMark (e x y slot : Nat) (s : State) : Host.Outcome State Fault Refusal :=
  .next (engRun e (.qrel .mark x y slot) false s)

/-- R353: QREL REWIND issues REWIND on the stream queue. -/
def execEngQrelRewind (e x y slot : Nat) (s : State) : Host.Outcome State Fault Refusal :=
  .next (engRun e (.qrel .rewind x y slot) false s)

/-- R354: WAIT.H stops issue for the last arbiter hint, capped by the immediate. -/
def execEngWaitH (e x im : Nat) (s : State) : Host.Outcome State Fault Refusal :=
  .next (engRun e (.waitH x im) false s)

/-- R371: TRAP completes and raises the TRAP exception. -/
def execEngTrap (e x im : Nat) (s : State) : Host.Outcome State Fault Refusal :=
  .next (engRun e (.trap x im) false s)

/-- R370: RFE restores state from the frame and returns to the saved EPC. -/
def execEngRfe (e x : Nat) (s : State) : Host.Outcome State Fault Refusal :=
  .next (engRun e (.rfe x) false s)

/-- R355: SETM writes g(ra) to MODE. -/
def execEngSetm (e x ra y : Nat) (s : State) : Host.Outcome State Fault Refusal :=
  .next (engRun e (.setm x ra y) false s)

/-- R338: MFS reads a special register. -/
def execEngMfs (e rd x im : Nat) (s : State) : Host.Outcome State Fault Refusal :=
  .next (engRun e (.mfs rd x im) false s)

/-- R338: MTS writes a special register. -/
def execEngMts (e x ra im : Nat) (s : State) : Host.Outcome State Fault Refusal :=
  .next (engRun e (.mts x ra im) false s)

/-- R383: ORD.L waits for every earlier far load. -/
def execEngOrdL (e x : Nat) (s : State) : Host.Outcome State Fault Refusal :=
  .next (engRun e (.ord .l x) false s)

/-- R383: ORD.S drains the store buffer. -/
def execEngOrdS (e x : Nat) (s : State) : Host.Outcome State Fault Refusal :=
  .next (engRun e (.ord .s x) false s)

/-- R383: ORD.A waits for loads and drains stores. -/
def execEngOrdA (e x : Nat) (s : State) : Host.Outcome State Fault Refusal :=
  .next (engRun e (.ord .a x) false s)

/-- R356: DONE ends the job with status OK once the store buffer is empty. -/
def execEngDone (e x : Nat) (s : State) : Host.Outcome State Fault Refusal :=
  .next (engRun e (.done x) false s)

/-- R349: VALU VADD adds lanes. -/
def execEngVadd (e typ vd va vb p : Nat) (s : State) : Host.Outcome State Fault Refusal :=
  .next (engRun e (.valu .add typ vd va vb p) false s)

/-- R349: VALU VSUB subtracts lanes. -/
def execEngVsub (e typ vd va vb p : Nat) (s : State) : Host.Outcome State Fault Refusal :=
  .next (engRun e (.valu .sub typ vd va vb p) false s)

/-- R349: VALU VMUL multiplies lanes. -/
def execEngVmul (e typ vd va vb p : Nat) (s : State) : Host.Outcome State Fault Refusal :=
  .next (engRun e (.valu .mul typ vd va vb p) false s)

/-- R349: VALU VMIN takes lane minima. -/
def execEngVmin (e typ vd va vb p : Nat) (s : State) : Host.Outcome State Fault Refusal :=
  .next (engRun e (.valu .min typ vd va vb p) false s)

/-- R349: VALU VMAX takes lane maxima. -/
def execEngVmax (e typ vd va vb p : Nat) (s : State) : Host.Outcome State Fault Refusal :=
  .next (engRun e (.valu .max typ vd va vb p) false s)

/-- R349: VALU VAND ANDs lanes. -/
def execEngVand (e typ vd va vb p : Nat) (s : State) : Host.Outcome State Fault Refusal :=
  .next (engRun e (.valu .and typ vd va vb p) false s)

/-- R349: VALU VOR ORs lanes. -/
def execEngVor (e typ vd va vb p : Nat) (s : State) : Host.Outcome State Fault Refusal :=
  .next (engRun e (.valu .or typ vd va vb p) false s)

/-- R349: VALU VXOR XORs lanes. -/
def execEngVxor (e typ vd va vb p : Nat) (s : State) : Host.Outcome State Fault Refusal :=
  .next (engRun e (.valu .xor typ vd va vb p) false s)

/-- R349: VALU VSLL shifts integer lanes left. -/
def execEngVsll (e typ vd va vb p : Nat) (s : State) : Host.Outcome State Fault Refusal :=
  .next (engRun e (.valu .sll typ vd va vb p) false s)

/-- R349: VALU VSRL shifts integer lanes right logically. -/
def execEngVsrl (e typ vd va vb p : Nat) (s : State) : Host.Outcome State Fault Refusal :=
  .next (engRun e (.valu .srl typ vd va vb p) false s)

/-- R349: VALU VSRA shifts integer lanes right arithmetically. -/
def execEngVsra (e typ vd va vb p : Nat) (s : State) : Host.Outcome State Fault Refusal :=
  .next (engRun e (.valu .sra typ vd va vb p) false s)

/-- R349: VALU VFMA computes vd + va × vb. -/
def execEngVfma (e typ vd va vb p : Nat) (s : State) : Host.Outcome State Fault Refusal :=
  .next (engRun e (.valu .fma typ vd va vb p) false s)

/-- R349: VALU VABS takes lane absolute values. -/
def execEngVabs (e typ vd va vb p : Nat) (s : State) : Host.Outcome State Fault Refusal :=
  .next (engRun e (.valu .abs typ vd va vb p) false s)

/-- R349: VALU VNEG negates lanes. -/
def execEngVneg (e typ vd va vb p : Nat) (s : State) : Host.Outcome State Fault Refusal :=
  .next (engRun e (.valu .neg typ vd va vb p) false s)

/-- R349: VALU VDIV divides floating lanes. -/
def execEngVdiv (e typ vd va vb p : Nat) (s : State) : Host.Outcome State Fault Refusal :=
  .next (engRun e (.valu .div typ vd va vb p) false s)

/-- R349: VALU VSEL selects lanes by mask. -/
def execEngVsel (e typ vd va vb p : Nat) (s : State) : Host.Outcome State Fault Refusal :=
  .next (engRun e (.valu .sel typ vd va vb p) false s)

/-- R350: VRED ADD sums active lanes in ascending order. -/
def execEngVredAdd (e typ rd va x p : Nat) (s : State) : Host.Outcome State Fault Refusal :=
  .next (engRun e (.vred .add typ rd va x p) false s)

/-- R350: VRED MIN reduces active lanes to their minimum. -/
def execEngVredMin (e typ rd va x p : Nat) (s : State) : Host.Outcome State Fault Refusal :=
  .next (engRun e (.vred .min typ rd va x p) false s)

/-- R350: VRED MAX reduces active lanes to their maximum. -/
def execEngVredMax (e typ rd va x p : Nat) (s : State) : Host.Outcome State Fault Refusal :=
  .next (engRun e (.vred .max typ rd va x p) false s)

/-- R350: VRED AND reduces active lanes by AND. -/
def execEngVredAnd (e typ rd va x p : Nat) (s : State) : Host.Outcome State Fault Refusal :=
  .next (engRun e (.vred .and typ rd va x p) false s)

/-- R350: VRED OR reduces active lanes by OR. -/
def execEngVredOr (e typ rd va x p : Nat) (s : State) : Host.Outcome State Fault Refusal :=
  .next (engRun e (.vred .or typ rd va x p) false s)

/-- R350: VRED XOR reduces active lanes by XOR. -/
def execEngVredXor (e typ rd va x p : Nat) (s : State) : Host.Outcome State Fault Refusal :=
  .next (engRun e (.vred .xor typ rd va x p) false s)

/-- R350: VCMP EQ writes a mask of equal lanes. -/
def execEngVcmpEq (e typ pd va vb p : Nat) (s : State) : Host.Outcome State Fault Refusal :=
  .next (engRun e (.vcmp .eq typ pd va vb p) false s)

/-- R350: VCMP NE writes a mask of unequal lanes. -/
def execEngVcmpNe (e typ pd va vb p : Nat) (s : State) : Host.Outcome State Fault Refusal :=
  .next (engRun e (.vcmp .ne typ pd va vb p) false s)

/-- R350: VCMP LT writes a mask of lanes less, signed or floating. -/
def execEngVcmpLt (e typ pd va vb p : Nat) (s : State) : Host.Outcome State Fault Refusal :=
  .next (engRun e (.vcmp .lt typ pd va vb p) false s)

/-- R350: VCMP LE writes a mask of lanes at most, signed or floating. -/
def execEngVcmpLe (e typ pd va vb p : Nat) (s : State) : Host.Outcome State Fault Refusal :=
  .next (engRun e (.vcmp .le typ pd va vb p) false s)

/-- R350: VCMP LTU writes a mask of lanes less, unsigned. -/
def execEngVcmpLtu (e typ pd va vb p : Nat) (s : State) : Host.Outcome State Fault Refusal :=
  .next (engRun e (.vcmp .ltu typ pd va vb p) false s)

/-- R350: VCMP LEU writes a mask of lanes at most, unsigned. -/
def execEngVcmpLeu (e typ pd va vb p : Nat) (s : State) : Host.Outcome State Fault Refusal :=
  .next (engRun e (.vcmp .leu typ pd va vb p) false s)

/-- R350: VMOV VBCAST writes g(ra) to every active lane. -/
def execEngVbcast (e typ vd ra x p : Nat) (s : State) : Host.Outcome State Fault Refusal :=
  .next (engRun e (.vbcast typ vd ra x p) false s)

/-- R350: VMOV VEXT extracts a lane to a general register. -/
def execEngVext (e typ rd va rb p : Nat) (s : State) : Host.Outcome State Fault Refusal :=
  .next (engRun e (.vext typ rd va rb p) false s)

/-- R350: VMOV VINS inserts g(ra) into a lane. -/
def execEngVins (e typ vd ra rb p : Nat) (s : State) : Host.Outcome State Fault Refusal :=
  .next (engRun e (.vins typ vd ra rb p) false s)

/-- R350: VMOV MFP copies a mask register to a general register. -/
def execEngMfp (e typ rd ra x p : Nat) (s : State) : Host.Outcome State Fault Refusal :=
  .next (engRun e (.mfp typ rd ra x p) false s)

/-- R350: VMOV MTP copies a general register to a mask register. -/
def execEngMtp (e typ rd ra x p : Nat) (s : State) : Host.Outcome State Fault Refusal :=
  .next (engRun e (.mtp typ rd ra x p) false s)

end Sys2Proof.Machine
end

