-- ==== Sys2Proof/Machine/Dispatch.lean ====
section
/-! DEFINITION. The command's meaning: one arm a constructor. -/
namespace Sys2Proof.Machine

def exec (i : Instr) (s : State) : Host.Outcome State Fault Refusal :=
  match i with
  | .registerWrite p off bytes data => Sys2Proof.Machine.execRegisterWrite p off bytes data s
  | .clearingRead p off bytes => Sys2Proof.Machine.execClearingRead p off bytes s
  | .hostMemRequest port r => Sys2Proof.Machine.execHostMemRequest port r s
  | .translationWalkStart die => Sys2Proof.Machine.execTranslationWalkStart die s
  | .walkComplete die window slot ecc => Sys2Proof.Machine.execWalkComplete die window slot ecc s
  | .fillReqRead p die => Sys2Proof.Machine.execFillReqRead p die s
  | .fillRespWrite p die data => Sys2Proof.Machine.execFillRespWrite p die data s
  | .fillTimeout die tag => Sys2Proof.Machine.execFillTimeout die tag s
  | .trackerIssue k => Sys2Proof.Machine.execTrackerIssue k s
  | .responseArrives r => Sys2Proof.Machine.execResponseArrives r s
  | .ringUnitDelivered k chk => Sys2Proof.Machine.execRingUnitDelivered k chk s
  | .planeRecoveryResync p => Sys2Proof.Machine.execPlaneRecoveryResync p s
  | .creditReturn k => Sys2Proof.Machine.execCreditReturn k s
  | .arbiterGrant arb cycle => Sys2Proof.Machine.execArbiterGrant arb cycle s
  | .frameBoundary => Sys2Proof.Machine.execFrameBoundary s
  | .contractRecompute => Sys2Proof.Machine.execContractRecompute s
  | .legacyPostedWrite port w => Sys2Proof.Machine.execLegacyPostedWrite port w s
  | .legacyRead port r => Sys2Proof.Machine.execLegacyRead port r s
  | .legacyZeroLengthRead port r => Sys2Proof.Machine.execLegacyZeroLengthRead port r s
  | .legacyAtomic port r op => Sys2Proof.Machine.execLegacyAtomic port r op s
  | .legacyCompletion port c => Sys2Proof.Machine.execLegacyCompletion port c s
  | .legacyCxlResponse port tag m => Sys2Proof.Machine.execLegacyCxlResponse port tag m s
  | .lineWriteAck k => Sys2Proof.Machine.execLineWriteAck k s
  | .hostIoRequest port vb r => Sys2Proof.Machine.execHostIoRequest port vb r s
  | .hostLinkCompletion port c => Sys2Proof.Machine.execHostLinkCompletion port c s
  | .egressSend port => Sys2Proof.Machine.execEgressSend port s
  | .tagQuarantineExpiry port tag => Sys2Proof.Machine.execTagQuarantineExpiry port tag s
  | .hostLinkWaitTimeout port => Sys2Proof.Machine.execHostLinkWaitTimeout port s
  | .targetTimeout port tag => Sys2Proof.Machine.execTargetTimeout port tag s
  | .trackerTimeout k => Sys2Proof.Machine.execTrackerTimeout k s
  | .trackerHoldExpiry k => Sys2Proof.Machine.execTrackerHoldExpiry k s
  | .protocolErrorReceived port e => Sys2Proof.Machine.execProtocolErrorReceived port e s
  | .bxeForceContain p index => Sys2Proof.Machine.execBxeForceContain p index s
  | .bxeRelease p index => Sys2Proof.Machine.execBxeRelease p index s
  | .dpcTriggerClear port => Sys2Proof.Machine.execDpcTriggerClear port s
  | .dpcSoftwareTrigger port => Sys2Proof.Machine.execDpcSoftwareTrigger port s
  | .containmentSignal port => Sys2Proof.Machine.execContainmentSignal port s
  | .intxDeassertSend port => Sys2Proof.Machine.execIntxDeassertSend port s
  | .legacyIntxMessage port m on => Sys2Proof.Machine.execLegacyIntxMessage port m on s
  | .legacyErrMessage port code reqId => Sys2Proof.Machine.execLegacyErrMessage port code reqId s
  | .legacyCxlEvent port e => Sys2Proof.Machine.execLegacyCxlEvent port e s
  | .eventCollection port rs => Sys2Proof.Machine.execEventCollection port rs s
  | .islErrorMessage port tag k => Sys2Proof.Machine.execIslErrorMessage port tag k s
  | .homeRequestArrives k => Sys2Proof.Machine.execHomeRequestArrives k s
  | .homeAccessStart line => Sys2Proof.Machine.execHomeAccessStart line s
  | .sfSetReadComplete die set ecc => Sys2Proof.Machine.execSfSetReadComplete die set ecc s
  | .holderWriteback k => Sys2Proof.Machine.execHolderWriteback k s
  | .birspReceived tag rsp => Sys2Proof.Machine.execBirspReceived tag rsp s
  | .biconflictReceived port line => Sys2Proof.Machine.execBiconflictReceived port line s
  | .biTimeout tag => Sys2Proof.Machine.execBiTimeout tag s
  | .goneTimeout h => Sys2Proof.Machine.execGoneTimeout h s
  | .reclaimWalkComplete h => Sys2Proof.Machine.execReclaimWalkComplete h s
  | .hostReadmit p h => Sys2Proof.Machine.execHostReadmit p h s
  | .evictReqRead p die => Sys2Proof.Machine.execEvictReqRead p die s
  | .evictRespWrite p die data => Sys2Proof.Machine.execEvictRespWrite p die data s
  | .evictTimeout die tag => Sys2Proof.Machine.execEvictTimeout die tag s
  | .partnerEvictRequest set => Sys2Proof.Machine.execPartnerEvictRequest set s
  | .mirrorWriteReceived id line d poison tail => Sys2Proof.Machine.execMirrorWriteReceived id line d poison tail s
  | .mirrorAckReceived id => Sys2Proof.Machine.execMirrorAckReceived id s
  | .mirrorSfUpdate line e => Sys2Proof.Machine.execMirrorSfUpdate line e s
  | .channelSchedule ch refresh reads writes openRows => Sys2Proof.Machine.execChannelSchedule ch refresh reads writes openRows s
  | .channelReadComplete ch k ecc => Sys2Proof.Machine.execChannelReadComplete ch k ecc s
  | .patrolScrubRead => Sys2Proof.Machine.execPatrolScrubRead s
  | .channelRetireRequest p ch => Sys2Proof.Machine.execChannelRetireRequest p ch s
  | .retireGranuleCopied ch e => Sys2Proof.Machine.execRetireGranuleCopied ch e s
  | .channelDead ch => Sys2Proof.Machine.execChannelDead ch s
  | .tickBoundary partner => Sys2Proof.Machine.execTickBoundary partner s
  | .bellInEdge low high => Sys2Proof.Machine.execBellInEdge low high s
  | .bellOutFall => Sys2Proof.Machine.execBellOutFall s
  | .tickWriteStage k => Sys2Proof.Machine.execTickWriteStage k s
  | .tickRead k e => Sys2Proof.Machine.execTickRead k e s
  | .tickPublish errs => Sys2Proof.Machine.execTickPublish errs s
  | .tagRetagWalk => Sys2Proof.Machine.execTagRetagWalk s
  | .mirrorStageReceived id tick contrib line tickId op mask d poison => Sys2Proof.Machine.execMirrorStageReceived id tick contrib line tickId op mask d poison s
  | .absentMaskReceived tick mask => Sys2Proof.Machine.execAbsentMaskReceived tick mask s
  | .mirrorCommitComplete tick => Sys2Proof.Machine.execMirrorCommitComplete tick s
  | .generationDrained gen => Sys2Proof.Machine.execGenerationDrained gen s
  | .extentScrubComplete ext => Sys2Proof.Machine.execExtentScrubComplete ext s
  | .migrationCopyDone n lines => Sys2Proof.Machine.execMigrationCopyDone n lines s
  | .dcAddRequest host region req => Sys2Proof.Machine.execDcAddRequest host region req s
  | .dcAddResponse host region accepted => Sys2Proof.Machine.execDcAddResponse host region accepted s
  | .dcReleaseRequest host region slots => Sys2Proof.Machine.execDcReleaseRequest host region slots s
  | .dcReleaseResponse host region slots => Sys2Proof.Machine.execDcReleaseResponse host region slots s
  | .dcReleaseTimeout window slot => Sys2Proof.Machine.execDcReleaseTimeout window slot s
  | .dcTmoReqRead p => Sys2Proof.Machine.execDcTmoReqRead p s
  | .dcTmoRespWrite p data => Sys2Proof.Machine.execDcTmoRespWrite p data s
  | .trainAttemptStart port => Sys2Proof.Machine.execTrainAttemptStart port s
  | .trainRetryTimer port => Sys2Proof.Machine.execTrainRetryTimer port s
  | .trainAttemptTimeout port => Sys2Proof.Machine.execTrainAttemptTimeout port s
  | .eqMeasureComplete port rate margins localPreset => Sys2Proof.Machine.execEqMeasureComplete port rate margins localPreset s
  | .eqResp p port data => Sys2Proof.Machine.execEqResp p port data s
  | .eqAnswerTimeout port => Sys2Proof.Machine.execEqAnswerTimeout port s
  | .linkUp port report => Sys2Proof.Machine.execLinkUp port report s
  | .replayThreshold port narrower => Sys2Proof.Machine.execReplayThreshold port narrower s
  | .partnerDownshift port rate width lanes l0p => Sys2Proof.Machine.execPartnerDownshift port rate width lanes l0p s
  | .linkDown port => Sys2Proof.Machine.execLinkDown port s
  | .ideIntegrityFail port => Sys2Proof.Machine.execIdeIntegrityFail port s
  | .ideKeyProgram port mem ioLink sel skid active => Sys2Proof.Machine.execIdeKeyProgram port mem ioLink sel skid active s
  | .portEnable p port => Sys2Proof.Machine.execPortEnable p port s
  | .portDisable p port => Sys2Proof.Machine.execPortDisable p port s
  | .portDisableDrainEnd port => Sys2Proof.Machine.execPortDisableDrainEnd port s
  | .portRetrain p port => Sys2Proof.Machine.execPortRetrain p port s
  | .itemWrite port addr fbe lbe reqId data ep => Sys2Proof.Machine.execItemWrite port addr fbe lbe reqId data ep s
  | .commit port addr w reqId swap fault => Sys2Proof.Machine.execCommit port addr w reqId swap fault s
  | .commitCellsAccepted q => Sys2Proof.Machine.execCommitCellsAccepted q s
  | .consumerRead port addr dws reqId tag bad fault => Sys2Proof.Machine.execConsumerRead port addr dws reqId tag bad fault s
  | .next port addr reqId => Sys2Proof.Machine.execNext port addr reqId s
  | .mark port addr reqId => Sys2Proof.Machine.execMark port addr reqId s
  | .rewind port addr reqId => Sys2Proof.Machine.execRewind port addr reqId s
  | .release port addr reqId => Sys2Proof.Machine.execRelease port addr reqId s
  | .itemAssemblyTimeout bind => Sys2Proof.Machine.execItemAssemblyTimeout bind s
  | .leaseExpiry q => Sys2Proof.Machine.execLeaseExpiry q s
  | .staleExpiry q => Sys2Proof.Machine.execStaleExpiry q s
  | .noticeReqRead p => Sys2Proof.Machine.execNoticeReqRead p s
  | .queueReset p data => Sys2Proof.Machine.execQueueReset p data s
  | .queueResetComplete => Sys2Proof.Machine.execQueueResetComplete s
  | .mirrorQueueOp id q op => Sys2Proof.Machine.execMirrorQueueOp id q op s
  | .roundLeaseRefresh q => Sys2Proof.Machine.execRoundLeaseRefresh q s
  | .dispatchSelect c => Sys2Proof.Machine.execDispatchSelect c s
  | .queueSelection k => Sys2Proof.Machine.execQueueSelection k s
  | .descriptorReceived e => Sys2Proof.Machine.execDescriptorReceived e s
  | .dispatchReqRead p n => Sys2Proof.Machine.execDispatchReqRead p n s
  | .dispatchRespWrite p n data => Sys2Proof.Machine.execDispatchRespWrite p n data s
  | .dispatchTimeout half tag => Sys2Proof.Machine.execDispatchTimeout half tag s
  | .streamHoldAcquired e => Sys2Proof.Machine.execStreamHoldAcquired e s
  | .recordProbeReturn e => Sys2Proof.Machine.execRecordProbeReturn e s
  | .jobBegin e => Sys2Proof.Machine.execJobBegin e s
  | .icacheFillComplete e => Sys2Proof.Machine.execIcacheFillComplete e s
  | .farLoadComplete e id => Sys2Proof.Machine.execFarLoadComplete e id s
  | .storeBufferIssue e k => Sys2Proof.Machine.execStoreBufferIssue e k s
  | .storeAck e id => Sys2Proof.Machine.execStoreAck e id s
  | .storeError e id => Sys2Proof.Machine.execStoreError e id s
  | .jobWatchdogExpiry e => Sys2Proof.Machine.execJobWatchdogExpiry e s
  | .watchdogGraceExpiry e => Sys2Proof.Machine.execWatchdogGraceExpiry e s
  | .waitHExpiry e => Sys2Proof.Machine.execWaitHExpiry e s
  | .engAbort p e => Sys2Proof.Machine.execEngAbort p e s
  | .recordWriteAck e => Sys2Proof.Machine.execRecordWriteAck e s
  | .spillDumpDone e => Sys2Proof.Machine.execSpillDumpDone e s
  | .engineResume p e => Sys2Proof.Machine.execEngineResume p e s
  | .engAdd e rd ra rb => Sys2Proof.Machine.execEngAdd e rd ra rb s
  | .engSub e rd ra rb => Sys2Proof.Machine.execEngSub e rd ra rb s
  | .engAnd e rd ra rb => Sys2Proof.Machine.execEngAnd e rd ra rb s
  | .engOr e rd ra rb => Sys2Proof.Machine.execEngOr e rd ra rb s
  | .engXor e rd ra rb => Sys2Proof.Machine.execEngXor e rd ra rb s
  | .engSll e rd ra rb => Sys2Proof.Machine.execEngSll e rd ra rb s
  | .engSrl e rd ra rb => Sys2Proof.Machine.execEngSrl e rd ra rb s
  | .engSra e rd ra rb => Sys2Proof.Machine.execEngSra e rd ra rb s
  | .engSlt e rd ra rb => Sys2Proof.Machine.execEngSlt e rd ra rb s
  | .engSltu e rd ra rb => Sys2Proof.Machine.execEngSltu e rd ra rb s
  | .engMin e rd ra rb => Sys2Proof.Machine.execEngMin e rd ra rb s
  | .engMax e rd ra rb => Sys2Proof.Machine.execEngMax e rd ra rb s
  | .engMinu e rd ra rb => Sys2Proof.Machine.execEngMinu e rd ra rb s
  | .engMaxu e rd ra rb => Sys2Proof.Machine.execEngMaxu e rd ra rb s
  | .engMul e rd ra rb => Sys2Proof.Machine.execEngMul e rd ra rb s
  | .engMulh e rd ra rb => Sys2Proof.Machine.execEngMulh e rd ra rb s
  | .engMulhu e rd ra rb => Sys2Proof.Machine.execEngMulhu e rd ra rb s
  | .engDiv e rd ra rb => Sys2Proof.Machine.execEngDiv e rd ra rb s
  | .engDivu e rd ra rb => Sys2Proof.Machine.execEngDivu e rd ra rb s
  | .engRem e rd ra rb => Sys2Proof.Machine.execEngRem e rd ra rb s
  | .engRemu e rd ra rb => Sys2Proof.Machine.execEngRemu e rd ra rb s
  | .engClz e rd ra rb => Sys2Proof.Machine.execEngClz e rd ra rb s
  | .engCtz e rd ra rb => Sys2Proof.Machine.execEngCtz e rd ra rb s
  | .engPopc e rd ra rb => Sys2Proof.Machine.execEngPopc e rd ra rb s
  | .engBrev8 e rd ra rb => Sys2Proof.Machine.execEngBrev8 e rd ra rb s
  | .engAddi e rd ra im => Sys2Proof.Machine.execEngAddi e rd ra im s
  | .engAndi e rd ra im => Sys2Proof.Machine.execEngAndi e rd ra im s
  | .engOri e rd ra im => Sys2Proof.Machine.execEngOri e rd ra im s
  | .engXori e rd ra im => Sys2Proof.Machine.execEngXori e rd ra im s
  | .engShiSll e rd ra x amt => Sys2Proof.Machine.execEngShiSll e rd ra x amt s
  | .engShiSrl e rd ra x amt => Sys2Proof.Machine.execEngShiSrl e rd ra x amt s
  | .engShiSra e rd ra x amt => Sys2Proof.Machine.execEngShiSra e rd ra x amt s
  | .engLui e rd im => Sys2Proof.Machine.execEngLui e rd im s
  | .engSlti e rd ra im => Sys2Proof.Machine.execEngSlti e rd ra im s
  | .engSltiu e rd ra im => Sys2Proof.Machine.execEngSltiu e rd ra im s
  | .engFadd e fmt rd ra rb => Sys2Proof.Machine.execEngFadd e fmt rd ra rb s
  | .engFsub e fmt rd ra rb => Sys2Proof.Machine.execEngFsub e fmt rd ra rb s
  | .engFmul e fmt rd ra rb => Sys2Proof.Machine.execEngFmul e fmt rd ra rb s
  | .engFdiv e fmt rd ra rb => Sys2Proof.Machine.execEngFdiv e fmt rd ra rb s
  | .engFmin e fmt rd ra rb => Sys2Proof.Machine.execEngFmin e fmt rd ra rb s
  | .engFmax e fmt rd ra rb => Sys2Proof.Machine.execEngFmax e fmt rd ra rb s
  | .engFsqrt e fmt rd ra rb => Sys2Proof.Machine.execEngFsqrt e fmt rd ra rb s
  | .engFeq e fmt rd ra rb => Sys2Proof.Machine.execEngFeq e fmt rd ra rb s
  | .engFlt e fmt rd ra rb => Sys2Proof.Machine.execEngFlt e fmt rd ra rb s
  | .engFle e fmt rd ra rb => Sys2Proof.Machine.execEngFle e fmt rd ra rb s
  | .engFcvtI e fmt rd ra rb => Sys2Proof.Machine.execEngFcvtI e fmt rd ra rb s
  | .engFcvtF e fmt rd ra rb => Sys2Proof.Machine.execEngFcvtF e fmt rd ra rb s
  | .engFcvtX e fmt src rd ra rb => Sys2Proof.Machine.execEngFcvtX e fmt src rd ra rb s
  | .engLb e rd ra im ue => Sys2Proof.Machine.execEngLb e rd ra im ue s
  | .engLbu e rd ra im ue => Sys2Proof.Machine.execEngLbu e rd ra im ue s
  | .engLh e rd ra im ue => Sys2Proof.Machine.execEngLh e rd ra im ue s
  | .engLhu e rd ra im ue => Sys2Proof.Machine.execEngLhu e rd ra im ue s
  | .engLw e rd ra im ue => Sys2Proof.Machine.execEngLw e rd ra im ue s
  | .engLwu e rd ra im ue => Sys2Proof.Machine.execEngLwu e rd ra im ue s
  | .engLd e rd ra im ue => Sys2Proof.Machine.execEngLd e rd ra im ue s
  | .engSb e rs ra im => Sys2Proof.Machine.execEngSb e rs ra im s
  | .engSh e rs ra im => Sys2Proof.Machine.execEngSh e rs ra im s
  | .engSw e rs ra im => Sys2Proof.Machine.execEngSw e rs ra im s
  | .engSd e rs ra im => Sys2Proof.Machine.execEngSd e rs ra im s
  | .engVld e vd ra im ue => Sys2Proof.Machine.execEngVld e vd ra im ue s
  | .engVst e vs ra im => Sys2Proof.Machine.execEngVst e vs ra im s
  | .engVstm e vd ra typ p => Sys2Proof.Machine.execEngVstm e vd ra typ p s
  | .engBeq e a b off annul => Sys2Proof.Machine.execEngBeq e a b off annul s
  | .engBne e a b off annul => Sys2Proof.Machine.execEngBne e a b off annul s
  | .engBlt e a b off annul => Sys2Proof.Machine.execEngBlt e a b off annul s
  | .engBge e a b off annul => Sys2Proof.Machine.execEngBge e a b off annul s
  | .engBltu e a b off annul => Sys2Proof.Machine.execEngBltu e a b off annul s
  | .engBgeu e a b off annul => Sys2Proof.Machine.execEngBgeu e a b off annul s
  | .engJ e off => Sys2Proof.Machine.execEngJ e off s
  | .engJal e off => Sys2Proof.Machine.execEngJal e off s
  | .engJr e rd ra x => Sys2Proof.Machine.execEngJr e rd ra x s
  | .engLoop e ra len => Sys2Proof.Machine.execEngLoop e ra len s
  | .engLoopi e count len => Sys2Proof.Machine.execEngLoopi e count len s
  | .engQpush e rd ra x slot => Sys2Proof.Machine.execEngQpush e rd ra x slot s
  | .engQpop e rd ra x slot => Sys2Proof.Machine.execEngQpop e rd ra x slot s
  | .engQrelRelease e x y slot => Sys2Proof.Machine.execEngQrelRelease e x y slot s
  | .engQrelMark e x y slot => Sys2Proof.Machine.execEngQrelMark e x y slot s
  | .engQrelRewind e x y slot => Sys2Proof.Machine.execEngQrelRewind e x y slot s
  | .engWaitH e x im => Sys2Proof.Machine.execEngWaitH e x im s
  | .engTrap e x im => Sys2Proof.Machine.execEngTrap e x im s
  | .engRfe e x => Sys2Proof.Machine.execEngRfe e x s
  | .engSetm e x ra y => Sys2Proof.Machine.execEngSetm e x ra y s
  | .engMfs e rd x im => Sys2Proof.Machine.execEngMfs e rd x im s
  | .engMts e x ra im => Sys2Proof.Machine.execEngMts e x ra im s
  | .engOrdL e x => Sys2Proof.Machine.execEngOrdL e x s
  | .engOrdS e x => Sys2Proof.Machine.execEngOrdS e x s
  | .engOrdA e x => Sys2Proof.Machine.execEngOrdA e x s
  | .engDone e x => Sys2Proof.Machine.execEngDone e x s
  | .engVadd e typ vd va vb p => Sys2Proof.Machine.execEngVadd e typ vd va vb p s
  | .engVsub e typ vd va vb p => Sys2Proof.Machine.execEngVsub e typ vd va vb p s
  | .engVmul e typ vd va vb p => Sys2Proof.Machine.execEngVmul e typ vd va vb p s
  | .engVmin e typ vd va vb p => Sys2Proof.Machine.execEngVmin e typ vd va vb p s
  | .engVmax e typ vd va vb p => Sys2Proof.Machine.execEngVmax e typ vd va vb p s
  | .engVand e typ vd va vb p => Sys2Proof.Machine.execEngVand e typ vd va vb p s
  | .engVor e typ vd va vb p => Sys2Proof.Machine.execEngVor e typ vd va vb p s
  | .engVxor e typ vd va vb p => Sys2Proof.Machine.execEngVxor e typ vd va vb p s
  | .engVsll e typ vd va vb p => Sys2Proof.Machine.execEngVsll e typ vd va vb p s
  | .engVsrl e typ vd va vb p => Sys2Proof.Machine.execEngVsrl e typ vd va vb p s
  | .engVsra e typ vd va vb p => Sys2Proof.Machine.execEngVsra e typ vd va vb p s
  | .engVfma e typ vd va vb p => Sys2Proof.Machine.execEngVfma e typ vd va vb p s
  | .engVabs e typ vd va vb p => Sys2Proof.Machine.execEngVabs e typ vd va vb p s
  | .engVneg e typ vd va vb p => Sys2Proof.Machine.execEngVneg e typ vd va vb p s
  | .engVdiv e typ vd va vb p => Sys2Proof.Machine.execEngVdiv e typ vd va vb p s
  | .engVsel e typ vd va vb p => Sys2Proof.Machine.execEngVsel e typ vd va vb p s
  | .engVredAdd e typ rd va x p => Sys2Proof.Machine.execEngVredAdd e typ rd va x p s
  | .engVredMin e typ rd va x p => Sys2Proof.Machine.execEngVredMin e typ rd va x p s
  | .engVredMax e typ rd va x p => Sys2Proof.Machine.execEngVredMax e typ rd va x p s
  | .engVredAnd e typ rd va x p => Sys2Proof.Machine.execEngVredAnd e typ rd va x p s
  | .engVredOr e typ rd va x p => Sys2Proof.Machine.execEngVredOr e typ rd va x p s
  | .engVredXor e typ rd va x p => Sys2Proof.Machine.execEngVredXor e typ rd va x p s
  | .engVcmpEq e typ pd va vb p => Sys2Proof.Machine.execEngVcmpEq e typ pd va vb p s
  | .engVcmpNe e typ pd va vb p => Sys2Proof.Machine.execEngVcmpNe e typ pd va vb p s
  | .engVcmpLt e typ pd va vb p => Sys2Proof.Machine.execEngVcmpLt e typ pd va vb p s
  | .engVcmpLe e typ pd va vb p => Sys2Proof.Machine.execEngVcmpLe e typ pd va vb p s
  | .engVcmpLtu e typ pd va vb p => Sys2Proof.Machine.execEngVcmpLtu e typ pd va vb p s
  | .engVcmpLeu e typ pd va vb p => Sys2Proof.Machine.execEngVcmpLeu e typ pd va vb p s
  | .engVbcast e typ vd ra x p => Sys2Proof.Machine.execEngVbcast e typ vd ra x p s
  | .engVext e typ rd va rb p => Sys2Proof.Machine.execEngVext e typ rd va rb p s
  | .engVins e typ vd ra rb p => Sys2Proof.Machine.execEngVins e typ vd ra rb p s
  | .engMfp e typ rd ra x p => Sys2Proof.Machine.execEngMfp e typ rd ra x p s
  | .engMtp e typ rd ra x p => Sys2Proof.Machine.execEngMtp e typ rd ra x p s
  | .auxPowerGood => Sys2Proof.Machine.execAuxPowerGood s
  | .auxPowerLoss => Sys2Proof.Machine.execAuxPowerLoss s
  | .pwrGoodAssert => Sys2Proof.Machine.execPwrGoodAssert s
  | .pwrGoodDeassert => Sys2Proof.Machine.execPwrGoodDeassert s
  | .sysRstAssert => Sys2Proof.Machine.execSysRstAssert s
  | .sysRstDeassert => Sys2Proof.Machine.execSysRstDeassert s
  | .offReqAssert => Sys2Proof.Machine.execOffReqAssert s
  | .offReqDeassert => Sys2Proof.Machine.execOffReqDeassert s
  | .offGo p => Sys2Proof.Machine.execOffGo p s
  | .pwrEnAssert => Sys2Proof.Machine.execPwrEnAssert s
  | .powerGoodTimeout => Sys2Proof.Machine.execPowerGoodTimeout s
  | .powerUpReversal => Sys2Proof.Machine.execPowerUpReversal s
  | .offExit => Sys2Proof.Machine.execOffExit s
  | .imageReadComplete answers image => Sys2Proof.Machine.execImageReadComplete answers image s
  | .imageCheckComplete => Sys2Proof.Machine.execImageCheckComplete s
  | .hbmTrainingComplete ok => Sys2Proof.Machine.execHbmTrainingComplete ok s
  | .loadComplete => Sys2Proof.Machine.execLoadComplete s
  | .trainEnd => Sys2Proof.Machine.execTrainEnd s
  | .drainEnd => Sys2Proof.Machine.execDrainEnd s
  | .shadowOpen p => Sys2Proof.Machine.execShadowOpen p s
  | .shadowDataWrite p data => Sys2Proof.Machine.execShadowDataWrite p data s
  | .shadowGo p => Sys2Proof.Machine.execShadowGo p s
  | .shadowCheckComplete => Sys2Proof.Machine.execShadowCheckComplete s
  | .shadowAbandon p => Sys2Proof.Machine.execShadowAbandon p s
  | .handoverRequest p data => Sys2Proof.Machine.execHandoverRequest p data s
  | .swapRequest p => Sys2Proof.Machine.execSwapRequest p s
  | .swapCheckComplete => Sys2Proof.Machine.execSwapCheckComplete s
  | .swapLibraryCopied => Sys2Proof.Machine.execSwapLibraryCopied s
  | .stewardGapStart => Sys2Proof.Machine.execStewardGapStart s
  | .stewardFirmwareReady => Sys2Proof.Machine.execStewardFirmwareReady s
  | .stewardGapTimeout => Sys2Proof.Machine.execStewardGapTimeout s
  | .stewardRevertTimeout => Sys2Proof.Machine.execStewardRevertTimeout s
  | .dtbSync lags => Sys2Proof.Machine.execDtbSync lags s
  | .instantRequest use => Sys2Proof.Machine.execInstantRequest use s
  | .sharedInstant dom pulses => Sys2Proof.Machine.execSharedInstant dom pulses s
  | .domainResetRelease dom => Sys2Proof.Machine.execDomainResetRelease dom s
  | .corePllLockLoss die => Sys2Proof.Machine.execCorePllLockLoss die s
  | .chipletPllLockLoss n => Sys2Proof.Machine.execChipletPllLockLoss n s
  | .chipletPllRelock n => Sys2Proof.Machine.execChipletPllRelock n s
  | .auxRefclkLoss => Sys2Proof.Machine.execAuxRefclkLoss s
  | .auxRefclkReturn => Sys2Proof.Machine.execAuxRefclkReturn s
  | .formationMessage m => Sys2Proof.Machine.execFormationMessage m s
  | .pairSyncComplete set copy => Sys2Proof.Machine.execPairSyncComplete set copy s
  | .boundaryMessage instant partner => Sys2Proof.Machine.execBoundaryMessage instant partner s
  | .forwardedRequest id r => Sys2Proof.Machine.execForwardedRequest id r s
  | .heartbeatSend => Sys2Proof.Machine.execHeartbeatSend s
  | .heartbeatReceived hb => Sys2Proof.Machine.execHeartbeatReceived hb s
  | .heartbeatMiss => Sys2Proof.Machine.execHeartbeatMiss s
  | .twinAliveToggle => Sys2Proof.Machine.execTwinAliveToggle s
  | .twinAliveStop => Sys2Proof.Machine.execTwinAliveStop s
  | .twinAliveResume => Sys2Proof.Machine.execTwinAliveResume s
  | .lossDecisionWaitEnd => Sys2Proof.Machine.execLossDecisionWaitEnd s
  | .takeoverReqRead p => Sys2Proof.Machine.execTakeoverReqRead p s
  | .takeoverRespWrite p data => Sys2Proof.Machine.execTakeoverRespWrite p data s
  | .takeoverReady => Sys2Proof.Machine.execTakeoverReady s
  | .takeoverEnd => Sys2Proof.Machine.execTakeoverEnd s
  | .islTakeoverNotice port pbr => Sys2Proof.Machine.execIslTakeoverNotice port pbr s
  | .pinClear p => Sys2Proof.Machine.execPinClear p s
  | .moveGo p => Sys2Proof.Machine.execMoveGo p s
  | .setMoveExecute => Sys2Proof.Machine.execSetMoveExecute s
  | .setMoveReceived set => Sys2Proof.Machine.execSetMoveReceived set s
  | .dissolve p => Sys2Proof.Machine.execDissolve p s
  | .errorRecordArrives k => Sys2Proof.Machine.execErrorRecordArrives k s
  | .handlingWindowExpiry k => Sys2Proof.Machine.execHandlingWindowExpiry k s
  | .ringConsWrite p ring value => Sys2Proof.Machine.execRingConsWrite p ring value s
  | .vlogConsWrite p value => Sys2Proof.Machine.execVlogConsWrite p value s
  | .lockWaitTimeout => Sys2Proof.Machine.execLockWaitTimeout s
  | .ringLockRelease stw => Sys2Proof.Machine.execRingLockRelease stw s
  | .stewardRecordWrite stw k => Sys2Proof.Machine.execStewardRecordWrite stw k s
  | .escReqRead p => Sys2Proof.Machine.execEscReqRead p s
  | .escRespWrite p data => Sys2Proof.Machine.execEscRespWrite p data s
  | .escTimeout tag => Sys2Proof.Machine.execEscTimeout tag s
  | .isoIsolate p unit inst => Sys2Proof.Machine.execIsoIsolate p unit inst s
  | .isoRejoin p unit inst => Sys2Proof.Machine.execIsoRejoin p unit inst s
  | .stewardWatchdogPet n => Sys2Proof.Machine.execStewardWatchdogPet n s
  | .stewardWatchdogExpiry n => Sys2Proof.Machine.execStewardWatchdogExpiry n s
  | .slotFrameStart => Sys2Proof.Machine.execSlotFrameStart s
  | .slotChainReady => Sys2Proof.Machine.execSlotChainReady s
  | .slotFrameComplete words marker => Sys2Proof.Machine.execSlotFrameComplete words marker s
  | .slotFrameStallTimeout => Sys2Proof.Machine.execSlotFrameStallTimeout s
  | .slotRetryTimer slot => Sys2Proof.Machine.execSlotRetryTimer slot s
  | .slotPowerFailCheck slot => Sys2Proof.Machine.execSlotPowerFailCheck slot s
  | .slotShortTimeout slot => Sys2Proof.Machine.execSlotShortTimeout slot s
  | .slotPerstRelease slot => Sys2Proof.Machine.execSlotPerstRelease slot s
  | .slotClear p slot => Sys2Proof.Machine.execSlotClear p slot s
  | .slotFetClear p slot => Sys2Proof.Machine.execSlotFetClear p slot s
  | .slotCmdGo p slot data => Sys2Proof.Machine.execSlotCmdGo p slot data s
  | .hpReqRead p => Sys2Proof.Machine.execHpReqRead p s
  | .slotControlWrite slot on attn pwr => Sys2Proof.Machine.execSlotControlWrite slot on attn pwr s
  | .countFreeze p on => Sys2Proof.Machine.execCountFreeze p on s
  | .countClear p => Sys2Proof.Machine.execCountClear p s
  | .snapshotBankReady => Sys2Proof.Machine.execSnapshotBankReady s
  | .counterPageRead port req => Sys2Proof.Machine.execCounterPageRead port req s
  | .read32 p tag off => Sys2Proof.Machine.execRead32 p tag off s
  | .read64 p tag off => Sys2Proof.Machine.execRead64 p tag off s
  | .write32 p tag off data => Sys2Proof.Machine.execWrite32 p tag off data s
  | .write64 p tag off data => Sys2Proof.Machine.execWrite64 p tag off data s
  | .readBlock p tag off count => Sys2Proof.Machine.execReadBlock p tag off count s
  | .bar2Access port req => Sys2Proof.Machine.execBar2Access port req s
  | .extest scan => Sys2Proof.Machine.execExtest scan s
  | .idcode => Sys2Proof.Machine.execIdcode s
  | .samplePreload => Sys2Proof.Machine.execSamplePreload s
  | .clamp => Sys2Proof.Machine.execClamp s
  | .highz => Sys2Proof.Machine.execHighz s
  | .testEnter => Sys2Proof.Machine.execTestEnter s
  | .testExit => Sys2Proof.Machine.execTestExit s
  | .csrAccess write off data => Sys2Proof.Machine.execCsrAccess write off data s
  | .bypass => Sys2Proof.Machine.execBypass s
  | .bistGo sel => Sys2Proof.Machine.execBistGo sel s
  | .bistComplete pass => Sys2Proof.Machine.execBistComplete pass s
  | .keyProgram slot => Sys2Proof.Machine.execKeyProgram slot s
  | .keyRevoke slot => Sys2Proof.Machine.execKeyRevoke slot s
  | .keyProgramComplete => Sys2Proof.Machine.execKeyProgramComplete s
  | .thermalSample samples => Sys2Proof.Machine.execThermalSample samples s
  | .gpioEdge n => Sys2Proof.Machine.execGpioEdge n s
  | .partnerRetrain port rate width lanes => Sys2Proof.Machine.execPartnerRetrain port rate width lanes s
  | .disableDuringTrainingTimeout port => Sys2Proof.Machine.execDisableDuringTrainingTimeout port s
  | .planeRecoverySafeEnd p => Sys2Proof.Machine.execPlaneRecoverySafeEnd p s
  | .queueInstructionAnswer e => Sys2Proof.Machine.execQueueInstructionAnswer e s

end Sys2Proof.Machine
end

