-- ==== Sys2Proof/Safety.lean ====
section
/-! DEFINITION. The terms in which statements about runs are made: a command that completes, a state whose tables and memory have
their canonical form. -/
namespace Sys2Proof.Machine

/-- A command completes on a state: it runs, and of the state that it gives `P` holds. -/
def Completes (c : Instr) (s : State) (P : State → Prop) : Prop := ∃ t, exec c s = .next t ∧ P t

/-- Memory and the register bank are in their canonical form: keys strictly rising, and no memory byte listed that reads as an
unlisted one. -/
def State.canonical (s : State) : Bool := Memory.wf s.home.mem && tsorted s.regs

/-- The frame of some commands: whatever the state, where one of them gives a next state `t`, `t` is `f s t`, which keeps of `s`
everything but the parts that `f` names. -/
def framed (cs : List Instr) (f : State → State → State) : Prop := ∀ c ∈ cs, ∀ s t, exec c s = .next t → t = f s t

/-! ## Accesses of the control space -/

/-- A read or a write by a path, answered on the path alone. -/
def plainAcc (p : Path) (off bytes : Nat) (data : Option Word) : CsrAcc :=
  { path := p, reply := .plain, off, bytes, whole := true, data, count := 1 }

/-- A 64-bit read of BAR 2 of a HOST port. -/
def barRead (port off : Nat) : CsrAcc :=
  { path := .bar2 port, reply := .bar, off, bytes := 8, whole := true, data := none, count := 1 }

/-- Is it another path than BAR 2, whose refusals are logged in AER (R546)? -/
def notBar : Path → Bool
  | .bar2 _ => false
  | .mctpI3c | .mctpVdm _ | .steward _ | .jtag => true

/-- An access that is served at once: its path is there, no steward gap holds it, it passes its checks, and it is not an access
to the TEST block by another path than JTAG. -/
abbrev accessServed (a : CsrAcc) (s : State) : Prop :=
  pathThere s a.path = true ∧ (s.inGap && gapHolds a.path) = false ∧ csrCode s a = 0 ∧ testHidden a = false

/-- The command `c` is a write by path `p` of `data` at `off`: it is carried out and answered. -/
def isWrite (c : Instr) (p : Path) (off bytes : Nat) (data : State → Word) : Prop :=
  ∀ s, accessServed (plainAcc p off bytes (some (data s))) s →
    Completes c s (fun t => t = (csrWrite off bytes (data s) s).emit (.writeDone p off))

/-- The command `c` is a read by path `p` at `off`: its value is answered, and what the read takes or clears is gone. -/
def isRead (c : Instr) (p : Path) (off bytes : Nat) : Prop :=
  ∀ s, accessServed (plainAcc p off bytes none) s →
    Completes c s (fun t => t = (csrRead off bytes s).2.emit (.readDone p off (csrRead off bytes s).1))

/-- The RW fields of a register as they stand, with some bits set. -/
def keepSet (off : Nat) (bits : Word) (s : State) : Word := (s.rd off &&& ((regAt off).map rwMask).getD 0#64) ||| bits

/-- Nothing waits that a write of the control space would let go on: no request for a tracker, no access at the home. -/
abbrev State.quiet (s : State) : Prop := s.bridge.waiting = [] ∧ s.home.entries = [] ∧ s.home.askedBy = []

/-- No release of a contained legacy port waits for its last answer. -/
abbrev State.noRelease (s : State) : Prop := s.bridge.legs.all (fun g => !g.2.releasing) = true

/-- A link in an attempt that equalises next at a rate (R54), of a port that is still enabled. -/
abbrev eqReady (l : Link) (rate : Nat) : Prop :=
  2 ≤ rate ∧ rate ≤ l.maxRate ∧ rate < 8 ∧ eqNext l rate = true ∧ l.trainOffUntil = none ∧ l.lost = false

/-- A path that writes a register whole and is served, in a state that is quiet. -/
abbrev writeServed (p : Path) (off : Nat) (data : Word) (s : State) : Prop :=
  accessServed (plainAcc p off 8 (some data)) s ∧ s.quiet

/-- An answer for `w` is on its way on the rings. -/
def answerOut (t : State) (w : Who) (a : Answer) : Bool :=
  (t.rings.wait ++ t.rings.flight).any (fun u => decide (u.body = .rsp w a))

/-! ## Engines -/

/-- Engine `e` is RUNNING, with nothing outstanding and nothing due, in a mode of service, and the cached word at its next code address
is the word of `op`, which is no reserved word. -/
def engReady (e : Nat) (op : EOp) (s : State) : Bool :=
  s.mode.carries && decide (e < 128) && engWf op && decide ((s.eng e).st = 2) && decide ((s.eng e).wait = .none)
    && (s.eng e).flights.isEmpty && (s.eng e).sb.isEmpty && (s.eng e).storeErr.isNone
    && match (s.eng e).job with
      | some j =>
        decide (j.step = .running) && !j.abort && !j.wdogDue
          && match jobVersion s j with
            | some v =>
              decide (codeWord v (s.eng e).arch.pc = some (engEncode op)) && (engDecode (engEncode op)).isSome
                && icHit s (e / 8) j.program j.version ((s.eng e).arch.pc / 64)
            | none => false
      | none => false

/-- The step from `s` to `t` changes engine `e` alone, to `g` but for the slots it counts, and the top-down counters. -/
def engineStep (e : Nat) (g : Eng) (s t : State) : Prop :=
  { t.eng e with slotsDone := g.slotsDone, issued := g.issued, counted := g.counted } = g
    ∧ (∀ x, x ≠ e → t.eng x = s.eng x) ∧ { t with mill.engs := s.mill.engs, cnt.live := s.cnt.live } = s

/-- Engine `e` with other registers. -/
def State.engWith (s : State) (e : Nat) (a : Arch) : Eng := { s.eng e with arch := a }

/-- The instruction `op`, issued by an engine that is ready for it, completes: the engine's registers become `f` of what they
were, with the next address as `stepPc` gives it. -/
def opResult (c : Nat → Instr) (op : EOp) (f : Arch → Arch) : Prop :=
  ∀ e s, engReady e op s = true → Completes (c e) s (engineStep e (s.engWith e (stepPc (f (s.eng e).arch))) s)

/-- An instruction of three register fields writes `v` of two general registers to a third. -/
def aluResult (c : Nat → Nat → Nat → Nat → Instr) (f : AluOp) (v : Word → Word → Word) : Prop :=
  ∀ rd ra rb, opResult (fun e => c e rd ra rb) (.alu f rd ra rb) (fun a => a.setG rd (v (a.gr ra) (a.gr rb)))

/-- The same for an instruction with a 16-bit immediate. -/
def immResult (c : Nat → Nat → Nat → Nat → Instr) (f : ImmOp) (v : Word → Nat → Word) : Prop :=
  ∀ rd ra im, opResult (fun e => c e rd ra im) (.imm f rd ra im) (fun a => a.setG rd (v (a.gr ra) im))

/-- The same for a shift by an immediate amount; the field `x` is not used. -/
def shiResult (c : Nat → Nat → Nat → Nat → Nat → Instr) (f : ShOp) (v : Word → Nat → Word) : Prop :=
  ∀ rd ra x amt, opResult (fun e => c e rd ra x amt) (.shi f rd ra x amt) (fun a => a.setG rd (v (a.gr ra) amt))

/-- A scalar floating-point instruction writes the result of `fpuVal`, zero-extended, and sets its flags in STATUS. -/
def fpuResult (c : Nat → Nat → Nat → Nat → Nat → Instr) (f : FpuOp) : Prop :=
  ∀ fmt rd ra rb, opResult (fun e => c e fmt rd ra rb) (.fpu f fmt 0 rd ra rb) (fun a =>
    let r := fpuVal f fmt 0 a.rnd (a.gr ra) (a.gr rb)
    (a.setG rd (BitVec.ofNat 64 r.1)).flags r.2)

/-- Byte `a` of an engine's bench. -/
def benchByte (b : Tbl Word) (a : Nat) : Nat := (tgetD b (a / 8) 0#64).toNat / 2 ^ (8 * (a % 8)) % 256

/-- `n` bytes of the bench from `a` on, little-endian. -/
def benchValue (b : Tbl Word) (a n : Nat) : Nat := ((List.range n).map (fun i => benchByte b (a + i) * 2 ^ (8 * i))).sum

/-- A scalar load of `n` bytes from the bench: its value goes through `ext` to the register. -/
def loadResult (c : Nat → Nat → Nat → Nat → Bool → Instr) (k : LoadK) (n : Nat) (ext : Nat → Word) : Prop :=
  ∀ e rd ra im s, engReady e (.load k rd ra im) s = true →
    let a := (s.eng e).arch
    let addr := (a.gr ra + sext16 im).toNat
    addr % n = 0 → addr < 0x40000 →
    Completes (c e rd ra im false) s
      (engineStep e (s.engWith e (stepPc (a.setG rd (ext (benchValue (s.eng e).bench addr n))))) s)

/-- The step from `s` to `t` changes engine `e` alone: its registers become `a`, and of its bench the bytes that `new` names. -/
def benchStep (e : Nat) (a : Arch) (new : Nat → Option Nat) (s t : State) : Prop :=
  ∃ b, engineStep e { s.eng e with arch := a, bench := b } s t
    ∧ ∀ x, benchByte b x = (new x).getD (benchByte (s.eng e).bench x)

/-- A scalar store of `n` bytes to the bench: no byte outside the `n` stored changes. -/
def storeResult (c : Nat → Nat → Nat → Nat → Instr) (sz n : Nat) : Prop :=
  ∀ e rs ra im s, engReady e (.store sz rs ra im) s = true →
    let a := (s.eng e).arch
    let addr := (a.gr ra + sext16 im).toNat
    addr % n = 0 → addr < 0x40000 →
    Completes (c e rs ra im) s (benchStep e (stepPc a) (fun x =>
      if addr ≤ x ∧ x < addr + n then some ((a.gr rs).toNat / 2 ^ (8 * (x - addr)) % 256) else none) s)

/-- A branch of an engine that stands neither in a delay slot nor at the end of a loop body: taken, the delay slot is next and the
target follows it; not taken, the delay slot is next, or is passed over where A = 1. -/
def branchResult (c : Nat → Nat → Nat → Nat → Nat → Instr) (f : BrOp) (taken : Word → Word → Bool) : Prop :=
  ∀ e x y off annul s, engReady e (.br f x y off annul) s = true → branchStop (s.eng e).arch = none →
    Completes (c e x y off annul) s (engineStep e (s.engWith e
      (let a := (s.eng e).arch
       if taken (a.gr x) (a.gr y) then
         { a with pc := a.pc + 4, slot := some { br := a.pc, next := (((a.pc : Int) + 4 * (BitVec.ofNat 15 off).toInt) % 2 ^ 64).toNat } }
       else if annul = 1 then { a with pc := a.pc + 8 }
       else { a with pc := a.pc + 4, slot := some { br := a.pc, next := a.pc + 8 } })) s)

/-- The registers after a jump: its delay slot is next, and then the target; the link register holds the address after the slot. -/
def jumpArch (a : Arch) (target : Nat) (link : Nat) : Arch :=
  { a.setG link (BitVec.ofNat 64 (a.pc + 8)) with pc := a.pc + 4, slot := some { br := a.pc, next := target } }

/-- Does a loop of `len` instructions fit: within the code, and within the body of each active level, ending below it (R346)? -/
def loopFits (s : State) (e len : Nat) : Bool :=
  let a := (s.eng e).arch
  a.slot.isNone && decide (len ≠ 0) && !(a.act 0 && a.act 1)
    && (match (s.eng e).job.bind (jobVersion s) with
      | some v => decide (a.pc + 4 * len < 4 * v.code.length)
      | none => false)
    && [0, 1].all (fun n => !a.act n ||
      (decide (fld (a.loopReg n) 17 0 ≤ a.pc + 4) && decide (a.pc + 4 * len < fld (a.loopReg n) 35 18)))

/-- The registers after LOOP or LOOPI. -/
def loopArch (a : Arch) (count len : Nat) : Arch :=
  let level := if a.act 0 then 1 else 0
  let word := mkFld 63 36 count ||| mkFld 35 18 (a.pc + 4 * len) ||| mkFld 17 0 (a.pc + 4)
  if count = 0 then { a with pc := a.pc + 4 * len + 4 }
  else if level = 1 then { a with loop1 := word, status := setBit a.status 3, pc := a.pc + 4 }
  else { a with loop0 := word, status := setBit a.status 2, pc := a.pc + 4 }

/-- A queue instruction of engine `e` sends its request on to the queue unit and waits for the answer. -/
def queueSent (e q slot : Nat) (rd bench : Option Nat) (op : QOp) (s t : State) : Prop :=
  ∃ s1, s1.mill.asks = s.mill.asks + 1
    ∧ engineStep e { s.eng e with wait := .queue s.mill.asks rd bench slot } s { s1 with mill.asks := s.mill.asks }
    ∧ t = routeOp q op (.eng s.mill.asks) s1

/-- A vector operation's lane: active lanes take `v`, the others keep what vd held. -/
def valuResult (c : Nat → Nat → Nat → Nat → Nat → Nat → Instr) (f : VOp) : Prop :=
  ∀ typ vd va vb p, ∀ e s, engReady e (.valu f typ vd va vb p) s = true →
    let a := (s.eng e).arch
    let lanes := fun (i : Nat) => laneOp f typ a.rnd a.sat (lane typ (a.vr va) i) (lane typ (a.vr vb) i) (lane typ (a.vr vd) i)
    Completes (c e typ vd va vb p) s (fun t => ∃ v,
      engineStep e (s.engWith e (stepPc ((a.setV vd v).flags
        (((List.range (laneCount typ)).filter (fun i => (a.pr p).getLsbD i)).foldl (fun fl i => fl.or (lanes i).2) noFlags)))) s t ∧
      ∀ i, i < laneCount typ → lane typ v i =
        if (a.pr p).getLsbD i then (lanes i).1 % 2 ^ (8 * laneBytes typ)
        else if f = .sel then lane typ (a.vr vb) i else lane typ (a.vr vd) i)

/-- A reduction's result and flags go to a general register. -/
def vredResult (c : Nat → Nat → Nat → Nat → Nat → Nat → Instr) (f : ROp) : Prop :=
  ∀ typ rd va x p, opResult (fun e => c e typ rd va x p) (.vred f typ rd va x p) (fun a =>
    let r := vredVal f typ a.rnd a.sat (a.pr p) (a.vr va)
    (a.setG rd r.1).flags r.2)

/-- A comparison's mask: bit `i` compares lanes `i` where the lane is active, and every other bit is 0. -/
def vcmpResult (c : Nat → Nat → Nat → Nat → Nat → Nat → Instr) (f : COp) : Prop :=
  ∀ typ pd va vb p, ∀ e s, engReady e (.vcmp f typ pd va vb p) s = true →
    let a := (s.eng e).arch
    let cmp := fun (i : Nat) => laneCmp f typ (lane typ (a.vr va) i) (lane typ (a.vr vb) i)
    Completes (c e typ pd va vb p) s (fun t => ∃ m,
      engineStep e (s.engWith e (stepPc ((a.setP (pd % 8) m).flags
        (((List.range (laneCount typ)).filter (fun i => (a.pr p).getLsbD i)).foldl (fun fl i => fl.or (cmp i).2) noFlags)))) s t ∧
      ∀ i, i < 64 → m.getLsbD i = (decide (i < laneCount typ) && (a.pr p).getLsbD i && (cmp i).1))

/-! ## Queues -/

/-- Queue `q` is served here in one copy, with no operation in progress and none that waits. -/
abbrev State.queueFree (q : Nat) (s : State) : Prop :=
  s.mode.carries = true ∧ queueServed s q = some false ∧ queueMirrored s q = false ∧ queueHeld s q = false ∧ s.qu.busy = [] ∧
    s.qu.waits = []

/-- Port `p` is a HOST port whose requests for BAR 4 are taken. -/
abbrev State.queuePort (p : Nat) (s : State) : Prop :=
  p < 512 ∧ s.role p = 1 ∧ s.linkIsUp p = true ∧ s.mode.carries = true ∧ ideOk s p = true ∧ s.leg? p = none

/-- Page `pg` of the port's host is bound to producer `b` of queue `q`. -/
abbrev producerPage (p pg b q : Nat) (s : State) : Prop :=
  s.queuePort p ∧ pg < 65536 ∧ bindOfPage s (portHost s p) pg = some b ∧ (pcfg? s b).map (·.queue) = some q

/-- Consumer page `pg` of the port's host is that of queue `q`. -/
abbrev consumerPage (p pg q : Nat) (s : State) : Prop :=
  s.queuePort p ∧ pg < 65536 ∧ queueOfPage s (portHost s p) pg = some q

/-- Addresses in a producer's and in a consumer's page. -/
def producerAddr (pg off : Nat) : Nat := pg * 0x8000 + off
def consumerAddr (pg off : Nat) : Nat := 0x80000000 + pg * 0x8000 + off

/-- A request with tag `g` is answered at HOST port `p`: the newest completion there carries these bytes, not poisoned. -/
abbrev hostAnswered (t : State) (p reqId g lower : Nat) (bytes : List Byte) : Prop :=
  ((tgetD t.bridge.egress p []).getLast?).map (·.body) =
    some (.tlp (.cpl .sc (Config.viewId p) reqId g bytes.length lower bytes false))

/-- A commit that delivers nothing: the open item is closed and its cells are freed, the event bit is set, NEXT_SEQ and
LAST_RESULT are as given, and a Swap is answered with the value. -/
abbrev commitEnds (p reqId b : Nat) (swap : Option Nat) (prod : Nat × Nat) (ev : Nat) (v : Word) (s t : State) : Prop :=
  t.qu.opens = terase s.qu.opens b ∧
    t.qu.freed = ((tget s.qu.opens b).map (fun o => o.cells.map Prod.snd)).getD [] ++ s.qu.freed ∧
    prodState t b = prod ∧ t.rb Reg.queueEvents ev = true ∧
    ∀ g ∈ swap, hostAnswered t p reqId g 0 (wordBytes v)

/-! ## Jobs -/

/-- Engine `e` has job `j` at a step, in a mode of service. -/
abbrev jobAt (e : Nat) (j : Job) (step : JobStep) (s : State) : Prop :=
  s.mode.carries = true ∧ (s.eng e).job = some j ∧ j.step = step

/-- Engine `e` runs job `j`, and no asynchronous event is due at its next boundary. -/
abbrev jobRuns (e : Nat) (j : Job) (s : State) : Prop :=
  jobAt e j .running s ∧ j.abort = false ∧ j.wdogDue = false ∧ (s.eng e).storeErr = none

/-- The dispatcher of engine `e` has the answer to job `j`'s selection: an item with these words, for a job of its own. -/
abbrev itemHere (e : Nat) (j : Job) (h0 h1 : Word) (d : List Word) (commit : Word) (prod : Nat) (poison : Bool) (s : State) : Prop :=
  jobAt e j .selecting s ∧ clusterGone s (e / 8) = false ∧ prod ≠ deviceBind ∧
    (s.mill.answers.find? (fun x => x.1 == j.ask)).map Prod.snd = some (.item h0 h1 d commit prod false poison)

/-- The record of engine `e`'s job is being written: bytes 8 to 31, with a status. -/
abbrev recordWritten (e status : Nat) (t : State) : Prop :=
  ((t.eng e).job.map (fun j => (j.status, j.step)) = some (status, .record)) ∧
    ∀ j ∈ (t.eng e).job,
      (tget (t.eng e).acc accRecord).map (fun a => (a.st, a.addr, a.write)) =
        some (.port, recordAddr j / 64 * 64, some (recordBody j))

/-! ## Pairs -/

/-- A member of a pair with no request in progress: none at the bridge, the home, the queue unit, or on its way to the partner. -/
abbrev State.pairIdle (s : State) : Prop :=
  s.pair.present = true ∧ s.quiet ∧ s.bridge.trks = [] ∧ s.home.mirWaits = [] ∧ s.qu.busy = [] ∧ s.qu.waits = [] ∧ s.qu.fwd = [] ∧
    s.tabs.queues = []

end Sys2Proof.Machine
end

