-- ==== Sys2Proof/Certificates/Slice0/Obligations.lean ====
section
/-! DEFINITION. The statements for the provers. -/
open Sys2Proof Sys2Proof.Machine

/-! ## The block -/

/-- A step with a command in front of the queue is that command's meaning with the rest of the queue. -/
def Obligations.StepRunsFront : Prop :=
  ∀ (c : Instr) (rest : List Instr) (s : State), step { s with pending := c :: rest } = exec c { s with pending := rest }

/-! ## Engine instructions (10, 11) -/

/-- R341: the scalar integer instructions. -/
def Obligations.AluResults : Prop :=
  aluResult .engAdd .add (fun x y => x + y) ∧ aluResult .engSub .sub (fun x y => x - y) ∧
  aluResult .engAnd .and (fun x y => x &&& y) ∧ aluResult .engOr .or (fun x y => x ||| y) ∧
  aluResult .engXor .xor (fun x y => x ^^^ y) ∧ aluResult .engSll .sll (fun x y => x <<< (y.toNat % 64)) ∧
  aluResult .engSrl .srl (fun x y => x >>> (y.toNat % 64)) ∧ aluResult .engSra .sra (fun x y => x.sshiftRight (y.toNat % 64)) ∧
  aluResult .engSlt .slt (fun x y => if x.toInt < y.toInt then 1#64 else 0#64) ∧
  aluResult .engSltu .sltu (fun x y => if x.toNat < y.toNat then 1#64 else 0#64) ∧
  aluResult .engMin .min (fun x y => BitVec.ofInt 64 (min x.toInt y.toInt)) ∧
  aluResult .engMax .max (fun x y => BitVec.ofInt 64 (max x.toInt y.toInt)) ∧
  aluResult .engMinu .minu (fun x y => BitVec.ofNat 64 (min x.toNat y.toNat)) ∧
  aluResult .engMaxu .maxu (fun x y => BitVec.ofNat 64 (max x.toNat y.toNat)) ∧
  aluResult .engMul .mul (fun x y => BitVec.ofInt 64 (x.toInt * y.toInt)) ∧
  aluResult .engMulh .mulh (fun x y => BitVec.ofInt 64 (x.toInt * y.toInt / 2 ^ 64)) ∧
  aluResult .engMulhu .mulhu (fun x y => BitVec.ofNat 64 (x.toNat * y.toNat / 2 ^ 64)) ∧
  aluResult .engDiv .div (fun x y => if y = 0#64 then BitVec.allOnes 64 else BitVec.ofInt 64 (x.toInt.tdiv y.toInt)) ∧
  aluResult .engDivu .divu (fun x y => if y = 0#64 then BitVec.allOnes 64 else BitVec.ofNat 64 (x.toNat / y.toNat)) ∧
  aluResult .engRem .rem (fun x y => if y = 0#64 then x else BitVec.ofInt 64 (x.toInt.tmod y.toInt)) ∧
  aluResult .engRemu .remu (fun x y => if y = 0#64 then x else BitVec.ofNat 64 (x.toNat % y.toNat)) ∧
  aluResult .engClz .clz (fun x _ => BitVec.ofNat 64 (((List.range 64).takeWhile (fun i => !x.getMsbD i)).length)) ∧
  aluResult .engCtz .ctz (fun x _ => BitVec.ofNat 64 (((List.range 64).takeWhile (fun i => !x.getLsbD i)).length)) ∧
  aluResult .engPopc .popc (fun x _ => BitVec.ofNat 64 (((List.range 64).map (fun i => (x.getLsbD i).toNat)).sum)) ∧
  aluResult .engBrev8 .brev8 (fun x _ => BitVec.ofNat 64 (((List.range 8).map (fun i => x.toNat / 2 ^ (8 * i) % 256 * 2 ^ (8 * (7 - i)))).sum)) ∧
  immResult .engAddi .addi (fun x im => x + (BitVec.ofNat 16 im).signExtend 64) ∧
  immResult .engAndi .andi (fun x im => x &&& BitVec.ofNat 64 im) ∧
  immResult .engOri .ori (fun x im => x ||| BitVec.ofNat 64 im) ∧
  immResult .engXori .xori (fun x im => x ^^^ BitVec.ofNat 64 im) ∧
  immResult .engSlti .slti (fun x im => if x.toInt < (BitVec.ofNat 16 im).toInt then 1#64 else 0#64) ∧
  immResult .engSltiu .sltiu (fun x im => if x.toNat < ((BitVec.ofNat 16 im).signExtend 64).toNat then 1#64 else 0#64) ∧
  shiResult .engShiSll .sll (fun x n => BitVec.ofNat 64 (x.toNat * 2 ^ n)) ∧
  shiResult .engShiSrl .srl (fun x n => BitVec.ofNat 64 (x.toNat / 2 ^ n)) ∧
  shiResult .engShiSra .sra (fun x n => BitVec.ofInt 64 (x.toInt / 2 ^ n)) ∧
  ∀ rd im, opResult (fun e => .engLui e rd im) (.lui rd im) (fun a => a.setG rd (BitVec.ofInt 64 ((BitVec.ofNat 16 im).toInt * 2 ^ 16)))

/-- R342: the scalar floating-point instructions. -/
def Obligations.FpuResults : Prop :=
  fpuResult .engFadd .add ∧ fpuResult .engFsub .sub ∧ fpuResult .engFmul .mul ∧ fpuResult .engFdiv .div ∧
  fpuResult .engFmin .min ∧ fpuResult .engFmax .max ∧ fpuResult .engFsqrt .sqrt ∧ fpuResult .engFeq .eq ∧
  fpuResult .engFlt .lt ∧ fpuResult .engFle .le ∧ fpuResult .engFcvtI .cvtI ∧ fpuResult .engFcvtF .cvtF ∧
  ∀ fmt src rd ra rb, opResult (fun e => .engFcvtX e fmt src rd ra rb) (.fpu .cvtX fmt src rd ra rb) (fun a =>
    let r := fpuVal .cvtX fmt src a.rnd (a.gr ra) (a.gr rb)
    (a.setG rd (BitVec.ofNat 64 r.1)).flags r.2)

/-- R342: what the floating-point values themselves are bound to: a NaN result is the default quiet NaN, FMIN and FMAX pass over one NaN,
comparisons give 0 or 1 and 0 with a NaN, FCVT.I saturates, and a narrow result fits its format. -/
def Obligations.FpuValues : Prop :=
  ∀ (f : FpuOp) (fmt src rnd : Nat) (x y : Word), fmt ≤ 2 → src ≤ 2 →
    let m := fmtOf fmt
    let a := unpack m (x.toNat % 2 ^ m.bits)
    let b := unpack m (y.toNat % 2 ^ m.bits)
    let r := (fpuVal f fmt src rnd x y).1
    (f ≠ .cvtI → r < 2 ^ m.bits) ∧
    ((f = .add ∨ f = .sub ∨ f = .mul ∨ f = .div) → (a.isNan = true ∨ b.isNan = true) → r = quietNan m) ∧
    (f = .sqrt → (a.isNan = true ∨ (∃ e k, a = .fin true k e ∧ k ≠ 0) ∨ a = .inf true) → r = quietNan m) ∧
    ((f = .min ∨ f = .max) → a.isNan = true → b.isNan = false → r = y.toNat % 2 ^ m.bits) ∧
    ((f = .min ∨ f = .max) → a.isNan = false → b.isNan = true → r = x.toNat % 2 ^ m.bits) ∧
    ((f = .eq ∨ f = .lt ∨ f = .le) → r ≤ 1 ∧ ((a.isNan = true ∨ b.isNan = true) → r = 0)) ∧
    (f = .cvtI → a.isNan = true → r = 0) ∧ (f = .cvtI → a = .inf false → r = 2 ^ 63 - 1) ∧ (f = .cvtI → a = .inf true → r = 2 ^ 63)

/-- R343: loads from the bench. -/
def Obligations.LoadResults : Prop :=
  loadResult .engLb .b 1 (fun x => (BitVec.ofNat 8 x).signExtend 64) ∧ loadResult .engLbu .bu 1 (fun x => BitVec.ofNat 64 x) ∧
  loadResult .engLh .h 2 (fun x => (BitVec.ofNat 16 x).signExtend 64) ∧ loadResult .engLhu .hu 2 (fun x => BitVec.ofNat 64 x) ∧
  loadResult .engLw .w 4 (fun x => (BitVec.ofNat 32 x).signExtend 64) ∧ loadResult .engLwu .wu 4 (fun x => BitVec.ofNat 64 x) ∧
  loadResult .engLd .d 8 (fun x => BitVec.ofNat 64 x) ∧
  ∀ e vd ra im s, engReady e (.vld vd ra im) s = true →
    let a := (s.eng e).arch
    let addr := (a.gr ra + sext16 im * 64#64).toNat
    addr % 64 = 0 → addr < 0x40000 →
    Completes (.engVld e vd ra im false) s
      (engineStep e (s.engWith e (stepPc (a.setV vd (BitVec.ofNat 512 (benchValue (s.eng e).bench addr 64))))) s)

/-- R343: stores to the bench, and their frame. -/
def Obligations.StoreResults : Prop :=
  storeResult .engSb 0 1 ∧ storeResult .engSh 1 2 ∧ storeResult .engSw 2 4 ∧ storeResult .engSd 3 8 ∧
  (∀ e vs ra im s, engReady e (.vst vs ra im) s = true →
    let a := (s.eng e).arch
    let addr := (a.gr ra + sext16 im * 64#64).toNat
    addr % 64 = 0 → addr < 0x40000 →
    Completes (.engVst e vs ra im) s (benchStep e (stepPc a) (fun x =>
      if addr ≤ x ∧ x < addr + 64 then some ((a.vr vs).toNat / 2 ^ (8 * (x - addr)) % 256) else none) s)) ∧
  (∀ e vd ra typ p s, engReady e (.vstm vd ra typ p) s = true →
    let a := (s.eng e).arch
    let addr := (a.gr ra).toNat
    addr % 64 = 0 → addr < 0x40000 →
    Completes (.engVstm e vd ra typ p) s (benchStep e (stepPc a) (fun x =>
      if addr ≤ x ∧ x < addr + 64 ∧ (a.pr p).getLsbD ((x - addr) / laneBytes typ) = true then
        some ((a.vr vd).toNat / 2 ^ (8 * (x - addr)) % 256) else none) s))

/-- R344, R346: branches, jumps, LOOP and LOOPI. -/
def Obligations.BranchResults : Prop :=
  branchResult .engBeq .eq (fun x y => decide (x = y)) ∧ branchResult .engBne .ne (fun x y => decide (x ≠ y)) ∧
  branchResult .engBlt .lt (fun x y => decide (x.toInt < y.toInt)) ∧ branchResult .engBge .ge (fun x y => decide (y.toInt ≤ x.toInt)) ∧
  branchResult .engBltu .ltu (fun x y => decide (x.toNat < y.toNat)) ∧
  branchResult .engBgeu .geu (fun x y => decide (y.toNat ≤ x.toNat)) ∧
  (∀ e off s, engReady e (.jump off) s = true → branchStop (s.eng e).arch = none →
    let a := (s.eng e).arch
    Completes (.engJ e off) s (engineStep e (s.engWith e
      (jumpArch a (((a.pc : Int) + 4 * (BitVec.ofNat 26 off).toInt) % 2 ^ 64).toNat 0)) s)) ∧
  (∀ e off s, engReady e (.jal off) s = true → branchStop (s.eng e).arch = none →
    let a := (s.eng e).arch
    Completes (.engJal e off) s (engineStep e (s.engWith e
      (jumpArch a (((a.pc : Int) + 4 * (BitVec.ofNat 26 off).toInt) % 2 ^ 64).toNat 30)) s)) ∧
  (∀ e rd ra x s, engReady e (.jr rd ra x) s = true → branchStop (s.eng e).arch = none → (rd = 0 ∨ rd ≠ ra) →
    let a := (s.eng e).arch
    (a.gr ra).toNat % 2 ^ 18 % 4 = 0 →
    Completes (.engJr e rd ra x) s (engineStep e (s.engWith e (jumpArch a ((a.gr ra).toNat % 2 ^ 18) rd)) s)) ∧
  (∀ e ra len s, engReady e (.loop ra len) s = true → loopFits s e len = true → ((s.eng e).arch.gr ra).toNat < 2 ^ 28 →
    Completes (.engLoop e ra len) s (engineStep e (s.engWith e
      (loopArch (s.eng e).arch ((s.eng e).arch.gr ra).toNat len)) s)) ∧
  (∀ e count len s, engReady e (.loopi count len) s = true → loopFits s e len = true →
    Completes (.engLoopi e count len) s (engineStep e (s.engWith e (loopArch (s.eng e).arch count len)) s))

/-- R351-R353: queue instructions whose slot passes its checks send their request and wait for the answer. -/
def Obligations.QueueInstructions : Prop :=
  (∀ e rd ra x slot s, engReady e (.qpush rd ra x slot) s = true → ∀ j m q, (s.eng e).job = some j → queueSlot j slot true = some m →
    (pcfg? s m.base).map (fun c => c.queue) = some q →
    let g := s.eng e
    let w := g.arch.gr rd
    let len := commitLen w
    let at_ := (g.arch.gr ra).toNat
    at_ % 8 = 0 → at_ + 8 * ((len + 7) / 8) ≤ 0x40000 → 0 < len → len ≤ 16384 →
    Completes (.engQpush e rd ra x slot) s (queueSent e q slot (some rd) none
      (.commit m.base w (some ((List.range ((len + 7) / 8)).map (fun i => tgetD g.bench (at_ / 8 + i) 0#64)))) s)) ∧
  (∀ e rd ra x slot s, engReady e (.qpop rd ra x slot) s = true → ∀ j m, (s.eng e).job = some j → queueSlot j slot false = some m →
    let at_ := ((s.eng e).arch.gr ra).toNat
    at_ % 8 = 0 → at_ + 16400 ≤ 0x40000 →
    Completes (.engQpop e rd ra x slot) s (queueSent e m.base slot (some rd) (some at_) .pop s)) ∧
  (∀ e x y slot s, engReady e (.qrel .release x y slot) s = true → ∀ j m, (s.eng e).job = some j → queueSlot j slot false = some m →
    Completes (.engQrelRelease e x y slot) s (queueSent e m.base slot none none (.cmd .release) s)) ∧
  (∀ e x y slot s, engReady e (.qrel .mark x y slot) s = true → ∀ j m, (s.eng e).job = some j → queueSlot j slot false = some m →
    Completes (.engQrelMark e x y slot) s (queueSent e m.base slot none none (.cmd .mark) s)) ∧
  (∀ e x y slot s, engReady e (.qrel .rewind x y slot) s = true → ∀ j m, (s.eng e).job = some j → queueSlot j slot false = some m →
    Completes (.engQrelRewind e x y slot) s (queueSent e m.base slot none none (.cmd .rewind) s))

/-- R338, R354, R355, R365, R370, R371, R383: WAIT.H, TRAP, RFE, SETM, MFS, MTS and the barriers. -/
def Obligations.SystemInstructions : Prop :=
  (∀ e x im s, engReady e (.waitH x im) s = true →
    Completes (.engWaitH e x im) s (engineStep e
      { s.eng e with
        arch := stepPc (s.eng e).arch, hint := 0,
        wait := if min (s.eng e).hint im = 0 then .none else .sleep (s.now + 16 * min (s.eng e).hint im) } s)) ∧
  (∀ e x im s, engReady e (.trap x im) s = true → (s.eng e).arch.hnd = false →
    let a := stepPc (s.eng e).arch
    let sp := (a.gr 31).toNat
    sp % 64 = 0 → 0x40 ≤ sp → sp ≤ 0x40000 →
    Completes (.engTrap e x im) s (engineStep e
      { s.eng e with
        arch := { a with
          epc := mkFld 17 0 a.pc, cause := 7#64, faultAddr := BitVec.ofNat 64 im,
          status := clrBit (clrBit (setBit a.status 0) 2) 3, pc := a.evec.toNat + 7 * 64, slot := none }.setG 31
            (BitVec.ofNat 64 (sp - 64)),
        bench := benchWords (sp - 64)
          [mkFld 17 0 a.pc, a.status, 7#64, BitVec.ofNat 64 im, a.loop0, a.loop1, a.gr 1, a.gr 2] (s.eng e).bench } s)) ∧
  (∀ e x s, engReady e (.rfe x) s = true →
    let a := (s.eng e).arch
    let sp := (a.gr 31).toNat
    let w := fun k => tgetD (s.eng e).bench (sp / 8 + k) 0#64
    a.hnd = true → a.slot = none → sp % 64 = 0 → 0x40 ≤ sp → sp ≤ 0x3FFC0 →
    Completes (.engRfe e x) s (engineStep e (s.engWith e
      (((({ a with
        status := w 1 &&& 0x1F0C#64, loop0 := w 4, loop1 := w 5, pc := fld (w 0) 17 2 * 4, slot := none }.setG 1 (w 6)).setG 2
          (w 7)).setG 31 (BitVec.ofNat 64 (sp + 64))))) s)) ∧
  (∀ e x ra y s, engReady e (.setm x ra y) s = true → ((s.eng e).arch.gr ra).toNat < 8 →
    Completes (.engSetm e x ra y) s (engineStep e (s.engWith e
      (stepPc { (s.eng e).arch with mode := (s.eng e).arch.gr ra })) s)) ∧
  (∀ rd x n, n < 8 → opResult (fun e => .engMfs e rd x n) (.mfs rd x n) (fun a => a.setG rd
    (match n with
    | 0 => a.epc | 1 => a.status | 2 => a.cause | 3 => a.faultAddr | 4 => a.mode | 5 => a.loop0 | 6 => a.loop1 | _ => a.evec))) ∧
  (∀ x ra, opResult (fun e => .engMts e x ra 0) (.mts x ra 0) (fun a => { a with epc := a.gr ra &&& 0x3FFFC#64 })) ∧
  (∀ x ra, opResult (fun e => .engMts e x ra 1) (.mts x ra 1) (fun a => { a with status := (a.gr ra &&& 0x1F0C#64) ||| (a.status &&& 1#64) })) ∧
  (∀ x ra, opResult (fun e => .engMts e x ra 2) (.mts x ra 2) (fun a => { a with cause := a.gr ra &&& 0xC0000000000000FF#64 })) ∧
  (∀ x ra, opResult (fun e => .engMts e x ra 5) (.mts x ra 5) (fun a => { a with loop0 := a.gr ra })) ∧
  (∀ x ra, opResult (fun e => .engMts e x ra 6) (.mts x ra 6) (fun a => { a with loop1 := a.gr ra })) ∧
  (∀ x ra, opResult (fun e => .engMts e x ra 7) (.mts x ra 7) (fun a => { a with evec := a.gr ra &&& 0x3FFC0#64 })) ∧
  (∀ x, opResult (fun e => .engOrdL e x) (.ord .l x) id) ∧ (∀ x, opResult (fun e => .engOrdS e x) (.ord .s x) id) ∧
  (∀ x, opResult (fun e => .engOrdA e x) (.ord .a x) id)

/-- R356, R330: DONE ends the job with status OK: its results are g1 and g2, and its record is on its way. -/
def Obligations.DoneEndsJob : Prop :=
  ∀ e x s j, engReady e (.done x) s = true → (s.eng e).job = some j → j.compOk = true → tget (s.eng e).acc accRunning = none →
    Completes (.engDone e x) s (fun t => ∃ k, (t.eng e).job = some k ∧ k.step = .record ∧ k.status = stOk ∧
      k.res0 = (s.eng e).arch.gr 1 ∧ k.res1 = (s.eng e).arch.gr 2 ∧ k.code = 0 ∧ k.prod = j.prod ∧ k.seq = j.seq ∧
      (t.eng e).arch = (s.eng e).arch ∧ (t.eng e).bench = (s.eng e).bench ∧
      ((tget (t.eng e).acc accRecord).map FarAcc.addr) = some (recordAddr j / 64 * 64) ∧ ∀ y, y ≠ e → t.eng y = s.eng y)

/-- R349: the VALU instructions, lane by lane. -/
def Obligations.ValuResults : Prop :=
  valuResult .engVadd .add ∧ valuResult .engVsub .sub ∧ valuResult .engVmul .mul ∧ valuResult .engVmin .min ∧
  valuResult .engVmax .max ∧ valuResult .engVand .and ∧ valuResult .engVor .or ∧ valuResult .engVxor .xor ∧
  valuResult .engVsll .sll ∧ valuResult .engVsrl .srl ∧ valuResult .engVsra .sra ∧ valuResult .engVfma .fma ∧
  valuResult .engVabs .abs ∧ valuResult .engVneg .neg ∧ valuResult .engVdiv .div ∧ valuResult .engVsel .sel

/-- R350: reductions, comparisons, VBCAST, VEXT, VINS, MFP and MTP. -/
def Obligations.VredVcmpResults : Prop :=
  vredResult .engVredAdd .add ∧ vredResult .engVredMin .min ∧ vredResult .engVredMax .max ∧ vredResult .engVredAnd .and ∧
  vredResult .engVredOr .or ∧ vredResult .engVredXor .xor ∧
  vcmpResult .engVcmpEq .eq ∧ vcmpResult .engVcmpNe .ne ∧ vcmpResult .engVcmpLt .lt ∧ vcmpResult .engVcmpLe .le ∧
  vcmpResult .engVcmpLtu .ltu ∧ vcmpResult .engVcmpLeu .leu ∧
  (∀ typ vd ra x p e s, engReady e (.vbcast typ vd ra x p) s = true →
    let a := (s.eng e).arch
    Completes (.engVbcast e typ vd ra x p) s (fun t => ∃ v, engineStep e (s.engWith e (stepPc (a.setV vd v))) s t ∧
      ∀ i, i < laneCount typ → lane typ v i =
        if (a.pr p).getLsbD i then (a.gr ra).toNat % 2 ^ (8 * laneBytes typ) else lane typ (a.vr vd) i)) ∧
  (∀ typ vd ra rb p e s, engReady e (.vins typ vd ra rb p) s = true →
    let a := (s.eng e).arch
    Completes (.engVins e typ vd ra rb p) s (fun t => ∃ v, engineStep e (s.engWith e (stepPc (a.setV vd v))) s t ∧
      ∀ i, i < laneCount typ → lane typ v i =
        if i = (a.gr rb).toNat % laneCount typ then (a.gr ra).toNat % 2 ^ (8 * laneBytes typ) else lane typ (a.vr vd) i)) ∧
  (∀ typ rd va rb p, opResult (fun e => .engVext e typ rd va rb p) (.vext typ rd va rb p) (fun a =>
    let x := lane typ (a.vr va) ((a.gr rb).toNat % laneCount typ)
    a.setG rd (if typ ≤ 3 then BitVec.ofInt 64 (sgnOf (laneBytes typ) x) else BitVec.ofNat 64 x))) ∧
  (∀ typ rd ra x p, opResult (fun e => .engMfp e typ rd ra x p) (.mfp typ rd ra x p) (fun a => a.setG rd (a.pr (ra % 8)))) ∧
  (∀ typ rd ra x p, opResult (fun e => .engMtp e typ rd ra x p) (.mtp typ rd ra x p) (fun a => a.setP (rd % 8) (a.gr ra)))

/-- R340: every well-formed engine instruction is the one its word decodes to, and every word that decodes is the word of what it
decodes to. -/
def Obligations.EngineCode : Prop :=
  (∀ op, engWf op = true → engEncode op < 2 ^ 32 ∧ engDecode (engEncode op) = some op) ∧
  (∀ w op, w < 2 ^ 32 → engDecode w = some op → engWf op = true ∧ engEncode op = w)

/-! ## The control space (00, 18) -/

/-- R544: the commands that are writes of the control space: of which register, and which bits. -/
def Obligations.RegisterWrites : Prop :=
  (∀ p off bytes data, isWrite (.registerWrite p off bytes data) p off bytes (fun _ => data)) ∧
  (∀ p die data, die < 2 → isWrite (.fillRespWrite p die data) p (Reg.fillResp die) 8 (fun _ => data)) ∧
  (∀ p die data, die < 2 → isWrite (.evictRespWrite p die data) p (Reg.evictResp die) 8 (fun _ => data)) ∧
  (∀ p data, isWrite (.dcTmoRespWrite p data) p Reg.dcTmoResp 8 (fun _ => data)) ∧
  (∀ p port data, port < 512 → isWrite (.eqResp p port data) p (Reg.eqResp port) 8 (fun _ => data)) ∧
  (∀ p n data, n < 2 → isWrite (.dispatchRespWrite p n data) p (Reg.dispatchResp n) 8 (fun _ => data)) ∧
  (∀ p data, isWrite (.takeoverRespWrite p data) p Reg.takeoverResp 8 (fun _ => data)) ∧
  (∀ p data, isWrite (.escRespWrite p data) p Reg.escResp 8 (fun _ => data)) ∧
  (∀ p port, port < 512 → isWrite (.portEnable p port) p (Reg.portCtl port) 8 (keepSet (Reg.portCtl port) 1#64)) ∧
  (∀ p port, port < 512 → isWrite (.portDisable p port) p (Reg.portCtl port) 8 (fun s => s.rd (Reg.portCtl port) &&& ~~~3#64)) ∧
  (∀ p port, port < 512 → isWrite (.portRetrain p port) p (Reg.portCtl port) 8 (keepSet (Reg.portCtl port) 2#64)) ∧
  (∀ p i, i < 256 → isWrite (.bxeForceContain p i) p (Reg.bxeCtl i) 8 (keepSet (Reg.bxeCtl i) 4#64)) ∧
  (∀ p i, i < 256 → isWrite (.bxeRelease p i) p (Reg.bxeCtl i) 8 (keepSet (Reg.bxeCtl i) 8#64)) ∧
  (∀ p h, h < 64 → isWrite (.hostReadmit p h) p (Reg.hostCoh h) 8 (keepSet (Reg.hostCoh h) 1#64)) ∧
  (∀ p ch, ch < 128 → isWrite (.channelRetireRequest p ch) p (Reg.chStatus ch) 8 (keepSet (Reg.chStatus ch) (1#64 <<< 48))) ∧
  (∀ p data, isWrite (.queueReset p data) p Reg.qReset 8 (fun _ => data ||| (1#64 <<< 63))) ∧
  (∀ p e, e < 128 → isWrite (.engAbort p e) p (Reg.engCtl e) 8 (keepSet (Reg.engCtl e) 4#64)) ∧
  (∀ p e, e < 128 → isWrite (.engineResume p e) p (Reg.shCtl e) 8 (keepSet (Reg.shCtl e) 1#64)) ∧
  (∀ p, isWrite (.offGo p) p Reg.pwrCtl 8 (keepSet Reg.pwrCtl 1#64)) ∧
  (∀ p, isWrite (.shadowOpen p) p Reg.shadowCtl 8 (keepSet Reg.shadowCtl 1#64)) ∧
  (∀ p data, isWrite (.shadowDataWrite p data) p Reg.shadowData 8 (fun _ => data)) ∧
  (∀ p, isWrite (.shadowGo p) p Reg.shadowCtl 8 (keepSet Reg.shadowCtl 2#64)) ∧
  (∀ p, isWrite (.shadowAbandon p) p Reg.shadowCtl 8 (keepSet Reg.shadowCtl 4#64)) ∧
  (∀ p data, isWrite (.handoverRequest p data) p Reg.splitReq 8 (fun _ => data ||| (1#64 <<< 63))) ∧
  (∀ p, isWrite (.swapRequest p) p Reg.swapCtl 8 (keepSet Reg.swapCtl 1#64)) ∧
  (∀ p, isWrite (.moveGo p) p Reg.pairCtl 8 (keepSet Reg.pairCtl 2#64)) ∧
  (∀ p, isWrite (.dissolve p) p Reg.pairCtl 8 (keepSet Reg.pairCtl 4#64)) ∧
  (∀ p, isWrite (.pinClear p) p Reg.pairCtl 8 (keepSet Reg.pairCtl 8#64)) ∧
  (∀ p ring n, 1 ≤ ring → ring ≤ 5 → isWrite (.ringConsWrite p ring n) p (Reg.ringCons ring) 8 (fun _ => BitVec.ofNat 64 n)) ∧
  (∀ p n, isWrite (.vlogConsWrite p n) p Reg.vlogCons 8 (fun _ => BitVec.ofNat 64 n)) ∧
  (∀ p u n, isWrite (.isoIsolate p u n) p Reg.isoCtl 8 (fun _ => mkFld 63 63 1 ||| mkFld 55 48 u ||| mkFld 17 0 n)) ∧
  (∀ p u n, isWrite (.isoRejoin p u n) p Reg.isoCtl 8 (fun _ => mkFld 63 62 3 ||| mkFld 55 48 u ||| mkFld 17 0 n)) ∧
  (∀ p n, n < 128 → isWrite (.slotClear p n) p (Reg.slotCtl n) 8 (keepSet (Reg.slotCtl n) (1#64 <<< 16))) ∧
  (∀ p n, n < 128 → isWrite (.slotFetClear p n) p (Reg.slotCtl n) 8 (keepSet (Reg.slotCtl n) (1#64 <<< 17))) ∧
  (∀ p n data, n < 128 → isWrite (.slotCmdGo p n data) p (Reg.slotCmd n) 8 (fun _ => data ||| (1#64 <<< 63))) ∧
  (∀ p on, isWrite (.countFreeze p on) p Reg.countCtl 8 (fun s => (s.rd Reg.countCtl &&& ~~~5#64) ||| (if on then 1#64 else 0#64))) ∧
  (∀ p, isWrite (.countClear p) p Reg.countCtl 8 (keepSet Reg.countCtl 4#64))

/-- R15, R544: the commands that are reads of the control space. -/
def Obligations.RegisterReads : Prop :=
  (∀ p off bytes, isRead (.clearingRead p off bytes) p off bytes) ∧
  (∀ p die, die < 2 → isRead (.fillReqRead p die) p (Reg.fillReq die) 8) ∧
  (∀ p die, die < 2 → isRead (.evictReqRead p die) p (Reg.evictReq die) 8) ∧
  (∀ p, isRead (.dcTmoReqRead p) p Reg.dcTmoReq 8) ∧ (∀ p, isRead (.noticeReqRead p) p Reg.noticeReq 8) ∧
  (∀ p n, n < 2 → isRead (.dispatchReqRead p n) p (Reg.dispatchReq n) 8) ∧
  (∀ p, isRead (.takeoverReqRead p) p Reg.takeoverReq 8) ∧ (∀ p, isRead (.escReqRead p) p Reg.escReq 8) ∧
  (∀ p, isRead (.hpReqRead p) p Reg.hpReq 8)

/-- R82: a 64-bit read of a mailbox takes its oldest post, or answers 0; the posts behind it stay in their order. -/
def Obligations.MailboxReads : Prop :=
  (∀ p d w r s, d < 2 → accessServed (plainAcc p (Reg.fillReq d) 8 none) s → tgetD s.xl.fillPosts d [] = w :: r →
    Completes (.fillReqRead p d) s (fun t => t.out = s.out ++ [.readDone p (Reg.fillReq d) w] ∧ tgetD t.xl.fillPosts d [] = r ∧
      { t with out := s.out, xl.fillPosts := s.xl.fillPosts } = s)) ∧
  (∀ p d w r s, d < 2 → accessServed (plainAcc p (Reg.evictReq d) 8 none) s → tgetD s.home.evictPosts d [] = w :: r →
    Completes (.evictReqRead p d) s (fun t => t.out = s.out ++ [.readDone p (Reg.evictReq d) w] ∧
      tgetD t.home.evictPosts d [] = r ∧ { t with out := s.out, home.evictPosts := s.home.evictPosts } = s)) ∧
  (∀ p d w r s, d < 2 → accessServed (plainAcc p (Reg.dispatchReq d) 8 none) s → tgetD s.mill.posts d [] = w :: r →
    Completes (.dispatchReqRead p d) s (fun t => t.out = s.out ++ [.readDone p (Reg.dispatchReq d) w] ∧
      tgetD t.mill.posts d [] = r ∧ { t with out := s.out, mill.posts := s.mill.posts } = s)) ∧
  (∀ p w r s, accessServed (plainAcc p Reg.escReq 8 none) s → s.ras.escPosts = w :: r →
    Completes (.escReqRead p) s (fun t => t = { s with ras.escPosts := r }.emit (.readDone p Reg.escReq w))) ∧
  (∀ p w r s, accessServed (plainAcc p Reg.noticeReq 8 none) s → s.qu.notices = w :: r →
    Completes (.noticeReqRead p) s (fun t => t = { s with qu.notices := r }.emit (.readDone p Reg.noticeReq w))) ∧
  (∀ p w r s, accessServed (plainAcc p Reg.hpReq 8 none) s → s.chain.hpPosts = w :: r →
    Completes (.hpReqRead p) s (fun t => t = { s with chain.hpPosts := r }.emit (.readDone p Reg.hpReq w))) ∧
  (∀ p w s, accessServed (plainAcc p Reg.takeoverReq 8 none) s → s.pair.present = true → s.pair.tkPost = some w →
    Completes (.takeoverReqRead p) s (fun t => t = { s with pair.tkPost := none }.emit (.readDone p Reg.takeoverReq w))) ∧
  (∀ p w r s, accessServed (plainAcc p Reg.dcTmoReq 8 none) s → s.xl.dcPosts = w :: r →
    (∀ x ∈ s.xl.dcRel, x.waits = false) →
    Completes (.dcTmoReqRead p) s (fun t => t = { s with xl.dcPosts := r }.emit (.readDone p Reg.dcTmoReq w))) ∧
  ∀ p s, accessServed (plainAcc p Reg.escReq 8 none) s → s.ras.escPosts = [] →
    Completes (.escReqRead p) s (fun t => t = s.emit (.readDone p Reg.escReq 0#64))

/-- R12, R16, R18: a 64-bit write of a register below offset 0x200000 (GLOBAL, CLOCK_RESET) field by field: RO and RC fields keep
their bits, a reserved encoding leaves its field, every other RW field takes the bits written, a 1 clears a W1C bit; no other
register changes. -/
def Obligations.FieldWrites : Prop :=
  ∀ p off data s d, off < 0x200000 → off % 8 = 0 → regAt off = some d → writeServed p off data s →
    Completes (.registerWrite p off 8 data) s (fun t =>
      (∀ f ∈ d.flds, t.rf off f.hi f.lo = match f.acc with
        | .ro | .rc | .w1s => s.rf off f.hi f.lo
        | .rw => if f.legal = [] ∨ (∃ r ∈ f.legal, r.1 ≤ fld data f.hi f.lo ∧ fld data f.hi f.lo ≤ r.2) then fld data f.hi f.lo
                 else s.rf off f.hi f.lo
        | .w1c => fld (s.rd off &&& ~~~data) f.hi f.lo) ∧
      (∀ o, o ≠ off → t.rd o = s.rd o) ∧ t.clk = s.clk ∧ t.alm = s.alm ∧ t.home = s.home ∧ t.ras = s.ras)

/-- R15, R13: a read of a register below offset 0x200000 answers its value and clears its RC fields; no other field changes.
FOLLOW_STATUS, whose fields the clocks hold, apart. -/
def Obligations.FieldReads : Prop :=
  ∀ p off s d, off < 0x200000 → off % 8 = 0 → off ≠ Reg.followStatus → regAt off = some d →
    accessServed (plainAcc p off 8 none) s →
    Completes (.clearingRead p off 8) s (fun t =>
      t.out = s.out ++ [.readDone p off (regValue s off)] ∧
      (∀ f ∈ d.flds, t.rf off f.hi f.lo = if f.acc = .rc then 0 else s.rf off f.hi f.lo) ∧
      (∀ o, o ≠ off → t.rd o = s.rd o) ∧ { t with out := s.out, regs := s.regs } = s)

/-- R9, R546, R558: an access that its path cannot serve is answered with its code and changes nothing; the TEST block reads 0 and
takes no write by another path than JTAG. -/
def Obligations.RefusedAccesses : Prop :=
  (∀ p off bytes data s, notBar p = true → pathThere s p = true → (s.inGap && gapHolds p) = false →
    csrCode s (plainAcc p off bytes (some data)) ≠ 0 →
    Completes (.registerWrite p off bytes data) s (fun t =>
      t = s.emit (.accessError p off (csrCode s (plainAcc p off bytes (some data)))))) ∧
  (∀ p off bytes s, notBar p = true → pathThere s p = true → (s.inGap && gapHolds p) = false →
    csrCode s (plainAcc p off bytes none) ≠ 0 →
    Completes (.clearingRead p off bytes) s (fun t => t = s.emit (.accessError p off (csrCode s (plainAcc p off bytes none))))) ∧
  (∀ p off data s, p ≠ .jtag → 0x3C00000 ≤ off → off < 0x4000000 → off % 8 = 0 → portManaged s p = true → pathThere s p = true →
    (s.inGap && gapHolds p) = false →
    Completes (.registerWrite p off 8 data) s (fun t => t = s.emit (.writeDone p off)) ∧
      Completes (.clearingRead p off 8) s (fun t => t = s.emit (.readDone p off 0#64)))

/-- R8, R10, R11: the accesses that are errors on every path: a width or an alignment outside 32 bits at a multiple of 4 and 64 bits
at a multiple of 8, and a 32-bit write of a 64-bit only register. -/
def Obligations.AccessWidths : Prop :=
  (∀ s a, csrCode s a = 0 → a.off < 0x4000000 ∧ a.whole = true ∧ ((a.bytes = 4 ∧ a.off % 4 = 0) ∨ (a.bytes = 8 ∧ a.off % 8 = 0))) ∧
  (∀ s a d w, csrCode s a = 0 → testHidden a = false → a.data = some w → a.bytes = 4 → regPresent s (a.off / 8 * 8) = true →
    regAt (a.off / 8 * 8) = some d → d.only64 = false) ∧
  ∀ s a w, csrCode s a = 0 → testHidden a = false → a.data = some w → s.mode = .halt →
    ∃ d, regAt (a.off / 8 * 8) = some d ∧ d.halt = true

/-- R544, R545, R549: MCTP requests: an access that is served is answered SUCCESS with its data; one refused is answered with its
code and changes nothing. -/
def Obligations.MctpRequests : Prop :=
  (∀ p tag off s, isMctp p = true → accessServed (plainAcc p off 4 none) s →
    Completes (.read32 p tag off) s (fun t =>
      t = (csrRead off 4 s).2.emit (.mctp p tag 1 0 [(csrRead off 4 s).1]))) ∧
  (∀ p tag off s, isMctp p = true → accessServed (plainAcc p off 8 none) s →
    Completes (.read64 p tag off) s (fun t =>
      t = (csrRead off 8 s).2.emit (.mctp p tag 2 0 [(csrRead off 8 s).1]))) ∧
  (∀ p tag off data s, isMctp p = true → accessServed (plainAcc p off 4 (some (BitVec.setWidth 64 data))) s →
    Completes (.write32 p tag off data) s (fun t =>
      t = (csrWrite off 4 (data.setWidth 64) s).emit (.mctp p tag 3 0 []))) ∧
  (∀ p tag off data s, isMctp p = true → accessServed (plainAcc p off 8 (some data)) s →
    Completes (.write64 p tag off data) s (fun t => t = (csrWrite off 8 data s).emit (.mctp p tag 4 0 []))) ∧
  (∀ p tag off data s, isMctp p = true → pathThere s p = true → s.inGap = false → csrCode s (plainAcc p off 8 (some data)) ≠ 0 →
    Completes (.write64 p tag off data) s (fun t =>
      t = s.emit (.mctp p tag 4 (csrCode s (plainAcc p off 8 (some data))) []))) ∧
  (∀ p tag off s, isMctp p = true → accessServed (plainAcc p off 8 none) s →
    accessServed (plainAcc p (off + 8) 8 none) (csrRead off 8 s).2 →
    Completes (.readBlock p tag off 2) s (fun t =>
      let s1 := (csrRead off 8 s).2
      t = (csrRead (off + 8) 8 s1).2.emit (.mctp p tag 5 0 [(csrRead off 8 s).1, (csrRead (off + 8) 8 s1).1]))) ∧
  ∀ p tag off n s, isMctp p = true → pathThere s p = true → s.inGap = false → (n = 0 ∨ 32 < n) →
    Completes (.readBlock p tag off n) s (fun t => t = s.emit (.mctp p tag 5 3 []))

/-- R39, R546, R552: an access of BAR 2 of a HOST port that is up and has MGMT = 1, and one of JTAG in TEST. -/
def Obligations.Bar2AndJtag : Prop :=
  (∀ port off s, hostPortUp s port = true → s.inGap = false → s.cnt.frozen = true →
    csrCode s (barRead port off) = 0 →
    testHidden (barRead port off) = false →
    Completes (.bar2Access port { off, dws := 2, allBe := true, data := none }) s (fun t =>
      t = (csrRead off 8 s).2.emit (.barCpl port (some (csrRead off 8 s).1)))) ∧
  (∀ off data s, s.mode = .test → off < 2 ^ 23 → csrCode s (plainAcc .jtag (8 * off) 8 (some data)) = 0 →
    Completes (.csrAccess true off data) s (fun t => t.jtag.accData = 0#64 ∧ t.jtag.accOff = off ∧ t.jtag.accErr = false)) ∧
  ∀ off data s, s.mode = .test → off < 2 ^ 23 → csrCode s (plainAcc .jtag (8 * off) 8 none) = 0 →
    Completes (.csrAccess false off data) s (fun t =>
      t.jtag.accData = regValue s (8 * off) ∧ t.jtag.accOff = off ∧ t.jtag.accErr = false)

/-! ## Power, modes, resets (13, 16) -/

/-- R414, R498, R430: the arrival and the loss of auxiliary power: AUX or OFF, every register at its reset value, the fused keys kept. -/
def Obligations.AuxiliaryPower : Prop :=
  (∀ s, s.pwr.auxGood = false → Completes .auxPowerGood s (fun t =>
    t.mode = .aux ∧ t.now = 0 ∧ t.pwr.auxGood = true ∧ t.pwr.pwrEn = false ∧ t.regs = [] ∧ t.alm.keys = s.alm.keys ∧
      t.pwr.pwrGood = s.pwr.pwrGood ∧ t.pwr.sysRst = s.pwr.sysRst ∧ t.pwr.offReq = s.pwr.offReq ∧ t.pending = s.pending)) ∧
  (∀ s, Completes .auxPowerLoss s (fun t =>
    t.mode = .off ∧ t.pwr.auxGood = false ∧ t.pwr.pwrEn = false ∧ t.clk.running = 0#18 ∧ t.regs = [] ∧ t.alm.keys = s.alm.keys ∧
      t.out = s.out ∧ t.pending = s.pending))

/-- R414, R419, R423, R499, R501, R555: PWR_GOOD_IN, SYS_RST_N and PWR_EN_OUT: the start of LOAD, and the resets of the core
partition, whose cause RESET_CAUSE takes; what D0 holds stays. -/
def Obligations.PowerPins : Prop :=
  (∀ s, s.pwr.auxGood = true → s.mode = .aux → s.pwr.pwrEn = true → s.pwr.sysRst = false → s.pwr.holdCause = 0 →
    s.pwr.offPending = .none → s.pwr.offReq = false →
    Completes .pwrGoodAssert s (fun t =>
      t.mode = .load ∧ t.alm.load = .reading (s.rb Reg.almCtl 0) false ∧ t.pwr.pwrGood = true ∧ t.pwr.pgFails = 0 ∧
        t.pwr.pgDeadline = none ∧ t.alm.entry = s.now ∧ t.now = s.now ∧ t.rd Reg.almStatus = 0#64)) ∧
  (∀ s, s.pwr.auxGood = true → s.mode ≠ .aux → Completes .pwrGoodAssert s (fun t =>
    t.mode = s.mode ∧ t.pwr.pwrGood = true ∧ t.pwr.pgDeadline = none ∧ t.regs = s.regs)) ∧
  (∀ s, s.pwr.auxGood = true → s.mode.loadToHalt = true → Completes .pwrGoodDeassert s (fun t =>
    t.mode = .aux ∧ t.pwr.pwrGood = false ∧ t.rf Reg.resetCause 7 0 = 2 ∧ t.rb Reg.resetCause 17 = true ∧
      t.rf Reg.resetCause 47 32 = min 65535 (s.rf Reg.resetCause 47 32 + 1) ∧
      (∀ o d, regAt o = some d → d.aon = false → t.rd o = resetValue o) ∧
      (∀ o d, regAt o = some d → d.aon = true → o ≠ Reg.resetCause → t.rd o = s.rd o) ∧
      t.now = s.now ∧ t.alm.keys = s.alm.keys ∧ t.ras.haltRec = s.ras.haltRec ∧ t.chain.slots = s.chain.slots)) ∧
  (∀ s, s.pwr.auxGood = true → s.mode.loadToHalt = true → Completes .sysRstAssert s (fun t =>
    t.mode = .aux ∧ t.pwr.sysRst = true ∧ t.pwr.holdCause = 0 ∧ t.rf Reg.resetCause 7 0 = 3 ∧ t.rb Reg.resetCause 18 = true ∧
      (∀ o d, regAt o = some d → d.aon = false → t.rd o = resetValue o) ∧ t.now = s.now ∧ t.alm.keys = s.alm.keys)) ∧
  (∀ s, (s.mode = .aux → s.pwr.pwrGood = false) → Completes .sysRstDeassert s (fun t => t = { s with pwr.sysRst := false })) ∧
  (∀ s, s.pwr.auxGood = true → s.mode = .aux → s.pwr.pwrEn = false → s.pwr.offReq = false → s.pwr.holdCause = 0 →
    s.pwr.offPending = .none → s.pwr.pwrGood = false → Completes .pwrEnAssert s (fun t =>
      t.pwr.pwrEn = true ∧ t.mode = .aux ∧ t.now = max s.now ((s.pwr.pwrEnFell.map (· + 10000000)).getD 0) ∧
        t.pwr.pgDeadline = some (t.now + 200000000) ∧ t.regs = s.regs))

/-- R500, R502, R503, R505: the power-good timer, off requests and the reversal of a power-up. -/
def Obligations.OffRequests : Prop :=
  (∀ s d, s.pwr.pgDeadline = some d → Completes .powerGoodTimeout s (fun t =>
    t.pwr.pwrEn = false ∧ t.now = max s.now d ∧ t.pwr.pgFails = min 3 (s.pwr.pgFails + 1) ∧
      t.pwr.holdCause = (if 2 ≤ s.pwr.pgFails then 3 else s.pwr.holdCause) ∧ t.rb Reg.pwrEvents 0 = true ∧
      t.ras.inbox.map (·.cls) = s.ras.inbox.map (·.cls) ++ [0xC4] ∧ t.alm.mode = s.alm.mode)) ∧
  (∀ s, s.pwr.auxGood = true → (s.mode = .aux ∨ s.mode = .load ∨ s.mode = .train) → s.pwr.step ≠ .none → s.pwr.offPending = .none →
    Completes .offReqAssert s (fun t => t = { s with pwr.offReq := true, pwr.offPending := .byPin })) ∧
  (∀ s, s.pwr.auxGood = true → s.mode = .halt → s.pwr.pwrEn = true → Completes .offReqAssert s (fun t =>
    t = { s with pwr.offReq := true, pwr.pwrEn := false, pwr.pwrEnFell := some s.now, pwr.pgDeadline := none })) ∧
  (∀ s, s.pwr.auxGood = true → (s.mode = .takeover ∨ s.mode = .swap) → s.alm.drainPending = false →
    Completes .offReqAssert s (fun t => t = { s with pwr.offReq := true, alm.drainPending := true, alm.drainByGo := false })) ∧
  (∀ s, Completes .offReqDeassert s (fun t => t = { s with
    pwr.offReq := false,
    pwr.holdCause := if s.pwr.offReq = true ∧ (s.pwr.holdCause = 1 ∨ s.pwr.holdCause = 3) then 0 else s.pwr.holdCause })) ∧
  (∀ p s, s.quiet → accessServed (plainAcc p Reg.pwrCtl 8 (some (keepSet Reg.pwrCtl 1#64 s))) s → s.mode = .train →
    s.pwr.step ≠ .none → s.pwr.offPending = .none →
    Completes (.offGo p) s (fun t => t.pwr.offPending = .byGo ∧ t.rb Reg.pwrCtl 0 = true ∧ t.mode = .train)) ∧
  (∀ s, s.pwr.offPending ≠ .none → s.pwr.step = .none → s.mode = .aux → Completes .powerUpReversal s (fun t =>
    t.pwr.pwrEn = false ∧ t.pwr.offPending = .none ∧ t.rb Reg.pwrCtl 0 = false ∧
      t.pwr.holdCause = (if s.pwr.offPending = .byGo then 1 else s.pwr.holdCause) ∧ t.mode = .aux)) ∧
  (∀ s, s.pwr.offPending ≠ .none → s.pwr.step = .none → (s.mode = .load ∨ s.mode = .train) → Completes .powerUpReversal s (fun t =>
    t.pwr.pwrEn = false ∧ t.pwr.offPending = .none ∧ t.mode = .aux ∧ t.rf Reg.resetCause 7 0 = 5 ∧
      t.pwr.holdCause = (if s.pwr.offPending = .byGo then 1 else s.pwr.holdCause)))

/-- R422, R504: the ends of DRAIN and of OFF. -/
def Obligations.DrainAndOff : Prop :=
  (∀ s, s.mode = .drain → drainDone s = true → Completes .drainEnd s (fun t =>
    t.mode = .off ∧ t.pwr.pwrEn = false ∧ t.rf Reg.resetCause 7 0 = 4 ∧ t.now = s.now ∧
      t.pwr.holdCause = (if s.alm.drainByGo then 1 else s.pwr.holdCause) ∧ t.alm.keys = s.alm.keys)) ∧
  (∀ s, s.mode = .drain → drainDone s = false → s.pwr.pwrEn = true → s.pair.moveSet = none → Completes .drainEnd s (fun t =>
    t.mode = .off ∧ t.pwr.pwrEn = false ∧ t.now = max s.now (s.alm.entry + 250000000))) ∧
  (∀ s, s.mode = .off → s.pwr.auxGood = true → Completes .offExit s (fun t =>
    t.mode = .aux ∧ t.alm.prev = .off ∧ t.alm.entry = t.now ∧ s.now ≤ t.now ∧ t.regs = s.regs ∧ t.pwr = s.pwr))

/-- R423, R424, R429, R430: the steps of LOAD: the two images in their order, the fallback, and the failure of LOAD. -/
def Obligations.LoadSteps : Prop :=
  (∀ answers img b s, s.mode = .load → s.alm.load = .reading b false → Completes (.imageReadComplete answers img) s (fun t =>
    let r := readChecks s.alm.keys answers img
    let e := r.getD (0, 0)
    (r = none → t = { s with alm.image := img, alm.load := .checking b false }) ∧
      (r ≠ none → t.alm.load = .reading (!b) true ∧ t.mode = .load ∧
        (if b then t.rf Reg.almStatus 35 32 else t.rf Reg.almStatus 27 24) = e.1 % 16 ∧
        (if b then t.rf Reg.almStatus 55 48 else t.rf Reg.almStatus 47 40) = e.2 % 256))) ∧
  (∀ answers img b s, s.mode = .load → s.alm.load = .reading b true → Completes (.imageReadComplete answers img) s (fun t =>
    let r := readChecks s.alm.keys answers img
    (r = none → t = { s with alm.image := img, alm.load := .checking b true }) ∧
      (r ≠ none → t.mode = .aux ∧ t.pwr.holdCause = 2 ∧ t.pwr.pwrEn = false ∧ t.rf Reg.almStatus 17 16 = 1 ∧
        t.rb Reg.almStatus 0 = false ∧ t.pwr.offPending = .none))) ∧
  (∀ b s, s.mode = .load → s.alm.load = .checking b false → Completes .imageCheckComplete s (fun t =>
    let r := loadChecks s s.alm.image
    let e := r.getD (0, 0)
    (r = none → t.alm.load = .building b ∧ t.rb Reg.almStatus 0 = true ∧ t.rb Reg.almStatus 1 = b ∧ t.ras = s.ras ∧ t.mode = .load) ∧
      (r ≠ none → t.alm.load = .reading (!b) true ∧ t.mode = .load ∧
        (if b then t.rf Reg.almStatus 35 32 else t.rf Reg.almStatus 27 24) = e.1 % 16))) ∧
  (∀ s, s.mode = .load → Completes (.hbmTrainingComplete true) s (fun t => t = { s with alm.hbmTrained := true })) ∧
  (∀ s, s.mode = .load → Completes (.hbmTrainingComplete false) s (fun t => t.mode = .aux ∧ t.pwr.holdCause = 2 ∧
    t.rf Reg.almStatus 17 16 = 2 ∧ t.pwr.pwrEn = false)) ∧
  (∀ b s, s.mode = .load → s.alm.load = .building b → s.alm.hbmTrained = true → s.pwr.offPending = .none →
    (laidOver s.alm.image noTables).patch = [] → Completes .loadComplete s (fun t =>
      t.mode = .train ∧ t.alm.load = .idle ∧ t.tick.running = true ∧ t.tick.num = 1 ∧ t.tick.published = 0 ∧ t.home.mem = [] ∧
        t.tabs = laidOver s.alm.image noTables ∧ t.pwr.step = .u4)) ∧
  (∀ s, s.mode = .train → portsSettled s = true → s.pwr.offPending = .none → Completes .trainEnd s (fun t =>
    t.mode = (if s.alm.degCauses ≠ 0#4 then .degraded
      else if s.pair.present = true ∧ s.pair.state = .formed then .paired else .solo) ∧
      t.now = s.now ∧ t.alm.entry = s.now ∧ t.pwr.step = .none)) ∧
  (∀ s, s.mode = .train → portsSettled s = false → s.pwr.offPending = .none → Completes .trainEnd s (fun t =>
    t.now = max s.now (s.alm.entry + 1300000000) ∧ t.mode.serves = true ∧ t.alm.entry = t.now))

/-- R431, R434, R436, R437, R439: shadow sets, handovers and the request of an exchange, written in a mode that takes them. -/
def Obligations.ShadowSets : Prop :=
  (∀ p s, writeServed p Reg.shadowCtl (keepSet Reg.shadowCtl 1#64 s) s → s.mode.steady = true → s.rf Reg.shadowStatus 2 0 = 0 →
    Completes (.shadowOpen p) s (fun t => t.rf Reg.shadowStatus 2 0 = 1 ∧ t.rd Reg.shadowPtr = 0#64 ∧ t.alm = s.alm)) ∧
  (∀ p data s, writeServed p Reg.shadowData data s → s.rf Reg.shadowStatus 2 0 = 1 →
    (s.rd Reg.shadowPtr).toNat < s.rf Reg.shadowStatus 31 16 * 2 ^ 20 → (s.rd Reg.shadowPtr).toNat < 2 ^ 26 - 8 →
    Completes (.shadowDataWrite p data) s (fun t =>
      tgetD t.alm.shadowBuf ((s.rd Reg.shadowPtr).toNat / 8) 0#64 = data ∧
        (∀ i, i ≠ (s.rd Reg.shadowPtr).toNat / 8 → tgetD t.alm.shadowBuf i 0#64 = tgetD s.alm.shadowBuf i 0#64) ∧
        (t.rd Reg.shadowPtr).toNat = 8 * ((s.rd Reg.shadowPtr).toNat / 8 + 1))) ∧
  (∀ p s, writeServed p Reg.shadowCtl (keepSet Reg.shadowCtl 2#64 s) s → s.mode.steady = true → s.rf Reg.shadowStatus 2 0 = 1 →
    Completes (.shadowGo p) s (fun t => t.rf Reg.shadowStatus 2 0 = 2 ∧ t.alm = s.alm)) ∧
  (∀ p s, writeServed p Reg.shadowCtl (keepSet Reg.shadowCtl 4#64 s) s → s.rf Reg.shadowStatus 2 0 = 3 →
    Completes (.shadowAbandon p) s (fun t => t.rf Reg.shadowStatus 2 0 = 0 ∧ t.alm.armed = none)) ∧
  (∀ s, s.mode.carries = true → s.rf Reg.shadowStatus 2 0 = 2 → s.rb Reg.shadowCtl 2 = false →
    Completes .shadowCheckComplete s (fun t =>
      let r := shadowChecks s s.alm.shadowBuf
      let e := r.getD (0, 0)
      t.tabs = s.tabs ∧ (r = none → t.rf Reg.shadowStatus 2 0 = 3 ∧ t.alm.armed = some s.alm.shadowBuf) ∧
        (r ≠ none → t.rf Reg.shadowStatus 2 0 = 4 ∧ t.rf Reg.shadowStatus 11 8 = e.1 % 16 ∧
          t.rf Reg.shadowStatus 7 4 = e.2 % 16 ∧ t.alm.armed = none ∧ t.rb Reg.almEvents 2 = true))) ∧
  (∀ p data s, writeServed p Reg.splitReq (setBit data 63) s → s.mode.steady = true → 1 ≤ fld data 3 0 → fld data 3 0 ≤ 10 →
    s.assist (fld data 3 0) ≠ bitAt data 8 → s.alm.splitPending = none →
    Completes (.handoverRequest p data) s (fun t => t.alm.splitPending = some (fld data 3 0, bitAt data 8) ∧
      t.rb Reg.splitStatus 16 = true ∧ t.rb Reg.splitReq 63 = true)) ∧
  (∀ p data s, writeServed p Reg.splitReq (setBit data 63) s → (fld data 3 0 = 0 ∨ 10 < fld data 3 0) → s.alm.splitPending = none →
    Completes (.handoverRequest p data) s (fun t => t.alm.splitPending = none ∧ t.rf Reg.splitStatus 25 24 = 2 ∧
      t.rb Reg.almEvents 7 = true ∧ t.rb Reg.splitReq 63 = false)) ∧
  (∀ p s, writeServed p Reg.swapCtl (keepSet Reg.swapCtl 1#64 s) s → s.mode.steady = true → s.rf Reg.shadowStatus 2 0 = 1 →
    Completes (.swapRequest p) s (fun t => t.alm.swap = .checking ∧ t.rf Reg.swapStatus 2 0 = 1 ∧ t.rf Reg.shadowStatus 2 0 = 5 ∧
      t.mode = s.mode))

/-- R439, R440, R441: the steps of an exchange and of the steward gap. -/
def Obligations.SwapSteps : Prop :=
  (∀ s, s.mode.steady = true → s.alm.swap = .checking → Completes .swapCheckComplete s (fun t =>
    let r := swapChecks s s.alm.shadowBuf
    let e := r.getD (0, 0)
    (r = none → t.mode = .swap ∧ t.alm.swap = .library ∧ t.alm.entry = s.now ∧
      t.alm.swapFw = hasPart 0x10 s.alm.shadowBuf ∧ t.alm.swapLib = hasPart 0x08 s.alm.shadowBuf) ∧
      (r ≠ none → t.mode = s.mode ∧ t.alm.swap = .idle ∧ t.rf Reg.swapStatus 2 0 = 5 ∧ t.rf Reg.swapStatus 11 8 = e.1 % 16 ∧
        t.rf Reg.swapStatus 15 12 = e.2 % 16 ∧ t.rf Reg.shadowStatus 2 0 = 0))) ∧
  (∀ s, s.mode.carries = true → s.alm.swap = .library → s.alm.swapLib = true → s.alm.swapFw = true →
    Completes .swapLibraryCopied s (fun t => t.alm.swap = .library ∧ t.alm.swapLib = false ∧ t.mode = s.mode)) ∧
  (∀ s, s.mode.carries = true → s.alm.swap = .library → s.alm.swapLib = false → s.alm.swapFw = true → s.ras.locks = [] →
    s.ras.waiting = [] →
    Completes .stewardGapStart s (fun t => t.alm.swap = .gap s.now false ∧ t.rf Reg.swapStatus 2 0 = 3 ∧
      t.alm.prevFw = s.alm.runFw ∧ t.mode = s.mode)) ∧
  (∀ start s, s.mode.carries = true → s.alm.swap = .gap start false → Completes .stewardGapTimeout s (fun t =>
    t.alm.swap = .gap start true ∧ t.now = max s.now (start + 5000000) ∧ t.rf Reg.swapStatus 2 0 = 6 ∧
      t.rb Reg.almEvents 5 = true ∧ t.mode = s.mode)) ∧
  (∀ start rev s, s.mode = .swap → s.alm.swap = .gap start rev → s.alm.held = [] → s.gapHeld = [] → s.alm.drainPending = false →
    Completes .stewardFirmwareReady s (fun t => t.alm.swap = .idle ∧ t.alm.runFw = (if rev then s.alm.prevFw else s.alm.newFw) ∧
      t.rd Reg.pendEdges = 0#64 ∧ t.mode = (if s.alm.degCauses ≠ 0#4 then .degraded
        else if s.pair.present = true ∧ s.pair.state = .formed then .paired else .solo) ∧
      t.rf Reg.shadowStatus 2 0 = 0)) ∧
  (∀ start s, s.mode = .swap → s.alm.swap = .gap start true → s.alm.held = [] → s.gapHeld = [] →
    Completes .stewardRevertTimeout s (fun t => t.mode = .halt ∧ t.alm.swap = .idle ∧ t.now = max s.now (start + 10000000) ∧
      t.pwr.haltOutN = false))

/-! ## Clocks, counters, temperature, the test port (12, 17, 18, 19) -/

/-- R393, R395, R398, R404, R406, R408, R411, R413: D0's own work: syncs, instants, domains, the auxiliary clock, GPIO edges. -/
def Obligations.ClockSteps : Prop :=
  (∀ lags s, s.pwr.auxGood = true → Completes (.dtbSync lags) s (fun t =>
    t.now = (s.now + 999) / 1000 * 1000 ∧ t.clk.pulses = [] ∧
      (∀ d ∈ (List.range 17).map (· + 1), s.clk.running.getLsbD d = true →
        ((tget s.clk.followers d).map (·.loaded)).getD false = false →
        tget t.clk.followers d = some { loaded := true, lag16 := 32, since := t.now, rate := .nominal }))) ∧
  (∀ u s, s.pwr.auxGood = true → Completes (.instantRequest u) s (fun t => t = { s with clk.instants := s.clk.instants ++
    [{ at_ := s.now + 20, use := u, begun := false,
       left := ((List.range 17).map (· + 1)).filter (fun d => s.clk.running.getLsbD d) }] })) ∧
  (∀ d i rest s, s.clk.instants = i :: rest → i.left.contains d = true → i.left.filter (· ≠ d) ≠ [] → i.begun = false →
    Completes (.sharedInstant d []) s (fun t =>
      t.now = max s.now i.at_ ∧ t.clk.instants = { i with left := i.left.filter (· ≠ d), begun := true } :: rest ∧
        t.cnt.frozen = (match i.use with | .freeze on => on | _ => s.cnt.frozen) ∧
        t.cnt.live = (match i.use with | .clear => [] | _ => s.cnt.live))) ∧
  (∀ d s, s.pwr.auxGood = true → d < 18 → s.clk.locked.getLsbD d = true → s.clk.running.getLsbD d = false → s.mode.carries = true →
    Completes (.domainResetRelease d) s (fun t => t.clk.running.getLsbD d = true ∧
      ((tget t.clk.followers d).map (·.loaded)) = some false ∧
      { t with clk.running := s.clk.running, clk.followers := s.clk.followers } = s)) ∧
  (∀ s, s.pwr.auxGood = true → s.clk.auxOsc = false → Completes .auxRefclkLoss s (fun t =>
    t.clk.auxOsc = true ∧ t.clk.locked.getLsbD 0 = false ∧ t.rb Reg.clkEvents 0 = true ∧ t.now = s.now ∧ t.mode = s.mode)) ∧
  (∀ s, s.pwr.auxGood = true → Completes .auxRefclkReturn s (fun t =>
    t = { s with clk.auxOsc := false, clk.locked := s.clk.locked ||| 1#18 })) ∧
  (∀ n s, s.pwr.auxGood = true → n < 16 → Completes (.gpioEdge n) s (fun t =>
    t.rd Reg.pendEdges = s.rd Reg.pendEdges ||| (1#64 <<< n) ∧ (∀ o, o ≠ Reg.pendEdges → t.rd o = s.rd o) ∧
      { t with regs := s.regs } = s))

/-- R412: the loss of a core PLL halts the device; a chiplet's PLL holds its domain until the PLL is locked again. -/
def Obligations.PllFaults : Prop :=
  (∀ die s, die ≤ 1 → s.mode.carries = true → Completes (.corePllLockLoss die) s (fun t =>
    t.mode = .halt ∧ t.pwr.haltOutN = false ∧ t.rb Reg.clkEvents 1 = true ∧ t.clk.locked &&& coreDomains die = 0#18 ∧
      ∃ r ∈ t.ras.inbox, r.cls = 0x80 ∧ r.sev = .fatalDevice ∧ r.unit = .domain ∧ r.inst = 3 + die)) ∧
  (∀ n s, n < 8 → s.mode.carries = true → s.clk.locked.getLsbD (6 + n) = true → (∀ p ∈ s.portList, p / 64 ≠ n) →
    Completes (.chipletPllLockLoss n) s (fun t =>
      t.mode = s.mode ∧ t.clk.locked.getLsbD (6 + n) = false ∧ t.clk.running.getLsbD (6 + n) = false ∧
        t.rb Reg.clkEvents 2 = true ∧
        ∃ r ∈ t.ras.inbox, r.cls = 0x80 ∧ r.sev = .contained ∧ r.unit = .domain ∧ r.inst = 6 + n)) ∧
  (∀ n s, n < 8 → s.mode.trains = true → s.pwr.auxGood = true → s.clk.locked.getLsbD (6 + n) = false →
    s.clk.running.getLsbD (6 + n) = false → Completes (.chipletPllRelock n) s (fun t =>
      t.clk.locked.getLsbD (6 + n) = true ∧ t.clk.running.getLsbD (6 + n) = true ∧ t.mode = s.mode))

/-- R535, R537, R538, R541: freeze, clear, snapshots, and the counter page that a host reads. -/
def Obligations.CounterSteps : Prop :=
  (∀ p on s, writeServed p Reg.countCtl ((s.rd Reg.countCtl &&& ~~~5#64) ||| (if on then 1#64 else 0#64)) s →
    s.rb Reg.countCtl 0 ≠ on → s.rb Reg.countCtl 2 = false → Completes (.countFreeze p on) s (fun t =>
      t.rb Reg.countCtl 0 = on ∧ t.clk.instants = s.clk.instants ++ [{
        at_ := s.now + 20, use := .freeze on, begun := false,
        left := ((List.range 17).map (· + 1)).filter (fun d => s.clk.running.getLsbD d) }] ∧ t.cnt = s.cnt)) ∧
  (∀ p s, writeServed p Reg.countCtl (keepSet Reg.countCtl 4#64 s) s → s.rb Reg.countCtl 2 = false →
    Completes (.countClear p) s (fun t => t.rb Reg.countCtl 2 = true ∧ t.cnt = { s.cnt with clearing := true } ∧
      t.clk.instants.map (·.use) = s.clk.instants.map (·.use) ++ [.clear])) ∧
  (∀ b n d f s, s.cnt.back = some (b, n, d, f) → Completes .snapshotBankReady s (fun t =>
    t = { s with cnt.front := b, cnt.back := none, cnt.snapTick := n, cnt.snapDtb := d, cnt.snapFrozen := f })) ∧
  (∀ port r s, s.role port = 1 → s.linkIsUp port = true → s.mode.carries = true → ideOk s port = true → s.cnt.frozen = true →
    r.data = none → r.dws = 2 → r.off % 8 = 0 → r.off < 4096 → s.tabs.counterAccess.getLsbD (portHost s port) = true →
    Completes (.counterPageRead port r) s (fun t =>
      t = s.emit (.barCpl port (some (counterPage s (portHost s port) r.off))))) ∧
  (∀ port r s, s.role port = 1 → s.linkIsUp port = true → s.mode.carries = true → ideOk s port = true → s.cnt.frozen = true →
    r.data = none → s.tabs.counterAccess.getLsbD (portHost s port) = false → Completes (.counterPageRead port r) s (fun t =>
      t.out = s.out ++ [.barCpl port none] ∧ t.cnt = s.cnt))

/-- R572-R575, R577: a sample is kept and published; the level of a stack and a trip follow from two samples in a row. -/
def Obligations.ThermalSamples : Prop :=
  (∀ id v s, s.mode.carries = true → 1 ≤ id → id ≤ 14 → tget s.therm.sensors id = none →
    Completes (.thermalSample [(id, some v)]) s (fun t =>
      t = { s with therm.sensors := tset s.therm.sensors id { prev := some v, bad := 0, failed := false } }.emit (.pldm id v))) ∧
  (∀ id a v x s, s.mode.carries = true → 3 ≤ id → id ≤ 6 → tget s.therm.sensors id = some x → x.prev = some a → 400 ≤ a → 400 ≤ v →
    Completes (.thermalSample [(id, some v)]) s (fun t => tgetD t.therm.levels (id - 3) 0 =
      (if tgetD s.therm.levels (id - 3) 0 < 2 then 2 else tgetD s.therm.levels (id - 3) 0))) ∧
  (∀ id a v x s, s.mode.carries = true → (id = 1 ∨ id = 2) → tget s.therm.sensors id = some x → x.prev = some a → 400 ≤ a → 400 ≤ v →
    Completes (.thermalSample [(id, some v)]) s (fun t => (if id = 1 then t.therm.pacedWest else t.therm.pacedEast) = true)) ∧
  (∀ id a v x s, s.mode.carries = true → 7 ≤ id → id ≤ 14 → tget s.therm.sensors id = some x → x.prev = some a → 440 ≤ a → 440 ≤ v →
    Completes (.thermalSample [(id, some v)]) s (fun t =>
      t.ras.inbox.map (fun r => (r.cls, r.sev, r.inst)) =
        s.ras.inbox.map (fun r => (r.cls, r.sev, r.inst)) ++ [(0xE1, .fatalDevice, id - 1)]))

/-- R421, R551, R559: the instructions of the test port, the entry to TEST and its end, and a run of the built-in tests. -/
def Obligations.TestPort : Prop :=
  (∀ s, s.pwr.auxGood = true → s.mode ≠ .off → Completes .idcode s (fun t =>
    t = { s with jtag.ir := 1 }.emit (.jtagCapture 0x15120B77))) ∧
  (∀ s, s.pwr.auxGood = true → s.mode ≠ .off → Completes .bypass s (fun t => t = { s with jtag.ir := 0xFF }.emit (.jtagCapture 0))) ∧
  (∀ s, s.pwr.auxGood = true → s.mode ≠ .off → Completes .samplePreload s (fun t => t.jtag.ir = 2 ∧
    t.out = s.out ++ [.jtagCapture t.jtag.scan] ∧ { t with out := s.out, jtag := s.jtag, fresh := s.fresh } = s)) ∧
  (∀ scan s, s.pwr.auxGood = true → s.mode = .test → Completes (.extest scan) s (fun t =>
    t = { s with jtag.ir := 0, jtag.scan := scan }.emit (.jtagCapture scan))) ∧
  (∀ scan s, s.pwr.auxGood = true → s.mode ≠ .test → s.mode ≠ .off → Completes (.extest scan) s (fun t =>
    t = { s with jtag.ir := 0xFF }.emit (.jtagCapture 0))) ∧
  (∀ s, s.pwr.auxGood = true → s.mode = .test → Completes .clamp s (fun t => t = { s with jtag.ir := 3 }.emit (.jtagCapture 0))) ∧
  (∀ s, s.pwr.auxGood = true → s.mode = .test → Completes .highz s (fun t => t = { s with jtag.ir := 4 }.emit (.jtagCapture 0))) ∧
  (∀ s, s.pwr.auxGood = true → s.mode = .aux → Completes .testEnter s (fun t =>
    t.mode = .test ∧ t.jtag.ir = 0x40 ∧ t.clk.running.getLsbD 1 = true ∧ t.now = s.now ∧
      (∀ o d, regAt o = some d → d.aon = false → t.rd o = resetValue o))) ∧
  (∀ s, s.pwr.auxGood = true → s.mode ≠ .aux → s.mode ≠ .off → Completes .testEnter s (fun t =>
    t = { s with jtag.ir := 0x40 }.emit (.jtagCapture 0))) ∧
  (∀ s, s.pwr.auxGood = true → s.mode = .test → Completes .testExit s (fun t =>
    t.mode = .aux ∧ t.jtag.ir = 0x41 ∧ t.rf Reg.resetCause 7 0 = 7 ∧ t.jtag.bistBusy = none ∧ t.now = s.now)) ∧
  (∀ sel s, s.mode = .test → s.jtag.bistBusy = none → sel < 64 → Completes (.bistGo sel) s (fun t =>
    t.jtag.bistBusy = some sel ∧ t.rb Reg.bistStatus 16 = true ∧ t.rb Reg.testCtl 8 = true ∧ t.rf Reg.testCtl 5 0 = sel ∧
      t.rf Reg.bistStatus 5 0 &&& sel = 0 ∧ t.rf Reg.bistStatus 13 8 &&& sel = 0)) ∧
  (∀ pass sel s, s.jtag.bistBusy = some sel → sel < 64 → Completes (.bistComplete pass) s (fun t =>
    t.jtag.bistBusy = none ∧ t.rb Reg.bistStatus 16 = false ∧ t.rb Reg.testCtl 8 = false ∧
      t.rf Reg.bistStatus 5 0 &&& sel = pass &&& sel ∧ t.rf Reg.bistStatus 13 8 &&& sel = sel - (pass &&& sel)))

/-- R426, R560: a key slot is programmed once, with a digest that is not 0, and may be revoked for good. -/
def Obligations.KeySlots : Prop :=
  (∀ slot k s, s.mode = .test → s.jtag.keyBusy = none → slot < 4 → s.alm.keys[slot]? = some k → k.digest = none → k.revoked = false →
    keyDigestOf s ≠ 0#384 → Completes (.keyProgram slot) s (fun t =>
      t.jtag.keyBusy = some (slot, some (keyDigestOf s)) ∧ t.rb Reg.keyProgStatus 0 = true ∧ t.alm.keys = s.alm.keys)) ∧
  (∀ slot k s, s.mode = .test → s.jtag.keyBusy = none → slot < 4 → s.alm.keys[slot]? = some k → (k.digest ≠ none ∨ k.revoked = true) →
    Completes (.keyProgram slot) s (fun t => t.jtag.keyBusy = none ∧ t.rf Reg.keyProgStatus 9 8 = 2 ∧ t.alm.keys = s.alm.keys)) ∧
  (∀ slot s, s.mode = .test → s.jtag.keyBusy = none → slot < 4 → Completes (.keyRevoke slot) s (fun t =>
    t.jtag.keyBusy = some (slot, none) ∧ t.rb Reg.keyProgStatus 0 = true ∧ t.alm.keys = s.alm.keys)) ∧
  (∀ slot d k s, s.jtag.keyBusy = some (slot, d) → s.alm.keys[slot]? = some k → Completes .keyProgramComplete s (fun t =>
    t.jtag.keyBusy = none ∧ t.rf Reg.keyProgStatus 9 8 = 1 ∧ t.rb Reg.keyProgStatus 0 = false ∧
      t.alm.keys[slot]? = some (match d with | some x => { k with digest := some x } | none => { k with revoked := true }) ∧
      (∀ i < 4, i ≠ slot → t.alm.keys[i]? = s.alm.keys[i]?)))

/-! ## Link ports (02) -/

/-- R52, R53, R62, R63: a port's attempts, its enabling and disabling, a retrain. -/
def Obligations.LinkTraining : Prop :=
  (∀ p l s, s.link? p = some l → l.attempting = false → l.waitUntil = none → s.linkIsUp p = false → mayTrain s p = true →
    Completes (.trainAttemptStart p) s (fun t =>
      t.link? p = some { l with
          attempting := true, attemptAt := s.now, maxRate := rateLimit s p, ideDrop := false, bypassEn := s.rb (Reg.eqCtl p) 8,
          eqDone := none, bypassed := false } ∧
        t.rf (Reg.linkStatus p) 3 0 = 1 ∧ t.rb (Reg.portCtl p) 1 = false ∧ (∀ q, q ≠ p → t.link? q = s.link? q))) ∧
  (∀ p l s, s.link? p = some l → l.attempting = true → l.trainOffUntil = none → s.linkIsUp p = false →
    Completes (.trainAttemptTimeout p) s (fun t =>
    t.now = max s.now (l.attemptAt + 400000000) ∧
      t.link? p = some { l with
        attempting := false, fails := l.fails + 1, eqUntil := none,
        waitUntil := some (if l.fails + 1 < 3 then t.now + 10000000 else max t.now (l.attemptAt + 1000000000)) } ∧
      t.rf (Reg.linkStatus p) 3 0 = 9 ∧ t.rb (Reg.linkEvents p) 3 = (s.rb (Reg.linkEvents p) 3 || decide (l.fails = 2)))) ∧
  (∀ p l d s, s.link? p = some l → l.waitUntil = some d → s.linkIsUp p = false → mayTrain s p = true →
    Completes (.trainRetryTimer p) s (fun t =>
      t.now = max s.now d ∧ t.rf (Reg.linkStatus p) 3 0 = 1 ∧ t.link? p = some { l with
        attempting := true, attemptAt := t.now, waitUntil := none, maxRate := rateLimit s p, ideDrop := false, bypassEn := s.rb (Reg.eqCtl p) 8,
          eqDone := none, bypassed := false })) ∧
  (∀ p l d s, s.link? p = some l → l.trainOffUntil = some d → Completes (.disableDuringTrainingTimeout p) s (fun t =>
    t.now = max s.now d ∧ t.rf (Reg.linkStatus p) 3 0 = 0 ∧
      t.link? p = some { l with trainOffUntil := none, attempting := false, waitUntil := none, eqUntil := none })) ∧
  (∀ a p l s, p < 512 → s.link? p = some l → writeServed a (Reg.portCtl p) (keepSet (Reg.portCtl p) 1#64 s) s →
    s.noRelease → s.portEnabled p = false → Completes (.portEnable a p) s (fun t =>
      t.portEnabled p = true ∧ t.link? p = some { l with trainOffUntil := none })) ∧
  (∀ a p l s, p < 512 → s.link? p = some l → writeServed a (Reg.portCtl p) (s.rd (Reg.portCtl p) &&& ~~~3#64) s →
    s.noRelease → s.portEnabled p = true → s.linkIsUp p = true → Completes (.portDisable a p) s (fun t =>
      t.portEnabled p = false ∧ t.link? p = some { l with fails := 0, drainUntil := some (s.now + 1000000) } ∧ t.linkIsUp p = true)) ∧
  (∀ a p l s, p < 512 → s.link? p = some l → writeServed a (Reg.portCtl p) (s.rd (Reg.portCtl p) &&& ~~~3#64) s →
    s.noRelease → s.portEnabled p = true → s.linkIsUp p = false → l.attempting = true → Completes (.portDisable a p) s (fun t =>
      t.portEnabled p = false ∧ t.link? p = some { l with fails := 0, trainOffUntil := some (s.now + 50000000) })) ∧
  (∀ a p l s, p < 512 → s.link? p = some l → writeServed a (Reg.portCtl p) (keepSet (Reg.portCtl p) 2#64 s) s →
    s.portEnabled p = true → s.linkIsUp p = true → l.attempting = false → mayTrain s p = true →
    Completes (.portRetrain a p) s (fun t =>
      t.rf (Reg.linkStatus p) 3 0 = 4 ∧ (t.link? p).map (·.attempting) = some true ∧ t.rb (Reg.portCtl p) 1 = false)) ∧
  (∀ a p l s, p < 512 → s.link? p = some l → writeServed a (Reg.portCtl p) (keepSet (Reg.portCtl p) 2#64 s) s →
    s.noRelease → s.portEnabled p = true → l.attempting = true →
    Completes (.portRetrain a p) s (fun t => t.rb (Reg.portCtl p) 1 = true ∧ t.links = s.links))

/-- R55-R58: the preset that hardware chooses, the measurement, the post of an assisted equalisation, its answer and its timeout. -/
def Obligations.Equalisation : Prop :=
  (∀ mask margins, mask % 2 ^ 11 ≠ 0 →
    let k := bestPreset mask margins
    k < 11 ∧ mask.testBit k = true ∧ ∀ j < 11, mask.testBit j = true →
      margins.getD j 0 ≤ margins.getD k 0 ∧ (j < k → margins.getD j 0 < margins.getD k 0)) ∧
  (∀ p rate margins lp l s, s.link? p = some l → l.attempting = true → l.eqUntil = none → eqReady l rate →
    s.assist 9 = false → s.rb (Reg.eqCtl p) 3 = false →
    (let ms := (List.range 11).map (fun i => margins.getD i 0 % 65536)
     minMargin rate ≤ ms.getD (bestPreset (presetMask s p rate) ms) 0) →
    Completes (.eqMeasureComplete p rate margins lp) s (fun t =>
      let ms := (List.range 11).map (fun i => margins.getD i 0 % 65536)
      let k := bestPreset (presetMask s p rate) ms
      t.rf (Reg.eqStatus p) 23 20 = k ∧ t.rf (Reg.eqStatus p) 47 32 = ms.getD k 0 ∧ t.rf (Reg.eqStatus p) 19 17 = rate ∧
        t.rb (Reg.eqStatus p) 16 = false ∧ t.rf (Reg.eqStatus p) 27 24 = lp % 16 ∧ t.rf (Reg.linkStatus p) 3 0 = 4)) ∧
  (∀ p rate margins lp l s, s.link? p = some l → l.attempting = true → l.eqUntil = none → eqReady l rate →
    s.assist 9 = true → Completes (.eqMeasureComplete p rate margins lp) s (fun t =>
      t.rb (Reg.eqReq p) 63 = true ∧ t.rf (Reg.eqReq p) 62 55 = (s.rf (Reg.eqReq p) 62 55 + 1) % 256 ∧
        t.rf (Reg.eqReq p) 54 52 = rate ∧ t.rf (Reg.eqReq p) 42 32 = presetMask s p rate ∧
        (t.link? p).bind (·.eqUntil) = some (s.now + 8000000) ∧ t.rb (Reg.linkEvents p) 12 = true ∧
        (t.link? p).map (·.eqHw) = some (hwPreset s p { l with
          eqRate := rate, eqMargins := (List.range 11).map (fun i => margins.getD i 0 % 65536) }) ∧
        t.rf (Reg.linkStatus p) 3 0 = 5)) ∧
  (∀ a p data l s, p < 512 → s.link? p = some l → writeServed a (Reg.eqResp p) data s → bitAt data 63 = true →
    l.eqUntil.isSome = true → l.trainOffUntil = none → s.noRelease → fld data 55 48 = s.rf (Reg.eqReq p) 62 55 → fld data 3 0 < 11 →
    (s.rf (Reg.eqReq p) 42 32).testBit (fld data 3 0) = true → minMargin l.eqRate ≤ l.eqMargins.getD (fld data 3 0) 0 →
    Completes (.eqResp a p data) s (fun t =>
      t.rf (Reg.eqStatus p) 23 20 = fld data 3 0 ∧ t.rb (Reg.eqStatus p) 16 = true ∧ t.rb (Reg.eqReq p) 63 = false ∧
        (t.link? p).bind (·.eqUntil) = none ∧ t.rf (Reg.linkStatus p) 3 0 = 4)) ∧
  (∀ a p data l s, p < 512 → s.link? p = some l → writeServed a (Reg.eqResp p) data s → bitAt data 63 = true → l.eqUntil = none → s.noRelease →
    Completes (.eqResp a p data) s (fun t => t.rb (Reg.linkEvents p) 11 = true ∧ t.links = s.links ∧
      t.rd (Reg.eqStatus p) = s.rd (Reg.eqStatus p))) ∧
  (∀ p d l s, s.link? p = some l → l.eqUntil = some d → Completes (.eqAnswerTimeout p) s (fun t =>
    t.now = max s.now d ∧ (t.link? p).bind (·.eqUntil) = none ∧ t.rb (Reg.eqReq p) 63 = false ∧
      t.rb (Reg.linkEvents p) 10 = true ∧ t.rf (Reg.eqStatus p) 23 20 = l.eqHw % 16))

/-- R52, R53, R61: a link of a FABRIC-DEVICE port comes up, falls below RATE_MIN, and goes down. -/
def Obligations.LinkUpAndDown : Prop :=
  (∀ p l r s, p < 512 → s.mode.carries = true → s.quiet → s.noRelease → s.link? p = some l → l.attempting = true →
    l.trainOffUntil = none → r.protoActive = true → mayTrain s p = true → s.rf (Reg.portCfg p) 20 18 ≤ r.rate →
    s.linkIsUp p = false → (s.role p = 2 ∨ s.role p = 4) → s.rb (Reg.portCtl p) 1 = false →
    Completes (.linkUp p r) s (fun t =>
      t.linkIsUp p = true ∧ t.rf (Reg.linkStatus p) 3 0 = 6 ∧ t.rb (Reg.linkEvents p) 1 = true ∧
        t.rf (Reg.linkStatus p) 15 13 = min r.rate (min (rateLimit s p) l.maxRate) ∧
        t.rf (Reg.linkStatus p) 12 10 = min r.width (s.rf (Reg.portCfg p) 10 8) ∧
        t.link? p = some { l with attempting := false, fails := 0, waitUntil := none, partner := r.partner, tag10 := r.tag10,
                                  bound := true, eqUntil := none, ideDrop := false, lost := false })) ∧
  (∀ p l r s, s.mode.carries = true → s.link? p = some l → l.attempting = true → l.trainOffUntil = none → r.protoActive = true →
    mayTrain s p = true → r.rate < s.rf (Reg.portCfg p) 20 18 → s.linkIsUp p = false → Completes (.linkUp p r) s (fun t =>
      t.linkIsUp p = false ∧ t.rf (Reg.linkStatus p) 3 0 = 9 ∧ (t.link? p).map (·.fails) = some (l.fails + 1))) ∧
  (∀ p l s, s.mode.carries = true → s.quiet → s.bridge.trks = [] → s.link? p = some l → s.linkIsUp p = true →
    (s.role p = 2 ∨ s.role p = 4) → mayTrain s p = true → Completes (.linkDown p) s (fun t =>
      t.linkIsUp p = false ∧ t.rf (Reg.linkStatus p) 15 10 = 0 ∧ t.rb (Reg.linkEvents p) 2 = true ∧
        t.rf (Reg.linkStatus p) 3 0 = 1 ∧ (t.link? p).map (fun l => (l.attempting, l.attemptAt, l.drainUntil)) = some (true, s.now, none) ∧
        tget t.bridge.egress p = none)) ∧
  (∀ p l d s, s.mode.carries = true → s.quiet → s.bridge.trks = [] → s.link? p = some l → l.drainUntil = some d → s.linkIsUp p = true →
    s.role p = 2 → s.portEnabled p = false → tgetD s.bridge.egress p [] = [] → tget s.bridge.legs p = none →
    Completes (.portDisableDrainEnd p) s (fun t =>
      t.linkIsUp p = false ∧ t.rf (Reg.linkStatus p) 3 0 = 0 ∧ t.now = s.now ∧ (t.link? p).bind (·.drainUntil) = none ∧
        (t.link? p).map (·.attempting) = some false))

/-- R47, R48, R59, R60: what happens to a link in service: its keys, an integrity failure, a new width or rate. -/
def Obligations.LinkInService : Prop :=
  (∀ p m i sel sk act l s, s.link? p = some l → s.role p ≠ 3 → s.linkIsUp p = true → sel ≤ 4 →
    Completes (.ideKeyProgram p m i sel sk act) s (fun t =>
      t.rd (Reg.ideStatus p) = (mkFld 11 8 sel ||| mkFld 3 3 (b2n m) ||| mkFld 2 2 (b2n i) ||| mkFld 1 1 (b2n sk) ||| 1#64) ∧
        t.rb (Reg.linkStatus p) 23 = act ∧ t.links = s.links)) ∧
  (∀ p l s, s.mode.carries = true → s.quiet → s.bridge.trks = [] → s.link? p = some l → s.linkIsUp p = true → s.role p = 2 →
    s.rb (Reg.ideStatus p) 0 = true → s.portEnabled p = false → Completes (.ideIntegrityFail p) s (fun t =>
      t.linkIsUp p = false ∧ t.rb (Reg.linkEvents p) 8 = true ∧ t.rb (Reg.linkEvents p) 2 = true ∧
        (t.link? p).map (·.ideDrop) = some true)) ∧
  (∀ p w lanes l0p s, s.mode.carries = true → s.linkIsUp p = true → w < s.rf (Reg.linkStatus p) 12 10 → lanes < 2 ^ 2 ^ s.rf (Reg.portCfg p) 10 8 →
    lanes < 65536 → s.rf (Reg.portCfg p) 20 18 ≤ s.rf (Reg.linkStatus p) 15 13 →
    Completes (.replayThreshold p (some (w, lanes, l0p))) s (fun t =>
      t.linkIsUp p = true ∧ t.rf (Reg.linkStatus p) 12 10 = w ∧ t.rf (Reg.linkStatus p) 47 32 = lanes ∧
        t.rf (Reg.linkStatus p) 15 13 = s.rf (Reg.linkStatus p) 15 13 ∧ t.rb (Reg.linkStatus p) 8 = l0p ∧
        t.rb (Reg.linkEvents p) 6 = true ∧ t.rb (Reg.linkEvents p) 4 = true ∧ t.rings.dirty = true)) ∧
  (∀ p s, s.mode.carries = true → s.linkIsUp p = true → s.rf (Reg.portCfg p) 20 18 < s.rf (Reg.linkStatus p) 15 13 →
    Completes (.replayThreshold p none) s (fun t =>
      t.linkIsUp p = true ∧ t.rf (Reg.linkStatus p) 15 13 = s.rf (Reg.linkStatus p) 15 13 - 1 ∧
        t.rf (Reg.linkStatus p) 12 10 = s.rf (Reg.linkStatus p) 12 10 ∧ t.rb (Reg.linkEvents p) 6 = true ∧
        t.rb (Reg.linkEvents p) 5 = true)) ∧
  (∀ p rate w lanes l0p s, s.mode.carries = true → s.linkIsUp p = true → s.rf (Reg.portCfg p) 20 18 ≤ rate →
    rate < s.rf (Reg.linkStatus p) 15 13 → w < s.rf (Reg.linkStatus p) 12 10 → Completes (.partnerDownshift p rate w lanes l0p) s (fun t =>
      t.linkIsUp p = true ∧ t.rf (Reg.linkStatus p) 15 13 = rate ∧ t.rf (Reg.linkStatus p) 12 10 = w ∧
        t.rb (Reg.linkEvents p) 4 = true ∧ t.rb (Reg.linkEvents p) 5 = true)) ∧
  (∀ p rate w lanes s, s.mode.carries = true → s.linkIsUp p = true → s.rf (Reg.portCfg p) 20 18 ≤ rate → rate ≤ rateLimit s p →
    w ≤ s.rf (Reg.portCfg p) 10 8 → Completes (.partnerRetrain p rate w lanes) s (fun t =>
      t.linkIsUp p = true ∧ t.rf (Reg.linkStatus p) 15 13 = rate ∧ t.rf (Reg.linkStatus p) 12 10 = w ∧ t.rings.dirty = true))

/-! ## Address translation and dynamic capacity (03) -/

/-- R78, R80-R84: a miss that waits starts its walk; a walk ends in an error, an installed slot or a fill request; the fill's answer
and its timeout. -/
def Obligations.WalksAndFills : Prop :=
  (∀ die win slot who s, (s.xl.walks.filter (fun w => w.die == die)).length < 256 →
    s.xl.queue.find? (fun q => q.1 == die) = some (die, win, slot, who) →
    s.xl.walks.any (fun w => w.die == die && w.win == win && w.slot == slot) = false → Completes (.translationWalkStart die) s (fun t =>
      (∃ w, t.xl.walks = s.xl.walks ++ [w] ∧ w.die = die ∧ w.win = win ∧ w.slot = slot ∧ who ∈ w.waiters ∧
        ∀ q ∈ s.xl.queue, q.1 = die → q.2.1 = win → q.2.2.1 = slot → q.2.2.2 ∈ w.waiters) ∧
      (∀ q ∈ t.xl.queue, q ∈ s.xl.queue ∧ ¬(q.1 = die ∧ q.2.1 = win ∧ q.2.2.1 = slot)) ∧ t.xl.cache = s.xl.cache)) ∧
  (∀ w e g r s, s.bridge.waiting = [] → s.xl.walks = [w] → w.waiters = [.eng e g] →
    readingJob s (.walk w.die w.win w.slot) = some r → Completes (.walkComplete w.die w.win w.slot .uncorrectable) s (fun t =>
      t.xl.walks = [] ∧ t.xl.cache = s.xl.cache ∧ t.rb Reg.xlateEvents 0 = true ∧
        t.xl.failed = s.xl.failed ++ [(.eng e g, .xlateInternal)] ∧ t.mill = s.mill)) ∧
  (∀ w ecc e g r s, s.bridge.waiting = [] → s.assist 1 = false → s.xl.walks = [w] → w.waiters = [.eng e g] → ecc ≠ .uncorrectable →
    readingJob s (.walk w.die w.win w.slot) = some r → Completes (.walkComplete w.die w.win w.slot ecc) s (fun t =>
      t.xl.walks = [] ∧ cacheHit t w.die w.win w.slot = true ∧ t.xl.failed = s.xl.failed ∧ t.xl.fills = s.xl.fills ∧
        t.rd Reg.xlateEvents = s.rd Reg.xlateEvents)) ∧
  (∀ w win ext ecc tag e g r s, s.bridge.waiting = [] → s.assist 1 = true → s.xl.walks = [w] → w.waiters = [.eng e g] →
    ecc ≠ .uncorrectable → readingJob s (.walk w.die w.win w.slot) = some r →
    freeFrom s.xl.fillTag ((s.xl.fills.filter (fun f => f.die == w.die)).map Fill.tag) = some tag →
    tget s.tabs.windows w.win = some win → tget s.tabs.extents (win.extFirst + w.slot) = some ext →
    Completes (.walkComplete w.die w.win w.slot ecc) s (fun t =>
      t.xl.walks = [] ∧ t.xl.cache = s.xl.cache ∧
        tgetD t.xl.fillPosts w.die [] = tgetD s.xl.fillPosts w.die [] ++
          [mkFld 63 63 1 ||| mkFld 62 59 ext.gen ||| mkFld 58 51 tag ||| mkFld 50 32 ext.pool ||| mkFld 31 20 w.win
            ||| mkFld 18 0 w.slot] ∧
        t.xl.fills = s.xl.fills ++ [{
            die := w.die, tag, win := w.win, slot := w.slot, gen := ext.gen, waiters := w.waiters,
            deadline := s.now + s.rf Reg.xlateCtl 15 8 * 10000 }])) ∧
  (∀ a die data f win ext e g s, die < 2 → writeServed a (Reg.fillResp die) data s → bitAt data 63 = true → bitAt data 62 = false →
    s.xl.fills = [f] → f.die = die → f.tag = fld data 55 48 → f.waiters = [.eng e g] →
    tget s.tabs.windows f.win = some win → tget s.tabs.extents (win.extFirst + f.slot) = some ext → ext.gen = fld data 59 56 →
    Completes (.fillRespWrite a die data) s (fun t =>
      t.xl.fills = [] ∧ cacheHit t die f.win f.slot = true ∧ t.xl.failed = s.xl.failed)) ∧
  (∀ a die data f win ext e g s, die < 2 → writeServed a (Reg.fillResp die) data s → bitAt data 63 = true → bitAt data 62 = true →
    s.xl.fills = [f] → f.die = die → f.tag = fld data 55 48 → f.waiters = [.eng e g] →
    tget s.tabs.windows f.win = some win → tget s.tabs.extents (win.extFirst + f.slot) = some ext → ext.gen = fld data 59 56 →
    Completes (.fillRespWrite a die data) s (fun t =>
      t.xl.fills = [] ∧ t.xl.cache = s.xl.cache ∧ t.xl.failed = s.xl.failed ++ [(.eng e g, .violation)])) ∧
  (∀ a die data f win ext s, die < 2 → writeServed a (Reg.fillResp die) data s → bitAt data 63 = true →
    s.xl.fills = [f] → f.die = die → f.tag = fld data 55 48 →
    tget s.tabs.windows f.win = some win → tget s.tabs.extents (win.extFirst + f.slot) = some ext → ext.gen ≠ fld data 59 56 →
    s.xl.walks.any (fun w => w.die == die && w.win == f.win && w.slot == f.slot) = false →
    (s.xl.walks.filter (fun w => w.die == die)).length < 256 → Completes (.fillRespWrite a die data) s (fun t =>
      t.xl.fills = [] ∧ t.xl.cache = s.xl.cache ∧ t.rb Reg.xlateEvents 3 = true ∧
        t.xl.walks = s.xl.walks ++ [{ die, win := f.win, slot := f.slot, waiters := f.waiters }])) ∧
  (∀ a die data s, die < 2 → writeServed a (Reg.fillResp die) data s → bitAt data 63 = true →
    s.xl.fills.any (fun f => f.die == die && f.tag == fld data 55 48) = false → Completes (.fillRespWrite a die data) s (fun t =>
      t.rb Reg.xlateEvents 2 = true ∧ t.xl = s.xl)) ∧
  (∀ f e g s, s.bridge.waiting = [] → s.xl.fills = [f] → f.waiters = [.eng e g] → Completes (.fillTimeout f.die f.tag) s (fun t =>
    t.now = max s.now f.deadline ∧ t.xl.fills = [] ∧ t.xl.cache = s.xl.cache ∧ t.rb Reg.xlateEvents 1 = true ∧
      t.xl.failed = s.xl.failed ++ [(.eng e g, .xlateTimeout)]))

/-- R90-R95: a generation drains, an extent is scrubbed, a migration's copy ends. -/
def Obligations.PoolChanges : Prop :=
  (∀ g s, s.mode.carries = true → genLive s g = false → Completes (.generationDrained g) s (fun t =>
    (∀ c ∈ t.xl.scrubs, g ∉ c.gens ∧ (c.gens = [] → c.running = true)) ∧
      t.xl.scrubs.map (·.ext) = s.xl.scrubs.map (·.ext) ∧
      (∀ m ∈ t.xl.migs, g ∉ m.2.gens ∧ (m.2.gens = [] → m.2.st ≠ 1)) ∧ t.tabs = s.tabs ∧ t.home = s.home)) ∧
  (∀ g s, genLive s g = true → Completes (.generationDrained g) s (fun t => t = s)) ∧
  (∀ x base s, s.mode.carries = true → s.xl.scrubs.any (fun c => c.ext == x && c.running) = true → extentHbm s x = some base →
    Completes (.extentScrubComplete x) s (fun t =>
      (∀ c ∈ t.home.mem, c ∈ s.home.mem ∧ ¬(base ≤ c.1 ∧ c.1 < base + 2 ^ 28)) ∧
        (∀ c ∈ s.home.mem, ¬(base ≤ c.1 ∧ c.1 < base + 2 ^ 28) → c ∈ t.home.mem) ∧
        (∀ l ∈ t.home.poisoned, l ∈ s.home.poisoned ∧ ¬(base ≤ 64 * l ∧ 64 * l < base + 2 ^ 28)) ∧
        t.xl.scrubs = s.xl.scrubs.filter (fun c => c.ext != x) ∧ t.tabs = s.tabs)) ∧
  (∀ n m e p lines s, s.mode.carries = true → tget s.xl.migs n = some m → m.st = 2 → tget s.tabs.extents m.ext = some e →
    extentHbm s e.pool = none → extentHbm s e.newPool = none → extentPort s e.newPool = some p → s.bridge.trks = [] →
    Completes (.migrationCopyDone n lines) s (fun t =>
      Msg.extentWrite p e.newPool (swapFor s e.newPool (((tget s.tabs.windows e.window).map Win.bswap).getD 0)
        (swapFor s e.pool (((tget s.tabs.windows e.window).map Win.bswap).getD 0) lines)) ∈ t.out ∧ tget t.xl.migs n = some { m with st := 3, lines := 2 ^ 22 } ∧
        t.rb Reg.xlateEvents 5 = true ∧ t.home = s.home ∧ t.tabs = s.tabs)) ∧
  (∀ n m e base k d poison s, s.mode.carries = true → tget s.xl.migs n = some m → m.st = 2 → tget s.tabs.extents m.ext = some e →
    extentHbm s e.pool = none → extentHbm s e.newPool = some base → base % 64 = 0 → k < 2 ^ 22 →
    s.bridge.trks = [] → Completes (.migrationCopyDone n [(k, d, poison)]) s (fun t =>
      readHbm t (base / 64 + k) = (if (backingFor s.tabs e.pool).map Backing.typ = some 1
        then swapLine (((tget s.tabs.windows e.window).map Win.bswap).getD 0) d else d) ∧ isPoisoned t (base / 64 + k) = poison ∧
        (tget t.xl.migs n).map Mig.st = some 3 ∧ t.rb Reg.xlateEvents 5 = true))

/-- R96-R99: dynamic capacity is added, refused by host software, released and timed out. -/
def Obligations.DynamicCapacity : Prop :=
  (∀ h region req n w xs s, s.mode.carries = true → dcWindow s h region = some (n, w) → dcExtents s w req = some xs → xs ≠ [] →
    let ks := ((List.range w.extCount).filter (slotAbsent s n w)).take xs.length
    ks.length = xs.length → Completes (.dcAddRequest h region req) s (fun t =>
      t = { s with xl.dcAdd := s.xl.dcAdd ++ [{ win := n, items := ks.zip xs }] })) ∧
  (∀ h region accepted n w s, s.mode.carries = true → dcWindow s h region = some (n, w) →
    Completes (.dcAddResponse h region accepted) s (fun t =>
      t.xl.dcOffer = s.xl.dcOffer.filter (fun o => o.1 != n) ∧
        (∀ o ∈ s.xl.dcOffer, o.1 = n → o.2 ∉ accepted → (n, o.2) ∈ t.xl.dcDrop) ∧
        (∀ o ∈ s.xl.dcDrop, o ∈ t.xl.dcDrop) ∧ t.xl.dcAdd = s.xl.dcAdd ∧ t.tabs = s.tabs)) ∧
  (∀ h region k n w s, s.mode.carries = true → dcWindow s h region = some (n, w) → dcPresent s n w k = true →
    s.xl.dcRel.any (fun r => r.win == n && r.slot == k) = false → Completes (.dcReleaseRequest h region [k]) s (fun t =>
      t.xl.dcRel = s.xl.dcRel ++
          [{ win := n, slot := k, deadline := s.now + s.rf Reg.xlateCtl 47 32 * 1000000, post := none, waits := false }] ∧
        t.xl.dcDrop = s.xl.dcDrop ∧ t.tabs = s.tabs)) ∧
  (∀ h region k n w s, s.mode.carries = true → s.quiet → s.home.waiting = [] → s.xl.dcRel.all (fun r => !r.waits) = true →
    dcWindow s h region = some (n, w) → dcPresent s n w k = true → Completes (.dcReleaseResponse h region [k]) s (fun t =>
      t.xl.dcDrop = s.xl.dcDrop ++ [(n, k)] ∧ t.xl.dcRel = s.xl.dcRel.filter (fun r => !(r.win == n && r.slot == k)) ∧
        t.tabs = s.tabs)) ∧
  (∀ r s, s.mode.carries = true → s.quiet → s.home.waiting = [] → s.xl.dcRel = [r] → r.post = none → r.waits = false →
    s.assist 2 = false → Completes (.dcReleaseTimeout r.win r.slot) s (fun t =>
      t.now = max s.now r.deadline ∧ t.rb Reg.xlateEvents 7 = true ∧ t.xl.dcRel = [] ∧ (r.win, r.slot) ∈ t.xl.dcDrop)) ∧
  (∀ r s, s.mode.carries = true → s.quiet → s.home.waiting = [] → s.xl.dcRel = [r] → r.post = none → r.waits = false →
    s.assist 2 = true → s.xl.dcPosts.length < 256 → Completes (.dcReleaseTimeout r.win r.slot) s (fun t =>
      t.now = max s.now r.deadline ∧ t.rb Reg.xlateEvents 6 = true ∧ t.xl.dcDrop = s.xl.dcDrop ∧
        t.xl.dcRel = [{ r with post := some (s.xl.dcTag % 256) }] ∧
        t.xl.dcPosts = s.xl.dcPosts ++ [mkFld 63 63 1 ||| mkFld 62 55 (s.xl.dcTag % 256) ||| mkFld 43 32 r.win ||| mkFld 18 0 r.slot]))

/-! ## The bridge (04, 05) -/

/-- R24, R35, R50, R78, R104, R105, R110, R116, R130, R136, R138, R147, R150, R151: a host's requests take their trackers and are
translated, wait, or end in a violation; a tracker is issued, answered, timed out and freed. -/
def Obligations.HostRequests : Prop :=
  (∀ p r n w slot off s, s.bridge.waiting = [] → memPort s p = true → portTakes s p = true → s.role p = 1 → p < 512 →
    (∀ bp < 16, bp / 2 = p / 64 → canAlloc s bp .general 1 = true) →
    preCheck s (portHost s p) (r.addr / 64 * 64) (opOf r).isWrite = .go n w slot off none false → tget s.home.cohs (portHost s p) = none →
    s.xl.cache = [] → s.xl.walks = [] → s.xl.fills = [] → Completes (.hostMemRequest p r) s (fun t =>
      let k := (tfree s.bridge.trks (pipeOf p (r.addr / 64) * 4096) 4096).getD 0
      s.trk? k = none ∧ k / 4096 = pipeOf p (r.addr / 64) ∧
        (t.trk? k).map (fun x => (x.src, x.op, x.addr, x.host, x.st, x.deadline)) =
          some (.host p r.tag, opOf r, r.addr / 64 * 64, portHost s p, .translate,
            deadlineOf s (s.rf (Reg.hostArb (portHost s p)) 15 0)) ∧
        t.xl.walks = [{ die := k / 4096 / 8, win := n, slot, waiters := [.trk k] }] ∧ (∀ j, j ≠ k → t.trk? j = s.trk? j))) ∧
  (∀ p r x s, s.bridge.waiting = [] → memPort s p = true → portTakes s p = true → s.role p = 1 → p < 512 →
    (∀ bp < 16, bp / 2 = p / 64 → canAlloc s bp .general 1 = true) → r.op = .rd x →
    preCheck s (portHost s p) (r.addr / 64 * 64) false = .fail .violation 1 none → tget s.home.cohs (portHost s p) = none → s.leg? p = none →
    Completes (.hostMemRequest p r) s (fun t =>
      ((tgetD t.bridge.egress p []).getLast?).map (·.body) = some (.rsp r.tag (.memData 0#512 true) .none) ∧
        t.ras.vseq = (s.ras.vseq + 1) % 2 ^ 32 ∧ t.home = s.home ∧ t.xl = s.xl)) ∧
  (∀ p r s, s.bridge.waiting = [] → memPort s p = true → portTakes s p = true → p < 512 → s.links.all (fun e => decide (e.1 < 512)) = true → hasData r = false →
    (∀ bp < 16, bp / 2 = p / 64 → canAlloc s bp .general 1 = false) → Completes (.hostMemRequest p r) s (fun t =>
      t.bridge.waiting = [(pipeOf p (r.addr / 64), .mem p r)] ∧ t.rb Reg.bridgeEvents 2 = true ∧ t.bridge.trks = s.bridge.trks)) ∧
  (∀ p vb lp l r tlp s, s.bridge.waiting = [] → s.role p = 1 → portTakes s p = true → s.mode.carries = true → ideOk s p = true →
    1 ≤ vb → vb ≤ 32 → p < 512 → (∀ bp < 16, bp / 2 = p / 64 → canAlloc s bp .general 1 = true) →
    vbPort s (portHost s p) vb = some lp → s.leg? lp = some l → (r.kind = .mwr ∨ r.kind = .mrd) → r.ep = false → ioTlp l r = some tlp →
    s.linkIsUp lp = true → (tget s.links lp).map (fun k => (k.contained, k.bound)) = some (false, true) →
    Completes (.hostIoRequest p vb r) s (fun t =>
      let k := (tfree s.bridge.trks (pipeOf p (r.addr / 64) * 4096) 4096).getD 0
      s.trk? k = none ∧ (t.trk? k).map (fun x => (x.src, x.st, x.target, x.tlp, x.seq)) =
          some (.io p r.reqId r.tag, .wait, .legacy lp, some tlp, tgetD s.bridge.seqs p 0) ∧
        tgetD t.bridge.seqs p 0 = tgetD s.bridge.seqs p 0 + 1 ∧ (∀ j, j ≠ k → t.trk? j = s.trk? j))) ∧
  (∀ p vb lp l r w s, s.bridge.waiting = [] → s.noRelease → s.role p = 1 → portTakes s p = true → s.mode.carries = true →
    1 ≤ vb → vb ≤ 32 → p < 512 → (∀ bp < 16, bp / 2 = p / 64 → canAlloc s bp .general 1 = true) →
    vbPort s (portHost s p) vb = some lp → s.leg? lp = some l → s.leg? p = none → r.kind = .bridge w →
    Completes (.hostIoRequest p vb r) s (fun t =>
      t.leg? lp = some (writeBridge w l) ∧ t.bridge.trks = s.bridge.trks ∧
        ((tgetD t.bridge.egress p []).getLast?).map (·.body) = some (.tlp (.cpl .sc (vbId s lp) r.reqId r.tag 4 0 [] false)))) ∧
  (∀ k x p g s, s.mode.carries = true → s.bridge.waiting = [] → s.trk? k = some x → x.st = .wait → x.src = .host p g → x.target = .hbm →
    x.also = none → x.ans = none → x.tlp = none → x.op.isRead = true → Completes (.trackerIssue k) s (fun t =>
      t.trk? k = some { x with st := .issued, issuedAt := s.now, timer := s.rf Reg.bxgCtl 31 16 * 10000,
                               rsp := x.rsp ++ [(planeOf x.pool, memStop (chanOfLine s (hlineOf s x.dpa)))] } ∧
        t.rings.wait.length = s.rings.wait.length + 1 ∧
        (t.rings.wait.getLast?).map (fun u => (u.plane, u.src, u.dst, u.cls, u.deadline)) =
          some (planeOf x.pool, bpStop (k / 4096), memStop (chanOfLine s (hlineOf s x.dpa)), 3, x.deadline))) ∧
  (∀ k x p g s, s.mode.carries = true → s.bridge.waiting = [] → s.trk? k = some x → x.st = .wait → x.src = .host p g → x.target = .hbm →
    x.also = none → x.ans = none → x.op = .specRd → x.tlp = none → Completes (.trackerIssue k) s (fun t =>
      t.trk? k = none ∧ t.rings.wait.length = s.rings.wait.length + 1)) ∧
  (∀ n u k x p g sn a s, s.mode.carries = true → s.bridge.waiting = [] → s.rings.arrived[n]? = some u → u.body = .rsp (.trk k) a →
    s.trk? k = some x → x.st = .issued → x.orphan = false → x.also = none → x.src = .host p g → x.op = .read sn → x.deadline % 65536 = u.deadline % 65536 →
    a.kind = none → s.leg? p = none → s.linkIsUp p = true → Completes (.responseArrives (.unit n)) s (fun t =>
      ((tgetD t.bridge.egress p []).getLast?).map (·.body) = some (.rsp g (.memData a.data a.poison) a.grant) ∧
        t.trk? k = none ∧ t.rings.arrived = dropAt s.rings.arrived n ∧ (∀ j, j ≠ k → t.trk? j = s.trk? j))) ∧
  (∀ n u k a s, s.mode.carries = true → s.bridge.waiting = [] → s.rings.arrived[n]? = some u → u.body = .rsp (.trk k) a →
    s.trk? k = none → Completes (.responseArrives (.unit n)) s (fun t =>
      t.rings.arrived = dropAt s.rings.arrived n ∧ t.rb Reg.bxgEvents 3 = true ∧ t.bridge.trks = s.bridge.trks ∧
        t.bridge.egress = s.bridge.egress)) ∧
  (∀ p g k h a s, s.mode.carries = true → tget s.bridge.islDone g = some (h, a) → s.role p = 4 →
    Completes (.islErrorMessage p g k) s (fun t =>
      (t.bridge.views = s.bridge.views ++ [mediaRec s h a k] ∨
        (t.bridge.views = s.bridge.views ∧ tgetD t.bridge.viewOvf (viewLog h .failure) 0 = satAdd 16 (tgetD s.bridge.viewOvf (viewLog h .failure) 0) 1)) ∧
      t.bridge.trks = s.bridge.trks)) ∧
  (∀ k x p g sn s, s.mode.carries = true → s.bridge.waiting = [] → s.trk? k = some x → x.st = .issued → x.src = .host p g →
    x.op = .read sn → x.orphan = false → x.target = .hbm → p < 512 → s.leg? p = none → s.linkIsUp p = true → Completes (.trackerTimeout k) s (fun t =>
      t.now = max s.now (x.issuedAt + x.timer) ∧ t.trk? k = some { x with st := .held, synth := true, heldAt := t.now } ∧
        t.rb Reg.bxgEvents 2 = true ∧
        ((tgetD t.bridge.egress p []).getLast?).map (·.body) = some (.rsp g (.memData 0#512 true) .none))) ∧
  (∀ k x s, s.mode.carries = true → s.bridge.waiting = [] → s.trk? k = some x → x.st = .held → Completes (.trackerHoldExpiry k) s (fun t =>
    t.now = max s.now (x.heldAt + 2 * x.timer) ∧ t.trk? k = none ∧ (∀ j, j ≠ k → t.trk? j = s.trk? j)))

/-- R85, R110, R112, R113, R117, R125, R126, R153, R163, R166-R168: what a legacy partner sends, and the ends of its writes and of its
requests to host memory. -/
def Obligations.PartnerRequests : Prop :=
  (∀ p w s, s.bridge.waiting = [] → p < 512 → legPort s p = true → portTakes s p = true → w.data ≠ [] → w.plain = true → writeRoom s p w = true →
    wayOf s p (w.addr / 4 * 4) w.data.length true = .host → Completes (.legacyPostedWrite p w) s (fun t =>
      let k := (tfree s.bridge.trks (homeBp p * 4096) 4096).getD 0
      let i := s.bridge.nextItem
      s.trk? k = none ∧ (t.trk? k).map (fun x => (x.src, x.st, x.target, x.tlp, x.host)) =
          some (.leg i 0, .wait, .hostLink 0, some (.mwr w.addr w.fbe w.lbe w.data w.reqId w.ep w.attr), portOwner s p) ∧
        (t.item? i).map (fun x => (x.port, x.body, x.toHost, x.trks)) = some (p, .write true, true, [k]) ∧
        t.bridge.nextItem = i + 1 ∧ t.xl = s.xl)) ∧
  (∀ p w n win sl slot off s, s.bridge.waiting = [] → p < 512 → legPort s p = true → portTakes s p = true → w.data ≠ [] → w.plain = true → w.ep = false →
    writeRoom s p w = true → wayOf s p (w.addr / 4 * 4) w.data.length true = .window →
    (w.addr / 4 * 4 + w.data.length - 1) / 64 = w.addr / 64 →
    matchWindow s (portOwner s p) (w.addr / 4 * 4) = some (n, win, sl) →
    preCheck s (portOwner s p) (64 * (w.addr / 64)) true = .go n win slot off none false →
    s.xl.cache = [] → s.xl.walks = [] → s.xl.fills = [] → Completes (.legacyPostedWrite p w) s (fun t =>
      let k := (tfree s.bridge.trks (homeBp p * 4096) 4096).getD 0
      let i := s.bridge.nextItem
      s.trk? k = none ∧ (t.trk? k).map (fun x => (x.src, x.st, x.op, x.addr, x.host)) =
          some (.leg i 0, .translate, lineWrite w (w.addr / 64) win.bswap, 64 * (w.addr / 64), portOwner s p) ∧
        (t.item? i).map (fun x => (x.port, x.body, x.toHost, x.trks)) = some (p, .write false, false, [k]) ∧
        t.xl.walks = [{ die := k / 4096 / 8, win := n, slot, waiters := [.trk k] }])) ∧
  (∀ p r s, s.bridge.waiting = [] → p < 512 → legPort s p = true → portTakes s p = true → 0 < r.dws → r.dws ≤ 1024 → r.plain = true →
    readRoom s p r (r.addr / 4 * 4 / 64) ((r.addr / 4 * 4 + 4 * r.dws - 1) / 64) = true →
    wayOf s p (r.addr / 4 * 4) (4 * r.dws) false = .host → Completes (.legacyRead p r) s (fun t =>
      let k := (tfree s.bridge.trks (homeBp p * 4096) 4096).getD 0
      s.trk? k = none ∧ (t.trk? k).map (fun x => (x.src, x.st, x.target, x.tlp)) =
          some (.leg s.bridge.nextItem 0, .wait, .hostLink 0, some (.mrd r.addr r.dws r.fbe r.lbe r.reqId r.tag)) ∧
        (t.item? s.bridge.nextItem).map (·.body) = some (.read r))) ∧
  (∀ p l r s, s.bridge.waiting = [] → p < 512 → s.links.all (fun e => decide (e.1 < 512)) = true → legPort s p = true → portTakes s p = true → s.leg? p = some l → 0 < r.dws → r.dws ≤ 1024 → r.plain = true →
    readRoom s p r (r.addr / 4 * 4 / 64) ((r.addr / 4 * 4 + 4 * r.dws - 1) / 64) = true →
    wayOf s p (r.addr / 4 * 4) (4 * r.dws) false = .violation → Completes (.legacyRead p r) s (fun t =>
      (t.leg? p).bind (fun l => l.egress.getLast?.map (·.body)) =
          some (.tlp (.cpl .ur (vbId s p) r.reqId r.tag (readBytes r) 0 [] false)) ∧
        t.ras.vseq = (s.ras.vseq + 1) % 2 ^ 32 ∧ t.bridge.trks = s.bridge.trks)) ∧
  (∀ p l r s, s.bridge.waiting = [] → p < 512 → s.links.all (fun e => decide (e.1 < 512)) = true → legPort s p = true → portTakes s p = true → s.leg? p = some l → portOwned s p = true → r.plain = true →
    s.bridge.items = [] → Completes (.legacyZeroLengthRead p r) s (fun t =>
      (t.leg? p).bind (fun l => l.egress.getLast?.map (·.body)) =
          some (.tlp (.cpl .sc (vbId s p) r.reqId r.tag 1 (r.addr % 128) [0#8, 0#8, 0#8, 0#8] false)) ∧ t.bridge.items = [])) ∧
  (∀ p r op s, s.bridge.waiting = [] → p < 512 → legPort s p = true → portTakes s p = true → r.plain = true → readRoom s p r (r.addr / 64) (r.addr / 64) = true →
    wayOf s p r.addr op.size false = .host → Completes (.legacyAtomic p r op) s (fun t =>
      let k := (tfree s.bridge.trks (homeBp p * 4096) 4096).getD 0
      s.trk? k = none ∧ (t.trk? k).map (fun x => (x.src, x.st, x.target, x.tlp)) =
          some (.leg s.bridge.nextItem 0, .wait, .hostLink 0, some (.atom r.addr op r.reqId r.tag)))) ∧
  (∀ p l wire on id s, s.bridge.waiting = [] → p < 512 → legPort s p = true → portTakes s p = true → s.leg? p = some l → portOwned s p = true → wire ≤ 3 →
    s.bridge.items = [] → Completes (.legacyIntxMessage p ⟨wire, id⟩ on) s (fun t =>
      (t.leg? p).map (fun l => (l.intx, l.intxOut)) =
          some (if on then (l.intx ||| 2 ^ wire, l.intxOut ||| 2 ^ wire)
            else (l.intx &&& (15 - 2 ^ wire), l.intxOut &&& (15 - 2 ^ wire))) ∧
        t.bridge.items.all (fun e => e.1 == s.bridge.nextItem) = true)) ∧
  (∀ p l reqId s, s.bridge.waiting = [] → s.bridge.trks = [] → p < 512 → legPort s p = true → portTakes s p = true → s.leg? p = some l → portOwned s p = true →
    s.noRelease → s.bridge.items = [] → l.serr = false → Completes (.legacyErrMessage p .errFatal reqId) s (fun t =>
      (t.leg? p).map (fun l => (l.cause, l.dpcStatus)) = some (2, true) ∧ (t.link? p).map (·.contained) = some true ∧
        t.linkIsUp p = false ∧ t.rb (Reg.bxeEvents (legIndex s p)) 5 = true ∧ t.rb (Reg.bxeEvents (legIndex s p)) 3 = true ∧
        (t.leg? p).map (fun l => l.aer.contains 9) = some true)) ∧
  (∀ k x i line it b s, s.mode.carries = true → s.bridge.waiting = [] → s.trk? k = some x → x.st = .respond → x.src = .leg i line →
    s.bridge.items = [(i, it)] → it.body = .write b → it.trks = [k] → it.fails = [] → Completes (.lineWriteAck k) s (fun t =>
      t.trk? k = none ∧ t.bridge.items = [])) ∧
  (∀ q c k x i it r l s, s.mode.carries = true → s.bridge.waiting = [] → s.role q = 1 → s.linkIsUp q = true → s.bridge.trks = [(k, x)] →
    x.target = .hostLink q → x.tag = some c.tag → x.st = .issued → x.src = .leg i 0 → s.bridge.items = [(i, it)] → it.body = .read r →
    it.sent = 0 → s.leg? it.port = some l → s.linkIsUp it.port = true → c.status = .sc → c.last = true → c.data ≠ [] →
    c.data.length ≤ mpsOf s it.port → Completes (.hostLinkCompletion q c) s (fun t =>
      (t.leg? it.port).bind (fun l => l.egress.getLast?.map (·.body)) =
          some (.tlp (.cpl .sc (vbId s it.port) r.reqId r.tag (readBytes r) ((r.addr / 4 * 4 + firstByte r.fbe) % 128) c.data c.ep)) ∧
        t.bridge.trks = [] ∧ t.bridge.items = [])) ∧
  (∀ p l t0 k s, s.mode.carries = true → s.bridge.waiting = [] → s.bridge.trks = [] → s.bridge.items = [] → s.noRelease → p < 512 →
    s.leg? p = some l → l.hostWait = some t0 → s.link? p = some k → k.contained = false → Completes (.hostLinkWaitTimeout p) s (fun t =>
      t.now = max s.now t0 ∧ (t.leg? p).map (fun l => (l.cause, l.hostWait)) = some (5, none) ∧
        (t.link? p).map (·.contained) = some true ∧ t.rb Reg.bridgeEvents 1 = true)) ∧
  (∀ p l s, s.bridge.waiting = [] → legPort s p = true → s.leg? p = some l → portOwned s p = false → partnerBound s p = true → s.assist 3 = false →
    Completes (.legacyCxlEvent p .interrupt) s (fun t => (t.leg? p).map (·.evtAt) = some (some (l.evtAt.getD s.now)))) ∧
  (∀ p l r s, legPort s p = true → s.leg? p = some l → portOwned s p = false → partnerBound s p = true → s.assist 3 = false → s.inGap = false → s.fmUsable = true →
    r.dpa = none → Completes (.eventCollection p [r]) s (fun t =>
      t.out = s.out ++ [.eventRecords p false, .partnerEvent p r, .eventRecords p true] ∧ (t.leg? p).map (fun l => (l.evtAt, l.lastCollect)) = some (none, s.now) ∧
        t.bridge.views = s.bridge.views))

/-- R110, R114-R116, R126, R132, R139, R146-R148, R153-R156, R165: what is sent to a legacy partner and what it answers; its timeouts,
protocol errors, its containment and release. -/
def Obligations.PartnerAnswers : Prop :=
  (∀ p l e tlp s, s.mode.carries = true → s.bridge.waiting = [] → s.leg? p = some l → s.linkIsUp p = true → l.egress = [e] →
    e.kind = .posted → e.from_ = none → e.tag = none → e.body = .tlp tlp → Completes (.egressSend p) s (fun t =>
      Msg.tlp p tlp ∈ t.out ∧ (t.leg? p).map (·.egress) = some [])) ∧
  (∀ p l c e k x hp r g s, s.mode.carries = true → s.bridge.waiting = [] → s.bridge.items = [] → p < 512 → hp < 512 → s.leg? p = some l → s.role p = 3 →
    s.linkIsUp p = true → tget l.tags c.tag = some e → e.who = .trk k → s.trk? k = some x → x.src = .io hp r g → x.orphan = false → c.last = true →
    c.status = .sc → c.ep = false → s.linkIsUp hp = true → s.leg? hp = none → Completes (.legacyCompletion p c) s (fun t =>
      ((tgetD t.bridge.egress hp []).getLast?).map (·.body) =
          some (.tlp (.cpl .sc c.cplId r g c.byteCount c.lower c.data false)) ∧
        (t.leg? p).map (fun l => (tget l.tags c.tag, l.ctoRun)) = some (none, 0) ∧ t.trk? k = none)) ∧
  (∀ p l tag e k x s, s.mode.carries = true → s.bridge.waiting = [] → s.leg? p = some l → s.role p = 3 → s.linkIsUp p = true →
    tget l.tags tag = some e → e.who = .trk k → s.trk? k = some x → Completes (.legacyCxlResponse p tag .cmp) s (fun t =>
      (t.rings.wait ++ t.rings.flight).any (fun u => decide (u.body = .rsp (.trk k) { okAnswer with second := e.second })) = true ∧
        (t.leg? p).map (fun l => tget l.tags tag) = some none ∧
        (t.trk? k).map (fun y => { y with rsp := x.rsp }) = some { x with outRsp := x.outRsp.erase p } ∧ (∀ j, j ≠ k → t.trk? j = s.trk? j))) ∧
  (∀ p l tag d s, s.mode.carries = true → s.leg? p = some l → tget l.quar tag = some d → Completes (.tagQuarantineExpiry p tag) s (fun t =>
    t.now = max s.now d ∧ (t.leg? p).map (fun l => tget l.quar tag) = some none)) ∧
  (∀ p l tag e t0 s, s.mode.carries = true → s.bridge.waiting = [] → p < 512 → s.leg? p = some l → tget l.tags tag = some e →
    e.start = some t0 → s.rf (Reg.bxeCtl (legIndex s p)) 31 24 = 0 → Completes (.targetTimeout p tag) s (fun t =>
      t.now = max s.now (t0 + e.timer) ∧
        (t.leg? p).map (fun l => (tget l.tags tag, tget l.quar tag)) = some (none, some (t.now + 2 * e.timer)) ∧
        t.rb (Reg.bxeEvents (legIndex s p)) 1 = true ∧ (t.leg? p).map (·.ctoRun) = some (min 255 (l.ctoRun + 1)))) ∧
  (∀ p l s, s.mode.carries = true → s.bridge.waiting = [] → s.bridge.trks = [] → p < 512 → s.link? p = some l → s.linkIsUp p = true →
    s.role p = 2 → Completes (.protocolErrorReceived p .credits) s (fun t =>
      t.linkIsUp p = false ∧ t.portEnabled p = false ∧ t.rb (Reg.linkEvents p) 7 = true ∧ t.rb (Reg.linkEvents p) 2 = true)) ∧
  (∀ a p l k s, s.mode.carries = true → s.bridge.trks = [] → p < 512 → indexPort s (legIndex s p) = some p →
    writeServed a (Reg.bxeCtl (legIndex s p)) (keepSet (Reg.bxeCtl (legIndex s p)) 4#64 s) s → s.leg? p = some l → s.link? p = some k →
    k.contained = false → s.noRelease → Completes (.bxeForceContain a (legIndex s p)) s (fun t =>
      (t.link? p).map (·.contained) = some true ∧ (t.leg? p).map (·.cause) = some 7 ∧ t.linkIsUp p = false ∧
        t.rb (Reg.bxeEvents (legIndex s p)) 3 = true ∧ t.rb (Reg.bxeCtl (legIndex s p)) 2 = false)) ∧
  (∀ a p l k s, s.mode.carries = true → s.bridge.trks = [] → s.bridge.items = [] → p < 512 →
    indexPort s (legIndex s p) = some p →
    writeServed a (Reg.bxeCtl (legIndex s p)) (keepSet (Reg.bxeCtl (legIndex s p)) 8#64 s) s → s.leg? p = some l → s.link? p = some k →
    k.contained = true → answersOwed s p = false → portOwned s p = false → Completes (.bxeRelease a (legIndex s p)) s (fun t =>
      (t.link? p).map (·.contained) = some false ∧ (t.leg? p).map (fun l => (l.cause, l.releasing)) = some (0, false) ∧
        t.rb (Reg.bxeCtl (legIndex s p)) 3 = false)) ∧
  (∀ p l k s, s.mode.carries = true → s.bridge.waiting = [] → s.bridge.trks = [] → s.bridge.items = [] → p < 512 → s.leg? p = some l →
    s.link? p = some k → k.contained = true → answersOwed s p = false → portOwned s p = true → Completes (.dpcTriggerClear p) s (fun t =>
      (t.link? p).map (·.contained) = some false ∧ (t.leg? p).map (fun l => (l.cause, l.dpcStatus)) = some (0, false))) ∧
  (∀ p l k s, s.mode.carries = true → s.bridge.waiting = [] → s.bridge.trks = [] → p < 512 → s.leg? p = some l → s.link? p = some k →
    k.contained = false → s.noRelease → portOwned s p = true → Completes (.dpcSoftwareTrigger p) s (fun t =>
      (t.link? p).map (·.contained) = some true ∧ (t.leg? p).map (fun l => (l.cause, l.dpcStatus, l.egress)) = some (7, true, []) ∧
        t.linkIsUp p = false)) ∧
  (∀ p l m q s, s.mode.carries = true → s.leg? p = some l → l.signal = some m → s.bridge.items = [] → portOwned s p = true →
    s.hostUpPort (portOwner s p) = some q → l.dpcEn ≠ 0 → l.dpcInt = true → l.dpcErrCor = false → Completes (.containmentSignal p) s (fun t =>
      t.out = s.out ++ [.dpcSignal q p l.dpcReason] ∧ (t.leg? p).map (·.signal) = some none)) ∧
  (∀ p l m w s, s.mode.carries = true → s.leg? p = some l → l.deassert = some (m, w) → s.bridge.items = [] →
    Completes (.intxDeassertSend p) s (fun t => (t.leg? p).map (fun l => (l.deassert, l.intxOut)) = some (none, 0)))

/-! ## The home agent and the channels (06) -/

/-- R187-R192: an access takes its line's entry or waits, looks its set up, goes to its channel or snoops; the answers to snoops,
their timeout; a holder's write-back; BIConflict. -/
def Obligations.HomeAccesses : Prop :=
  (∀ u a s, s.mode.carries = true → arrivedAcc s 0 = some (u, a) → needsEntry a = true → isWriteback s a = false →
    tget s.home.entries a.pool = none → sliceUsed s a.pool < 2048 → Completes (.homeRequestArrives 0) s (fun t =>
      tget t.home.entries a.pool = some { acc := a, st := .entered, plane := u.plane, ans := none } ∧
        t.rings.arrived = dropAt s.rings.arrived 0 ∧ t.home.waiting = s.home.waiting ∧ t.home.mem = s.home.mem)) ∧
  (∀ u a s, s.mode.carries = true → arrivedAcc s 0 = some (u, a) → needsEntry a = true → isWriteback s a = false →
    (tget s.home.entries a.pool).isSome = true → Completes (.homeRequestArrives 0) s (fun t =>
      t.home.entries = s.home.entries ∧ t.home.waiting = s.home.waiting ++ [(a, u.plane)] ∧
        t.rings.arrived = dropAt s.rings.arrived 0)) ∧
  (∀ line h sn s, s.mode.carries = true → s.home.entries = [(line, h)] → s.home.snoops = [] → s.home.waiting = [] → s.home.askedBy = [] →
    h.st = .entered → poisonOwed s line = false → accWaits s h.acc = false → h.acc.shared = false → h.acc.op = .read sn →
    chRoom s (hlineOf s h.acc.dpa) false = true → Completes (.homeAccessStart line) s (fun t =>
      (tget t.home.entries line).map (·.st) = some .channel ∧
        (t.chan (chanOfLine s (hlineOf s h.acc.dpa))).readQ.map (fun c => (c.acc, c.hline)) =
          (s.chan (chanOfLine s (hlineOf s h.acc.dpa))).readQ.map (fun c => (c.acc, c.hline)) ++ [(h.acc, hlineOf s h.acc.dpa)])) ∧
  (∀ line h e g d m p v s, s.mode.carries = true → s.home.entries = [(line, h)] → s.home.snoops = [] → s.home.waiting = [] →
    s.home.askedBy = [] → h.st = .entered → poisonOwed s line = false → accWaits s h.acc = false → h.acc.pool = line → h.acc.shared = true → h.acc.cached = true →
    h.acc.op = .write d m true p v → s.home.cached.contains (lineDie s line, sfSet line) = true → sfGet s line = some e → e.excl = true →
    g < 64 → g ≠ h.acc.host → e.presence = hostBit g → hostIsGone s g = false → hostIsGone s h.acc.host = false →
    Completes (.homeAccessStart line) s (fun t =>
      t.home.snoops.map (fun x => (x.line, x.host, x.kind, x.why, x.start, x.timer)) =
          [(line, g, .inv, .access, s.now, s.rf Reg.homeCtl 47 32 * 1000)] ∧
        (tget t.home.entries line).map (·.st) = some .snooping ∧ t.home.mem = s.home.mem ∧ sfGet t line = some e)) ∧
  (∀ line h s, s.mode.carries = true → s.home.entries = [(line, h)] → s.home.snoops = [] → s.home.waiting = [] → s.home.askedBy = [] →
    h.st = .entered → poisonOwed s line = false → accWaits s h.acc = false → h.acc.shared = true → s.home.cached.contains (lineDie s line, sfSet line) = false →
    s.home.setReads = [] → Completes (.homeAccessStart line) s (fun t =>
      t.home.setReads = [(lineDie s line, sfSet line)] ∧ (tget t.home.entries line).map (·.st) = some .setRead)) ∧
  (∀ die set r s, s.mode.carries = true → s.quiet → s.home.waiting = [] → readingJob s (.setRead die set) = some r →
    Completes (.sfSetReadComplete die set .clean) s (fun t =>
      t.home.setReads.contains (die, set) = false ∧ t.home.cached.contains (die, set) = true)) ∧
  (∀ die set r s, s.mode.carries = true → s.quiet → s.home.waiting = [] → readingJob s (.setRead die set) = some r →
    r.2.2.buffered = false → regionOf s (4 * set) = 0 → Completes (.sfSetReadComplete die set .uncorrectable) s (fun t => t.mode = .halt)) ∧
  (∀ u a d p s, s.mode.carries = true → s.quiet → arrivedAcc s 0 = some (u, a) → isWriteback s a = true →
    accWaits s a = false → a.mirror = false → mirWin s a.pool = none → chRoom s (hlineOf s a.dpa) true = true →
    a.op = .write d fullMask true p .i → endedInError s a.who = false → Completes (.holderWriteback 0) s (fun t =>
      readHbm t (hlineOf s a.dpa) = d ∧ isPoisoned t (hlineOf s a.dpa) = p ∧ sfGet t a.pool = none ∧
        t.rings.arrived = dropAt s.rings.arrived 0 ∧ t.home.entries = [])) ∧
  (∀ x e h sn s, s.mode.carries = true → s.home.snoops = [x] → x.why = .access → x.port.isSome = true → s.home.entries = [(x.line, h)] →
    s.home.askedBy = [] → h.st = .snooping → h.acc.op = .read sn → chRoom s (hlineOf s h.acc.dpa) false = true →
    sfGet s x.line = some e → x.host < 64 → e.presence = hostBit x.host → x.kind = .inv → mirWin s x.line = none →
    Completes (.birspReceived x.tag .i) s (fun t =>
      t.home.snoops = [] ∧ sfGet t x.line = none ∧ (t.coh x.host).failRun = 0 ∧
        (tget t.home.entries x.line).map (·.st) = some .channel)) ∧
  (∀ tag rsp s, s.mode.carries = true → s.quiet → s.home.snoops.any (fun x => x.tag == tag) = false →
    Completes (.birspReceived tag rsp) s (fun t => t.rb Reg.homeEvents 1 = true ∧ t.home = { s.home with lateBi := s.home.lateBi + 1 })) ∧
  (∀ x e s, s.mode.carries = true → s.quiet → s.home.snoops = [x] → x.why = .access → sfGet s x.line = some e → e.excl = true →
    x.host < 64 → e.presence = hostBit x.host → mirWin s x.line = none → s.rf Reg.homeCtl 23 16 = 0 →
    Completes (.biTimeout x.tag) s (fun t =>
      t.now = max s.now (x.start + x.timer) ∧ t.home.snoops = [] ∧ sfGet t x.line = none ∧
        isPoisoned t (poolHline s x.line) = true ∧ t.rb Reg.homeEvents 0 = true ∧
        (t.coh x.host).failRun = min 255 ((s.coh x.host).failRun + 1))) ∧
  (∀ p line s, memPort s p = true → Completes (.biconflictReceived p line) s (fun t =>
    (t.rings.wait ++ t.rings.flight).any (fun u => match u.body with
      | .snp q e => q == p && decide (e.body = .biAck line) && u.cls == 1
      | _ => false) = true ∧ t.home = s.home))

/-- R177-R186, R195, R198-R200, R203, R204: hosts that have gone, evictions, the mirror's lines and entries; the channels' schedules,
reads, scrub, retirement and end. -/
def Obligations.HomeAndChannels : Prop :=
  (∀ h t0 s, s.mode.carries = true → s.quiet → s.home.snoops = [] → (s.coh h).st = .downWait → (s.coh h).goneAt = some t0 →
    Completes (.goneTimeout h) s (fun t =>
      t.now = max s.now t0 ∧ (t.coh h).st = .reclaim ∧ t.rb Reg.homeEvents 5 = true ∧
        t.home.sf = s.home.sf)) ∧
  (∀ h s, s.mode.carries = true → s.quiet → (s.coh h).st = .reclaim → (s.coh h).readmit = false → tsorted s.home.sf = true →
    Completes (.reclaimWalkComplete h) s (fun t =>
      (t.coh h).st = .gone ∧ t.home.sf.all (fun e => !e.2.presence.getLsbD h) = true)) ∧
  (∀ e s, s.mode.carries = true → s.quiet → s.home.evicts = [e] → Completes (.evictTimeout e.die e.tag) s (fun t =>
    t.now = max s.now e.deadline ∧ t.home.evicts = [] ∧ t.rb Reg.homeEvents 3 = true)) ∧
  (∀ set s, s.mode.carries = true → mirrorOn s = true → s.home.entries = [] → s.home.askedBy = [] → s.home.sf = [] →
    Completes (.partnerEvictRequest set) s (fun t => t.home.askedBy = [set] ∧ t.home.sf = [])) ∧
  (∀ id line d poison dl s, s.mode.carries = true → mirrorOn s = true → chRoom s (poolHline s line) true = true →
    Completes (.mirrorWriteReceived id line d poison ⟨none, dl⟩) s (fun t =>
      readHbm t (poolHline s line) = d ∧ isPoisoned t (poolHline s line) = poison ∧ t.out = s.out ++ [.twinAck id])) ∧
  (∀ w h s, s.mode.carries = true → s.home.mirWaits = [w] → w.entry = true → w.acc.who ≠ .own → s.home.entries = [(w.line, h)] →
    s.home.waiting = [] → s.home.askedBy = [] → s.qu.busy = [] → Completes (.mirrorAckReceived w.id) s (fun t =>
      t.home.mirWaits = [] ∧ tget t.home.entries w.line = none ∧ answerOut t w.acc.who { w.ans with second := w.acc.second } = true)) ∧
  (∀ line p x o s, s.mode.carries = true → mirrorOn s = true → sfGet s line = some o →
    Completes (.mirrorSfUpdate line (some (p, x))) s (fun t =>
      sfGet t line = some { o with presence := p, excl := x, mirrored := true } ∧ (∀ l, l ≠ line → sfGet t l = sfGet s l))) ∧
  (∀ ch rs ws os s, s.mode.carries = true → s.quiet → s.home.waiting = [] → s.home.chWait = [] → s.rings.arrived = [] →
    Completes (.channelSchedule ch true rs ws os) s (fun t =>
      t.chan ch = { s.chan ch with refreshes := (s.chan ch).refreshes + 1 } ∧ t.home.mem = s.home.mem)) ∧
  (∀ ch a os s, s.mode.carries = true → s.quiet → s.home.waiting = [] → s.home.chWait = [] → s.rings.arrived = [] →
    (s.chan ch).readQ = [a] → (s.chan ch).wbuf = [] → chLimit s ch ≠ some 0 → Completes (.channelSchedule ch false [0] [] os) s (fun t =>
      (t.chan ch).readQ = [] ∧ (t.chan ch).reading = (s.chan ch).reading ++ [a] ∧ t.home.mem = s.home.mem)) ∧
  (∀ ch e os s, s.mode.carries = true → s.quiet → s.home.waiting = [] → s.home.chWait = [] → s.rings.arrived = [] →
    (s.chan ch).readQ = [] → (s.chan ch).wbuf = [e] → chLimit s ch ≠ some 0 → Completes (.channelSchedule ch false [] [0] os) s (fun t =>
      (t.chan ch).wbuf = [] ∧ (t.chan ch).reading = (s.chan ch).reading ∧ t.home.mem = s.home.mem)) ∧
  (∀ ch k c j sn s, s.mode.carries = true → s.quiet → (s.chan ch).reading[k]? = some c → c.entry = false → c.acc.who = .trk j →
    c.job = .access → c.acc.op = .read sn → Completes (.channelReadComplete ch k .clean) s (fun t =>
      answerOut t (.trk j) { okAnswer with data := readHbm s c.hline, poison := isPoisoned s c.hline, second := c.acc.second } = true ∧
        (t.chan ch).reading = dropAt (s.chan ch).reading k ∧ t.home.mem = s.home.mem)) ∧
  (∀ ch k c sn s, s.mode.carries = true → s.quiet → (s.chan ch).reading[k]? = some c → c.entry = false → c.acc.who = .own →
    c.job = .access → c.acc.op = .read sn → regionOf s c.hline = 6 → c.buffered = false →
    (s.chan ch).wbuf.any (fun e => e.hline == c.hline) = false → Completes (.channelReadComplete ch k .uncorrectable) s (fun t =>
      isPoisoned t c.hline = true ∧ t.rb Reg.homeEvents 7 = true ∧ t.home.mem = s.home.mem)) ∧
  (∀ s, s.mode.carries = true → s.rb Reg.homeCtl 1 = true → s.home.entries = [] → s.home.patrol < hbmLines →
    s.chan (chanOfLine s s.home.patrol) = newChan → Completes .patrolScrubRead s (fun t =>
      t.home.patrol = (s.home.patrol + 1) % hbmLines ∧
        (t.chan (chanOfLine s s.home.patrol)).readQ.map (fun c => (c.hline, c.background, c.acc.who)) = [(s.home.patrol, true, .own)])) ∧
  (∀ ch d s, s.mode.carries = true → (s.chan ch).st = 1 → (s.chan ch).copied < 6291455 →
    freeGranule s ((carveOf s.tabs 7).2 * 4096) ((carveOf s.tabs 7).1 * 4096) = some d →
    Completes (.retireGranuleCopied ch ⟨[], []⟩) s (fun t =>
      let g := granuleOf ch (s.chan ch).copied
      tget t.home.moved (((s.home.moved.find? (fun e => e.2 == g)).map (·.1)).getD g) = some d ∧
        (t.chan ch).copied = (s.chan ch).copied + 1 ∧ (t.chan ch).st = 1)) ∧
  (∀ ch s, s.mode.carries = true → ch < 128 → Completes (.channelDead ch) s (fun t => t.mode = .halt ∧ (t.chan ch).st = 3))

/-! ## The tick unit and the rings (07, 08) -/

/-- R206-R208, R211-R214, R218-R226, R234-R238, R242, R243: bells, staging, reads, the boundary, the publish, retagging and the
mirror's messages. -/
def Obligations.TickUnit : Prop :=
  (∀ low high s, s.pwr.auxGood = true → 30 ≤ low → 30 ≤ high → s.tick.running = true → s.mode.carries = true → bellFollows s = true →
    followsPartner s = false → 8 * s.tick.nextNominal ≤ 8 * s.now + tickPeriod s → 8 * s.now ≤ 8 * s.tick.nextNominal + tickPeriod s →
    s.tick.edge = none → s.tick.defer = .none → Completes (.bellInEdge low high) s (fun t =>
      t.tick = { s.tick with
        edge := some s.now, missRun := 0, noWait := false, lastOffset := ((s.now : Int) - s.tick.nextNominal) / 10 } ∧
        t.rb Reg.pendEdges 16 = true)) ∧
  (∀ low high s, s.pwr.auxGood = true → 30 ≤ low → 30 ≤ high → s.tick.running = true → s.mode.carries = true → bellFollows s = false →
    Completes (.bellInEdge low high) s (fun t =>
      t.tick = s.tick ∧ t.rf Reg.bellStatus 63 48 = min 65535 (s.rf Reg.bellStatus 63 48 + 1) ∧ t.rb Reg.tickEvents 3 = true)) ∧
  (∀ t0 s, s.tick.bellOutUntil = some t0 → Completes .bellOutFall s (fun t =>
    t.now = max s.now t0 ∧ t.tick = { s.tick with bellOutUntil := none })) ∧
  (∀ k a c d m p s, s.mode.carries = true → s.tick.inbox[k]? = some a → accWaits s a = false → a.mirror = false →
    endedInError s a.who = false → a.who ≠ .own → isStageOp a = true → (check7 s a).toOption = some c → writeOf a.op = some (d, m, p) → a.slice = none →
    s.tick.open_.any (Rec.is c a.pool none) = false → Completes (.tickWriteStage k) s (fun t =>
      t.tick.open_ = s.tick.open_ ++
          [{ newRec c a.pool (tickIdOf s a.win) none with mask := m, data := lineMerge 0#512 d m, poison := p }] ∧
        t.tick.inbox = dropAt s.tick.inbox k ∧ answerOut t a.who { okAnswer with second := a.second } = true ∧
        t.home.mem = s.home.mem ∧ t.tick.published = s.tick.published)) ∧
  (∀ k a s, s.mode.carries = true → s.tick.inbox[k]? = some a → accWaits s a = false → endedInError s a.who = false → a.who ≠ .own →
    isStageOp a = true → (match check7 s a with | .error e => e == 3 | .ok _ => false) = true → Completes (.tickWriteStage k) s (fun t =>
      t.tick.open_ = s.tick.open_ ∧ t.tick.openAcct.violations = s.tick.openAcct.violations + 1 ∧ t.rb Reg.tickEvents 0 = true ∧
        t.tick.openAcct.overrun.contains ((contribOf s a).getD 0) = true ∧
        answerOut t a.who { errAnswer .violation with second := a.second } = true)) ∧
  (∀ k a sn s, s.mode.carries = true → s.tick.inbox[k]? = some a → accWaits s a = false → a.who ≠ .own → a.op = .read sn → a.slice = none →
    Completes (.tickRead k .none) s (fun t =>
      let v := slotLine s a.pool (slotAt s.tick.published (tagsOf s a.pool))
      answerOut t a.who { okAnswer with data := v.1, poison := v.2, second := a.second } = true ∧
        t.tick.inbox = dropAt s.tick.inbox k ∧ t.home.mem = s.home.mem ∧ t.tick.open_ = s.tick.open_)) ∧
  (∀ partner s, s.mode.carries = true → s.quiet → s.tick.running = true → s.tick.committing = false → s.tick.defer = .none →
    s.tick.early = [] → s.pair.present = false → s.pair.tkSets = 0 → s.pair.takeTick = none → s.alm.armed = none → s.alm.splitPending = none →
    Completes (.tickBoundary partner) s (fun t =>
      t.now = max s.now (boundaryDue s).1 ∧ t.tick.num = s.tick.num + 1 ∧ t.tick.committing = true ∧
        t.tick.closed = s.tick.open_ ∧ t.tick.open_ = [] ∧ t.tick.published = s.tick.published ∧ t.tick.lastBoundary = t.now ∧
        t.tick.nextNominal = t.now + tickPeriod s ∧ t.tick.bellOutUntil = some (t.now + 200) ∧ t.home.mem = s.home.mem)) ∧
  (∀ r s, s.mode.carries = true → s.tick.committing = true → s.tick.mirrorOwed = false → s.tick.maskIn = [] → s.pair.present = false →
    s.pair.dissolving = none → s.alm.drainBoundary = false → s.tick.defer = .none → s.qu.waits = [] → s.tick.closed = [r] → r.op = none →
    r.mask = fullMask → r.poison = false → s.tick.closedAcct.absent.contains r.contrib = false →
    (tagsOf s r.line).1 < 2 ^ 32 → (tagsOf s r.line).2 < 2 ^ 32 →
    (s.tick.published + 1) % 2 ^ 32 ≠ (tagsOf s r.line).1 → (s.tick.published + 1) % 2 ^ 32 ≠ (tagsOf s r.line).2 →
    Completes (.tickPublish []) s (fun t =>
      t.tick.published = s.tick.published + 1 ∧ t.tick.committing = false ∧ t.tick.closed = [] ∧
        slotLine t r.line (slotAt t.tick.published (tagsOf t r.line)) = (r.data, false) ∧
        slotLine t r.line (slotAt s.tick.published (tagsOf s r.line)) =
          slotLine s r.line (slotAt s.tick.published (tagsOf s r.line)) ∧
        (tget t.tick.reports (s.tick.published % 16)).map (fun x => (x.tick, x.records, x.lines)) = some (s.tick.published + 1, 1, 1))) ∧
  (∀ s, s.mode.carries = true → s.tick.committing = false → s.tick.walkAt ≤ s.tick.published / 2 ^ 30 → Completes .tagRetagWalk s (fun t =>
    t.tick.tags.map (fun e => (e.1, slotAt s.tick.published e.2)) = s.tick.tags.map (fun e => (e.1, slotAt s.tick.published e.2)) ∧
      t.tick.tags.all (fun e => e.2.1 == s.tick.published % 2 ^ 32 || e.2.2 == s.tick.published % 2 ^ 32) = true ∧
      t.tick.walkAt = s.tick.published / 2 ^ 30 + 1)) ∧
  (∀ id c line tickId m d p s, s.mode.carries = true → mirrorOn s = true → s.tick.open_.any (Rec.is c line none) = false →
    Completes (.mirrorStageReceived id s.tick.num c line tickId none m d p) s (fun t =>
      t.tick.open_ = s.tick.open_ ++ [{ newRec c line tickId none with mask := m, data := lineMerge 0#512 d m, poison := p }] ∧
        t.out = s.out ++ [.twinAck id])) ∧
  (∀ n mask s, s.mode.carries = true → s.tick.published < n → n ≤ s.tick.num → Completes (.absentMaskReceived n mask) s (fun t =>
    t = { s with tick.maskIn := tset s.tick.maskIn n mask })) ∧
  (∀ s, s.mode.carries = true → s.tick.committing = true → Completes (.mirrorCommitComplete (s.tick.published + 1)) s (fun t =>
    t = { s with tick.mirrorOwed := false }))

/-- R250-R257, R260, R268, R278: units are injected and delivered, credits return, a header error stops its plane until it has
recovered; the frame and its rates. -/
def Obligations.RingUnits : Prop :=
  (∀ k u e g a s, s.mode.carries = true → s.rings.flight[k]? = some u → u.body = .rsp (.eng e g) a →
    Completes (.ringUnitDelivered k .ok) s (fun t =>
      t = { s with rings.flight := dropAt s.rings.flight k, rings.engAns := s.rings.engAns ++ [(.eng e g, a)] })) ∧
  (∀ k u j a s, s.mode.carries = true → s.rings.flight[k]? = some u → u.body = .rsp (.trk j) a →
    Completes (.ringUnitDelivered k .ok) s (fun t =>
      t = { s with rings.flight := dropAt s.rings.flight k, rings.arrived := s.rings.arrived ++ [u] })) ∧
  (∀ k u j a s, s.mode.carries = true → s.rings.flight[k]? = some u → u.body = .rsp (.trk j) a →
    Completes (.ringUnitDelivered k .dataErr) s (fun t =>
      t.rings.arrived = s.rings.arrived ++ [{ u with poison := true, body := .rsp (.trk j) { a with poison := true } }])) ∧
  (∀ k u s, s.mode.carries = true → s.rings.flight[k]? = some u → Completes (.ringUnitDelivered k .headerErr) s (fun t =>
    t.rings.flight = dropAt s.rings.flight k ∧ t.rings.arrived = s.rings.arrived ∧ planeSt t u.plane = .stopped ∧
      tgetD t.rings.drops u.plane 0 = min 65535 (tgetD s.rings.drops u.plane 0 + 1) ∧ t.rb Reg.arbEvents 3 = true)) ∧
  (∀ p s, s.mode.carries = true → planeSt s p = .stopped → s.rings.flight.any (fun u => u.plane == p && u.src != u.dst) = false →
    Completes (.planeRecoveryResync p) s (fun t =>
      planeSt t p = .safe ∧ t.rings.back.any (fun c => c.2.1 == p) = false ∧
        (∀ c ∈ t.rings.own, c.1 = p →
          s.rings.arrived.any (fun u => decide ((u.plane, u.cls, u.src, u.dst) = c) && u.credit == 1) = true) ∧
        t.rings.arrived = s.rings.arrived ∧ t.rings.wait = s.rings.wait)) ∧
  (∀ p s, s.mode.carries = true → planeSt s p = .safe → Completes (.planeRecoverySafeEnd p) s (fun t => planeSt t p = .normal)) ∧
  (∀ k p cls src dst s, s.mode.carries = true → s.rings.back[k]? = some (1, p, cls, src, dst) →
    s.rings.arrived.any (fun u => decide (u.cls = 0)) = false → Completes (.creditReturn k) s (fun t =>
    t = { s with rings.back := dropAt s.rings.back k, rings.own := s.rings.own.erase (p, cls, src, dst) })) ∧
  (∀ cycle u c s, s.mode.carries = true → s.bridge.waiting = [] → s.rings.wait = [u] → planeSt s u.plane ≠ .stopped →
    creditFor s u = some c → cycleFree s u cycle (slotAtCycle s u.src (goesCw u.src u.dst) cycle) = true →
    Completes (.arbiterGrant (.ring u.plane u.src (goesCw u.src u.dst)) cycle) s (fun t =>
      t.rings.wait = [] ∧ t.rings.flight = s.rings.flight ++ [{ u with credit := c }] ∧
        (arbOf t (.ring u.plane u.src (goesCw u.src u.dst))).ptr = (u.cls + 1) % 5)) ∧
  (∀ s, s.mode.carries = true → s.rings.next = none → Completes .frameBoundary s (fun t =>
    t = { s with rings.frame := (s.rings.frame + 1) % 2 ^ 64, rings.ctl := s.rd Reg.arbCtl })) ∧
  (∀ eff s, s.mode.carries = true → s.rings.next = some eff → Completes .frameBoundary s (fun t =>
    t.rings.frame = (s.rings.frame + 1) % 2 ^ 64 ∧ t.rings.eff = eff ∧ t.rings.next = none)) ∧
  (∀ s, s.mode.carries = true → s.rings.dirty = true → Completes .contractRecompute s (fun t =>
    t.rings.next.isSome = true ∧ t.rings.dirty = false ∧ t.rings.eff = s.rings.eff))

/-! ## Queues (09) -/

/-- R291-R296, R298: writes to ITEM, the rows of R294, the gap marker, delivery, the assembly timer. -/
def Obligations.QueueItems : Prop :=
  (∀ p pg b q i reqId w o s, producerPage p pg b q s → s.queueFree q → i < 2048 → tget s.qu.opens b = some o → o.noRoom = false →
    (tget o.cells (cellOfWord i)).isSome = true → Completes (.itemWrite p (producerAddr pg (8 * i)) 15 15 reqId (wordBytes w) false) s
      (fun t => t.qu = { s.qu with opens := tset s.qu.opens b { o with words := tset o.words i w } } ∧ t.home.mem = s.home.mem)) ∧
  (∀ p pg b q i reqId w c r s, producerPage p pg b q s → s.queueFree q → i < 2048 → tget s.qu.opens b = none →
    contextsOf s (queueDie q) < 2048 → s.qu.freed = c :: r →
    Completes (.itemWrite p (producerAddr pg (8 * i)) 15 15 reqId (wordBytes w) false) s (fun t =>
      tget t.qu.opens b = some
          { words := [(i, w)], poisoned := [], cells := [(cellOfWord i, c)], ctx := true, noRoom := false, badWrite := false,
            deadline := s.now + s.rf Reg.queueCtl 47 32 * 1000 } ∧
        t.qu.freed = r ∧ t.qu.queues = s.qu.queues ∧ t.qu.prods = s.qu.prods)) ∧
  (∀ p pg b q i reqId w s, producerPage p pg b q s → s.queueFree q → i < 2048 → tget s.qu.opens b = none → freeCells s = 0 →
    Completes (.itemWrite p (producerAddr pg (8 * i)) 15 15 reqId (wordBytes w) false) s (fun t =>
      (tget t.qu.opens b).map (fun o => (o.noRoom, o.cells)) = some (true, []) ∧ t.qu.queues = s.qu.queues)) ∧
  (∀ p pg b q i reqId d0 d1 d2 d3 s, producerPage p pg b q s → s.queueFree q → i < 4096 →
    Completes (.itemWrite p (producerAddr pg (4 * i)) 15 0 reqId [d0, d1, d2, d3] false) s (fun t =>
      (tget t.qu.opens b).map (·.badWrite) = some true ∧ t.qu.freed = s.qu.freed ∧ t.qu.queues = s.qu.queues)) ∧
  (∀ p pg b q w reqId swap s, producerPage p pg b q s → s.queueFree q → (s.queue q).faulted = false →
    ((prodState s b).1 + 2 ^ 32 - commitSeq w) % 2 ^ 32 = 1 → Completes (.commit p (producerAddr pg 0x4000) w reqId swap false) s (fun t =>
      commitEnds p reqId b swap (prodState s b) 3 (prodWord (prodState s b).1 false true (prodState s b).2) s t ∧
        t.qu.queues = s.qu.queues)) ∧
  (∀ p pg b q w reqId swap s, producerPage p pg b q s → s.queueFree q → (s.queue q).faulted = false →
    1 < ((prodState s b).1 + 2 ^ 32 - commitSeq w) % 2 ^ 32 → ((prodState s b).1 + 2 ^ 32 - commitSeq w) % 2 ^ 32 ≤ 2 ^ 31 →
    Completes (.commit p (producerAddr pg 0x4000) w reqId swap false) s (fun t =>
      commitEnds p reqId b swap (prodState s b) 3 (prodWord (prodState s b).1 false false 4) s t ∧ t.qu.queues = s.qu.queues)) ∧
  (∀ p pg b q w reqId swap s, producerPage p pg b q s → s.queueFree q → (s.queue q).faulted = false →
    2 ^ 31 < ((prodState s b).1 + 2 ^ 32 - commitSeq w) % 2 ^ 32 →
    Completes (.commit p (producerAddr pg 0x4000) w reqId swap false) s (fun t =>
      commitEnds p reqId b swap (prodState s b) 2 (prodWord (prodState s b).1 false false 7) s t ∧ t.qu.queues = s.qu.queues)) ∧
  (∀ p pg b q w reqId swap s, producerPage p pg b q s → s.queueFree q → (s.queue q).faulted = false →
    ((prodState s b).1 + 2 ^ 32 - commitSeq w) % 2 ^ 32 = 0 →
    (commitLen w = 0 ∨ 16384 < commitLen w ∨
      (List.range ((commitLen w + 7) / 8)).any (fun i => ((tget s.qu.opens b).bind (fun o => tget o.words i)).isNone) = true) →
    Completes (.commit p (producerAddr pg 0x4000) w reqId swap false) s (fun t =>
      commitEnds p reqId b swap (prodState s b) 2 (prodWord (prodState s b).1 false false 5) s t ∧ t.qu.queues = s.qu.queues)) ∧
  (∀ p pg b q w reqId swap o s, producerPage p pg b q s → s.queueFree q → (s.queue q).faulted = false →
    ((prodState s b).1 + 2 ^ 32 - commitSeq w) % 2 ^ 32 = 0 → 1 ≤ commitLen w → commitLen w ≤ 16384 → tget s.qu.opens b = some o →
    (List.range ((commitLen w + 7) / 8)).all (fun i => (tget o.words i).isSome) = true → o.badWrite = true →
    Completes (.commit p (producerAddr pg 0x4000) w reqId swap false) s (fun t =>
      commitEnds p reqId b swap (prodState s b) 2 (prodWord (prodState s b).1 false false 6) s t ∧ t.qu.queues = s.qu.queues)) ∧
  (∀ p pg b q w reqId swap o s, producerPage p pg b q s → s.queueFree q → (s.queue q).faulted = false →
    ((prodState s b).1 + 2 ^ 32 - commitSeq w) % 2 ^ 32 = 0 → 1 ≤ commitLen w → commitLen w ≤ 16384 → tget s.qu.opens b = some o →
    (List.range ((commitLen w + 7) / 8)).all (fun i => (tget o.words i).isSome) = true → o.badWrite = false → o.noRoom = true →
    (s.queue q).gapState = 1 → (qcfg? s q).map (·.noticeEn) = some false →
    Completes (.commit p (producerAddr pg 0x4000) w reqId swap false) s (fun t =>
      commitEnds p reqId b swap (((prodState s b).1 + 1) % 2 ^ 32, 3) 1 (prodWord (((prodState s b).1 + 1) % 2 ^ 32) false false 3) s t ∧
        t.queue q = modGap (fun i => { i with
          data := [i.data.getD 0 0#64 + 1#64, i.data.getD 1 0#64, dropWord (commitSeq w) b] }) (s.queue q))) ∧
  (∀ p pg b q w reqId swap o s, producerPage p pg b q s → s.queueFree q → (s.queue q).faulted = false →
    ((prodState s b).1 + 2 ^ 32 - commitSeq w) % 2 ^ 32 = 0 → 1 ≤ commitLen w → commitLen w ≤ 16384 → tget s.qu.opens b = some o →
    (List.range ((commitLen w + 7) / 8)).all (fun i => (tget o.words i).isSome) = true → o.badWrite = false → o.noRoom = false →
    ((qcfg? s q).map (·.limit)).getD 0 < (s.queue q).cells + cellsFor (commitLen w) → (s.queue q).gapState = 0 →
    (qcfg? s q).map (·.noticeEn) = some false → Completes (.commit p (producerAddr pg 0x4000) w reqId swap false) s (fun t =>
      commitEnds p reqId b swap (((prodState s b).1 + 1) % 2 ^ 32, 2) 0 (prodWord (((prodState s b).1 + 1) % 2 ^ 32) false false 2) s t ∧
        (t.queue q).gapState = 1 ∧
        ((t.queue q).list (commitPrio w)).items = ((s.queue q).list (commitPrio w)).items ++
          [gapItem q 1#64 (dropWord (commitSeq w) b) (dropWord (commitSeq w) b)])) ∧
  (∀ p pg b q w reqId swap o s, producerPage p pg b q s → s.queueFree q → (s.queue q).faulted = false →
    ((prodState s b).1 + 2 ^ 32 - commitSeq w) % 2 ^ 32 = 0 → 1 ≤ commitLen w → commitLen w ≤ 16384 → tget s.qu.opens b = some o →
    (List.range ((commitLen w + 7) / 8)).all (fun i => (tget o.words i).isSome) = true → o.badWrite = false → o.noRoom = false →
    ((qcfg? s q).map (·.limit)).getD 0 < (s.queue q).cells + cellsFor (commitLen w) → (s.queue q).gapState = 2 →
    Completes (.commit p (producerAddr pg 0x4000) w reqId swap false) s (fun t =>
      commitEnds p reqId b swap (((prodState s b).1 + 1) % 2 ^ 32, 2) 0 (prodWord (((prodState s b).1 + 1) % 2 ^ 32) false false 2) s t ∧
        t.queue q = { s.queue q with dropsHeld := min 65535 ((s.queue q).dropsHeld + 1), gapPrio := commitPrio w })) ∧
  (∀ p pg b q w reqId swap o s, producerPage p pg b q s → s.queueFree q → (s.queue q).faulted = false →
    ((prodState s b).1 + 2 ^ 32 - commitSeq w) % 2 ^ 32 = 0 → 1 ≤ commitLen w → commitLen w ≤ 16384 → tget s.qu.opens b = some o →
    (List.range ((commitLen w + 7) / 8)).all (fun i => (tget o.words i).isSome) = true → o.badWrite = false → o.noRoom = false →
    (s.queue q).cells + cellsFor (commitLen w) ≤ ((qcfg? s q).map (·.limit)).getD 0 →
    Completes (.commit p (producerAddr pg 0x4000) w reqId swap false) s (fun t =>
      (tget t.qu.busy q).map (fun x => (x.act, x.op)) = some (.cells, .commit b w none) ∧ t.qu.opens = s.qu.opens ∧
        t.qu.queues = s.qu.queues ∧ t.bridge.egress = s.bridge.egress)) ∧
  (∀ p b q w reqId g dl o s, s.queuePort p → s.qu.waits = [] → tget s.qu.opens b = some o →
    tget s.qu.busy q = some { act := .cells, op := .commit b w none, dest := .host p reqId g 0 8 dl } →
    Completes (.commitCellsAccepted q) s (fun t =>
      ((t.queue q).list (commitPrio w)).items = ((s.queue q).list (commitPrio w)).items ++
          [{ gap := false, cells := (o.cells.filter (fun c => decide (c.1 < cellsFor (commitLen w)))).map Prod.snd, commit := w, prod := b,
             data := paddedWords (commitLen w) o.words,
             poison := o.poisoned.filter (fun l => decide (l < 4 * cellsFor (commitLen w))) }] ∧
        t.qu.freed = (o.cells.filter (fun c => decide (cellsFor (commitLen w) ≤ c.1))).map Prod.snd ++ s.qu.freed ∧
        t.qu.opens = terase s.qu.opens b ∧ tget t.qu.busy q = none ∧ prodState t b = (((prodState s b).1 + 1) % 2 ^ 32, 1) ∧
        hostAnswered t p reqId g 0 (wordBytes (prodWord (((prodState s b).1 + 1) % 2 ^ 32) false false 1)))) ∧
  (∀ b q o s, (pcfg? s b).map (·.queue) = some q → s.queueFree q → tget s.qu.opens b = some o → Completes (.itemAssemblyTimeout b) s (fun t =>
    t.now = max s.now o.deadline ∧ t.qu.opens = terase s.qu.opens b ∧ t.qu.freed = o.cells.map Prod.snd ++ s.qu.freed ∧
      prodState t b = ((prodState s b).1 % 2 ^ 32, 8) ∧ t.rb Reg.queueEvents 2 = true ∧ t.qu.queues = s.qu.queues))

/-- R282, R285, R289, R290, R299-R303, R305, R306, R308, R309: reads and commands of a consumer, the lease, the stale timer, notices. -/
def Obligations.QueueConsumers : Prop :=
  (∀ p pg q i reqId g pr it s, consumerPage p pg q s → s.queueFree q → (s.queue q).faulted = false → (s.queue q).cur = none →
    (s.queue q).firstList = some pr → (s.queue q).unread pr = some it → it.poison = [] → i < 2048 →
    Completes (.consumerRead p (consumerAddr pg (8 * i)) 2 reqId g [] false) s (fun t =>
      (t.queue q).cur = some pr ∧ (t.queue q).lists = (s.queue q).lists ∧ (t.queue q).stale = false ∧
        (t.queue q).lease = (s.queue q).lease.map (fun _ => s.now) ∧
        hostAnswered t p reqId g (8 * i % 128) (wordBytes (it.data.getD i 0#64)))) ∧
  (∀ p pg q reqId g pr it s, consumerPage p pg q s → s.queueFree q → (s.queue q).faulted = false → (s.queue q).cur = some pr →
    (s.queue q).unread pr = some it → Completes (.consumerRead p (consumerAddr pg 0x4000) 2 reqId g [] false) s (fun t =>
      (t.queue q).cur = some pr ∧ (t.queue q).lists = (s.queue q).lists ∧ hostAnswered t p reqId g 0 (wordBytes (head0Of it pr)))) ∧
  (∀ p pg q reqId g s, consumerPage p pg q s → s.queueFree q → (s.queue q).faulted = false → (s.queue q).cur = none →
    (s.queue q).firstList = none → Completes (.consumerRead p (consumerAddr pg 0x4000) 2 reqId g [] false) s (fun t =>
      (t.queue q).cur = none ∧ (t.queue q).lists = (s.queue q).lists ∧ hostAnswered t p reqId g 0 (wordBytes 0#64))) ∧
  (∀ p pg q reqId pr it s, consumerPage p pg q s → s.queueFree q → (s.queue q).faulted = false → (s.queue q).cur = none →
    (s.queue q).firstList = some pr → (s.queue q).unread pr = some it → Completes (.next p (consumerAddr pg 0x4010) reqId) s (fun t =>
      ((t.queue q).list pr) = { (s.queue q).list pr with rd := ((s.queue q).list pr).rd + 1 } ∧
        (∀ x, x ≠ pr → (t.queue q).list x = (s.queue q).list x) ∧ (t.queue q).cur = none ∧
        (t.queue q).gapState = (if it.gap then 2 else (s.queue q).gapState) ∧
        ((s.queue q).passedAny = false → (t.queue q).lease = some s.now) ∧ t.qu.freed = s.qu.freed ∧ t.bridge.egress = s.bridge.egress)) ∧
  (∀ p pg q reqId s, consumerPage p pg q s → s.queueFree q → (s.queue q).faulted = false →
    Completes (.mark p (consumerAddr pg 0x4010) reqId) s (fun t =>
      (∀ x, (t.queue q).list x = { (s.queue q).list x with mkd := ((s.queue q).list x).rd }) ∧ (t.queue q).cur = (s.queue q).cur ∧
        t.qu.freed = s.qu.freed)) ∧
  (∀ p pg q reqId s, consumerPage p pg q s → s.queueFree q → (s.queue q).faulted = false →
    Completes (.rewind p (consumerAddr pg 0x4010) reqId) s (fun t =>
      (∀ x, (t.queue q).list x = { (s.queue q).list x with rd := ((s.queue q).list x).mkd }) ∧ (t.queue q).cur = none ∧
        t.qu.freed = s.qu.freed)) ∧
  (∀ p pg q reqId s, consumerPage p pg q s → s.queueFree q → (s.queue q).faulted = false → tsorted (s.queue q).lists = true →
    (s.queue q).lists.all (fun l => (l.2.items.take l.2.rd).all (fun i => !i.gap)) = true → (s.queue q).dropsHeld = 0 →
    Completes (.release p (consumerAddr pg 0x4010) reqId) s (fun t =>
      (∀ x, (t.queue q).list x = { items := ((s.queue q).list x).items.drop ((s.queue q).list x).rd, rd := 0, mkd := 0 }) ∧
        t.qu.freed = (s.queue q).lists.flatMap (fun l => (l.2.items.take l.2.rd).flatMap QItem.cells) ++ s.qu.freed ∧
        (t.queue q).cur = none ∧ (t.queue q).lease = none ∧ (t.queue q).lapsed = false)) ∧
  (∀ p pg q reqId pr l s, consumerPage p pg q s → s.queueFree q → (s.queue q).faulted = false → (s.queue q).lists = [(pr, l)] →
    (l.items.take l.rd).any QItem.gap = true → (s.queue q).dropsHeld ≠ 0 → (s.queue q).gapPrio ≠ pr →
    Completes (.release p (consumerAddr pg 0x4010) reqId) s (fun t =>
      (t.queue q).gapState = 1 ∧ (t.queue q).dropsHeld = 0 ∧ ((t.queue q).list pr).items = l.items.drop l.rd ∧
        ((t.queue q).list (s.queue q).gapPrio).items =
          [gapItem q (BitVec.ofNat 64 (s.queue q).dropsHeld) (mkFld 31 31 1) (mkFld 31 31 1)])) ∧
  (∀ q t0 c s, s.queueFree q → (s.queue q).faulted = false → tsorted (s.queue q).lists = true → (s.queue q).lease = some t0 →
    (s.queue q).lists.all (fun l => (l.2.items.take l.2.rd).all (fun i => !i.gap)) = true → (s.queue q).dropsHeld = 0 →
    (s.queue q).lists.all (fun l => decide (l.2.mkd ≤ l.2.rd)) = true → qcfg? s q = some c → c.noticeEn = false →
    Completes (.leaseExpiry q) s (fun t =>
      t.now = max s.now (t0 + c.leaseTmo * 1000000) ∧
        (∀ x, (t.queue q).list x = { items := ((s.queue q).list x).items.drop ((s.queue q).list x).mkd, rd := 0, mkd := 0 }) ∧
        (t.queue q).lapsed = true ∧ (t.queue q).lease = none ∧ (t.queue q).cur = none ∧ t.rb Reg.queueEvents 5 = true ∧
        (t.ras.inbox.getLast?).map (fun r => (r.cls, r.sev)) = some (0x62, .corrected))) ∧
  (∀ q t0 c s, s.queueFree q → (s.queue q).staleAt = some t0 → qcfg? s q = some c → c.noticeEn = false → Completes (.staleExpiry q) s (fun t =>
    t.now = max s.now (t0 + c.staleTmo * 1000000) ∧ t.queue q = { s.queue q with stale := true, staleAt := none } ∧
      t.rb Reg.queueEvents 4 = true)) ∧
  (∀ q n t0 c k s, s.queueFree q → s.queueFree n → (s.queue q).staleAt = some t0 → qcfg? s q = some c → c.noticeEn = true →
    s.assist 7 = false → c.noticeQ = n → n ≠ q → qcfg? s n = some k → (s.queue n).cells + 1 ≤ k.limit → freeCells s ≠ 0 →
    (s.queue n).faulted = false → Completes (.staleExpiry q) s (fun t =>
      (t.queue q).stale = true ∧
        (((t.queue n).list 3).items.getLast?).map (fun i => (i.prod, i.data)) = some (deviceBind, noticeData q 3 (max s.now (t0 + c.staleTmo * 1000000))) ∧
        (prodState t deviceBind).1 = ((prodState s deviceBind).1 + 1) % 2 ^ 32)) ∧
  (∀ q t0 c s, s.queueFree q → (s.queue q).staleAt = some t0 → qcfg? s q = some c → c.noticeEn = true → s.assist 7 = true →
    s.qu.notices.length < 256 → Completes (.staleExpiry q) s (fun t =>
      t.qu.notices = s.qu.notices ++ [mkFld 63 63 1 ||| mkFld 62 60 3 ||| mkFld 59 42 q |||
        mkFld 41 0 (max s.now (t0 + c.staleTmo * 1000000))])) ∧
  (∀ p pg q reqId x s, consumerPage p pg q s → queueServed s q = some false → s.qu.waits = [] → tget s.qu.busy q = some x →
    Completes (.next p (consumerAddr pg 0x4010) reqId) s (fun t =>
      t.qu = { s.qu with waits := [{ q := q, op := .cmd .next, dest := .none }] })) ∧
  (∀ p pg reqId g s, s.queuePort p → pg < 65536 → queueOfPage s (portHost s p) pg = none →
    Completes (.consumerRead p (consumerAddr pg 0x4000) 2 reqId g [] false) s (fun t =>
      ((tgetD t.bridge.egress p []).getLast?).map (·.body) = some (.tlp (.cpl .ur (Config.viewId p) reqId g 8 0 [] false)) ∧
        t.qu = s.qu ∧ t.ras.vseq = (s.ras.vseq + 1) % 2 ^ 32)) ∧
  (∀ p pg q reqId g s, consumerPage p pg q s → queueServed s q = none →
    Completes (.consumerRead p (consumerAddr pg 0x4000) 2 reqId g [] false) s (fun t =>
      ((tgetD t.bridge.egress p []).getLast?).map (·.body) = some (.tlp (.cpl .ca (Config.viewId p) reqId g 8 0 [] false)) ∧ t.qu = s.qu))

/-- R311, R316, R325: a mirrored queue's operations, a reset, and the dispatcher's selections and rounds. -/
def Obligations.QueueHomesAndRounds : Prop :=
  (∀ p pg q reqId pr s, consumerPage p pg q s → queueServed s q = some false → queueMirrored s q = true → queueHeld s q = false →
    s.qu.busy = [] → s.qu.waits = [] → (s.queue q).faulted = false → (s.queue q).cur = some pr →
    Completes (.next p (consumerAddr pg 0x4010) reqId) s (fun t =>
      t.out = s.out ++ [.twinQueueOp s.home.mirTag q (.pass pr)] ∧ t.qu.queues = s.qu.queues ∧
        t.qu.busy = [(q, { act := .mirror s.home.mirTag, op := .cmd .next, dest := .none })])) ∧
  (∀ p pg q reqId s, consumerPage p pg q s → queueServed s q = some true → Completes (.next p (consumerAddr pg 0x4010) reqId) s (fun t =>
    t.out = s.out ++ [.twinQueue s.home.mirTag q (.cmd .next)] ∧ t.qu = s.qu)) ∧
  (∀ id q p l s, s.mode.carries = true → mirrorOn s = true → (s.queue q).lists = [(p, l)] → l.rd < l.items.length →
    Completes (.mirrorQueueOp id q (.pass p)) s (fun t =>
      ((t.queue q).list p) = { l with rd := l.rd + 1 } ∧ (t.queue q).lease = none ∧ t.out = s.out ++ [.twinAck id])) ∧
  (∀ id q b w d c r s, s.mode.carries = true → mirrorOn s = true → b < deviceBind → 1 ≤ commitLen w → commitLen w ≤ 232 → s.qu.freed = c :: r →
    Completes (.mirrorQueueOp id q (.deliver b w d)) s (fun t =>
      ((t.queue q).list (commitPrio w)).items.length = ((s.queue q).list (commitPrio w)).items.length + 1 ∧
        (((t.queue q).list (commitPrio w)).items.getLast?).map (fun i => (i.cells, i.commit, i.prod)) = some ([c], w, b) ∧
        prodState t b = ((commitSeq w + 1) % 2 ^ 32, 1) ∧ t.out = s.out ++ [.twinAck id])) ∧
  (∀ p data s, writeServed p Reg.qReset (setBit data 63) s → s.queueFree (fld data 17 0) → s.rb Reg.qReset 63 = false → s.qu.opens = [] →
    Completes (.queueReset p (setBit data 63)) s (fun t =>
      t.queue (fld data 17 0) = newQueue ∧ t.rb Reg.qReset 63 = true ∧ t.qu.prods = s.qu.prods ∧
        (tget t.qu.busy (fld data 17 0)).map (·.act) = some .reset ∧
        t.qu.freed = (s.queue (fld data 17 0)).lists.flatMap (fun l =>
          (l.2.items.filter (fun i => !i.gap)).flatMap QItem.cells) ++ s.qu.freed)) ∧
  (∀ x s, s.mode.carries = true → s.qu.waits = [] → tget s.qu.busy (s.rf Reg.qReset 17 0) = some x → x.act = .reset →
    Completes .queueResetComplete s (fun t =>
      t.rb Reg.qReset 63 = false ∧ tget t.qu.busy (s.rf Reg.qReset 17 0) = none ∧ t.qu.queues = s.qu.queues)) ∧
  (∀ q r t0 s, s.mode.carries = true → tget s.qu.rounds q = some r → (s.queue q).lease = some t0 → Completes (.roundLeaseRefresh q) s (fun t =>
    t.now = max s.now r.refreshAt ∧ (t.queue q).lease = some t.now ∧
      tget t.qu.rounds q = some { r with refreshAt := r.refreshAt + 1000000 })) ∧
  (∀ c q s, s.mode.carries = true → c < 16 → clusterGone s c = false → s.tabs.dispatch = [q] → dispatchable s c q = true →
    ((List.range 8).map (· + 8 * c)).any (engFree s) = true → Completes (.dispatchSelect c) s (fun t =>
      ∃ e, e / 8 = c ∧ engFree s e = true ∧ t.mill.selections = s.mill.selections ++ [(e, q)] ∧
        (t.eng e).job = some (askedJob q s.mill.asks) ∧ t.mill.asks = s.mill.asks + 1 ∧ t.qu = s.qu)) ∧
  (∀ e q j pr it rest s, s.queueFree q → s.mill.selections = (e, q) :: rest → (s.eng e).job = some j → j.step = .selecting →
    (s.queue q).faulted = false → (s.queue q).cur = none → (s.queue q).firstList = some pr → (s.queue q).unread pr = some it →
    tget s.qu.rounds q = none → s.mill.answers = [] → Completes (.queueSelection 0) s (fun t =>
      t.mill.selections = rest ∧ t.mill.answers = [(j.ask, itemAns it pr)] ∧ ((t.queue q).list pr).rd = ((s.queue q).list pr).rd + 1 ∧
        (tget t.qu.rounds q).map (fun r => (r.count, r.ended, r.refreshAt)) = some (1, 0, s.now + 1000000))) ∧
  (∀ e q j rest s, s.queueFree q → s.mill.selections = (e, q) :: rest → (s.eng e).job = some j → j.step = .selecting →
    (s.queue q).faulted = false → (s.queue q).cur = none → (s.queue q).firstList = none → s.mill.answers = [] →
    Completes (.queueSelection 0) s (fun t =>
      t.mill.selections = rest ∧ t.mill.answers = [(j.ask, .empty)] ∧ t.qu.rounds = s.qu.rounds ∧ (t.queue q).lists = (s.queue q).lists))

/-! ## Jobs and engine events (10, 11) -/

/-- R326-R331, R333, R335, R336, R354, R358, R360, R362, R365, R368, R375, R377, R384, R388, R389: the life of a job. -/
def Obligations.EngineEvents : Prop :=
  (∀ e j0 h0 h1 d cm prod ps s, itemHere e j0 h0 h1 d cm prod ps s → (s.eng e).sb = [] → tget (s.eng e).acc accRunning = none →
    (jobOfItem s j0.queue prod j0.ask cm d).compOk = true → descOk s e (jobOfItem s j0.queue prod j0.ask cm d) cm d ps = false →
    Completes (.descriptorReceived e) s (fun t => recordWritten e 3 t ∧ t.rb Reg.millEvents 0 = true ∧
      t.mill.answers = s.mill.answers.filter (fun x => x.1 != j0.ask))) ∧
  (∀ e j0 h0 h1 d cm prod ps s, itemHere e j0 h0 h1 d cm prod ps s → (s.eng e).sb = [] → tget (s.eng e).acc accRunning = none →
    descOk s e (jobOfItem s j0.queue prod j0.ask cm d) cm d ps = true →
    versionFor s (jobOfItem s j0.queue prod j0.ask cm d).program (jobOfItem s j0.queue prod j0.ask cm d).version = none →
    Completes (.descriptorReceived e) s (fun t => recordWritten e 4 t ∧ t.rb Reg.millEvents 1 = true)) ∧
  (∀ e j0 h0 h1 d cm prod ps s, itemHere e j0 h0 h1 d cm prod ps s → descOk s e (jobOfItem s j0.queue prod j0.ask cm d) cm d ps = true →
    (versionFor s (jobOfItem s j0.queue prod j0.ask cm d).program (jobOfItem s j0.queue prod j0.ask cm d).version).isSome = true →
    s.assist 8 = true → s.mill.windows.any (fun w => w.half == j0.queue % 2 && w.tag == s.mill.tag % 256) = false →
    Completes (.descriptorReceived e) s (fun t =>
      t.mill.windows = s.mill.windows ++
        [{ half := j0.queue % 2, tag := s.mill.tag % 256, eng := e, deadline := s.now + s.rf Reg.millCtl 47 32 * 1000 }] ∧
      tgetD t.mill.posts (j0.queue % 2) [] = tgetD s.mill.posts (j0.queue % 2) [] ++
        [mkFld 63 63 1 ||| mkFld 62 55 (s.mill.tag % 256) ||| mkFld 54 48 e |||
          mkFld 47 36 (jobOfItem s j0.queue prod j0.ask cm d).program ||| mkFld 35 18 j0.queue ||| mkFld 17 0 prod] ∧
      ((t.eng e).job.map (·.step)) = some .deciding ∧ (t.eng e).st = (s.eng e).st)) ∧
  (∀ e j0 h0 h1 d cm prod ps v s, itemHere e j0 h0 h1 d cm prod ps s → descOk s e (jobOfItem s j0.queue prod j0.ask cm d) cm d ps = true →
    versionFor s (jobOfItem s j0.queue prod j0.ask cm d).program (jobOfItem s j0.queue prod j0.ask cm d).version = some v →
    s.assist 8 = false → s.mill.holds = [] → Completes (.descriptorReceived e) s (fun t =>
      (t.eng e).st = 1 ∧
        (t.eng e).job = some { jobOfItem s j0.queue prod j0.ask cm d with
          step := .probe, version := v.version, entry := v.entry, evec := BitVec.ofNat 64 v.evec, startAt := s.now } ∧
        (tget (t.eng e).acc accProbe).map (fun a => (a.addr, a.write)) =
          some (recordAddr (jobOfItem s j0.queue prod j0.ask cm d) / 64 * 64, none) ∧
        (∀ q ∈ jobStreams (jobOfItem s j0.queue prod j0.ask cm d), tget t.mill.holds q = some e))) ∧
  (∀ e j0 d cm prod r h0 h1 ps s, jobAt e j0 .selecting s → clusterGone s (e / 8) = false →
    s.mill.answers = [(j0.ask, .item h0 h1 d cm prod true ps)] → tget s.qu.rounds j0.queue = some r → r.ended + 1 ≠ r.count →
    Completes (.descriptorReceived e) s (fun t =>
      (t.eng e).st = 0 ∧ (t.eng e).job = none ∧ tget t.qu.rounds j0.queue = some { r with ended := r.ended + 1 } ∧
        t.qu.queues = s.qu.queues)) ∧
  (∀ w j v s, s.mill.windows = [w] → jobAt w.eng j .deciding s → versionFor s j.program j.version = some v →
    (jobStreams j).all (fun q => (tget s.mill.holds q).isNone) = true → Completes (.dispatchTimeout w.half w.tag) s (fun t =>
      t.now = max s.now w.deadline ∧ t.mill.windows = [] ∧ t.rb Reg.millEvents 5 = true ∧ (t.eng w.eng).st = 1 ∧
        ((t.eng w.eng).job.map (fun k => (k.step, k.version))) = some (.probe, v.version))) ∧
  (∀ p n data w j s, n < 2 → writeServed p (Reg.dispatchResp n) data s → s.mill.windows = [w] → w.half = n → w.tag = fld data 55 48 →
    bitAt data 63 = true → bitAt data 62 = true → jobAt w.eng j .deciding s → j.compOk = true → (s.eng w.eng).sb = [] →
    tget (s.eng w.eng).acc accRunning = none → Completes (.dispatchRespWrite p n data) s (fun t =>
      recordWritten w.eng 5 t ∧ t.mill.windows = [] ∧ t.rb Reg.millEvents 9 = true)) ∧
  (∀ p n data w j v s, n < 2 → writeServed p (Reg.dispatchResp n) data s → s.mill.windows = [w] → w.half = n → w.tag = fld data 55 48 →
    bitAt data 63 = true → bitAt data 62 = false → jobAt w.eng j .deciding s → fld data 6 0 ≠ w.eng → mayMove s w.eng (fld data 6 0) = true →
    versionFor s j.program j.version = some v → (jobStreams j).all (fun q => (tget s.mill.holds q).isNone) = true →
    Completes (.dispatchRespWrite p n data) s (fun t =>
      (t.eng (fld data 6 0)).st = 1 ∧ ((t.eng (fld data 6 0)).job.map (fun k => (k.step, k.seq))) = some (.probe, j.seq) ∧
        (t.eng w.eng).job = none ∧ (t.eng w.eng).st = 0 ∧ t.mill.windows = [])) ∧
  (∀ e j s, jobAt e j .holds s → (jobStreams j).all (fun q => (tget s.mill.holds q).isNone) = true → Completes (.streamHoldAcquired e) s (fun t =>
    (∀ q ∈ jobStreams j, tget t.mill.holds q = some e) ∧ (t.eng e).job = some { j with step := .probe, startAt := s.now } ∧
      (tget (t.eng e).acc accProbe).map (fun a => (a.st, a.addr, a.write)) = some (.port, recordAddr j / 64 * 64, none))) ∧
  (∀ e j d s, jobAt e j .probe s → accAnswer s e accProbe = some (none, d, false) → bitAt (recordWord j d) 63 = true →
    fld (recordWord j d) 49 32 = j.prod → fld (recordWord j d) 31 0 = j.seq → tget s.qu.rounds j.queue = none →
    Completes (.recordProbeReturn e) s (fun t =>
      (t.eng e).st = 0 ∧ (t.eng e).job = none ∧ t.rb Reg.millEvents 4 = true ∧ (∀ h ∈ t.mill.holds, h.2 ≠ e) ∧
        (t.eng e).acc = terase (s.eng e).acc accProbe ∧ t.home.mem = s.home.mem)) ∧
  (∀ e j k d p s, jobAt e j .probe s → accAnswer s e accProbe = some (k, d, p) → (k ≠ (none : Option ErrKind) ∨ bitAt (recordWord j d) 63 = false) →
    Completes (.recordProbeReturn e) s (fun t =>
      (t.eng e).job = some { j with step := .start } ∧ tget (t.eng e).acc accProbe = none ∧
        (tget (t.eng e).acc accRunning).map (fun a => (a.st, a.addr, a.write)) =
          some (.port, recordAddr j / 64 * 64, some (wordAt (recordAddr j % 64) (recordWord0 false stRunning j))))) ∧
  (∀ e j d p s, jobAt e j .start s → accAnswer s e accRunning = some (none, d, p) → j.keepBench = false → j.args.length = 8 →
    Completes (.jobBegin e) s (fun t =>
      t.now = max s.now (j.startAt + 2276) ∧ (t.eng e).st = 2 ∧ (t.eng e).bench = inputCopy j [] ∧ (t.eng e).arch.pc = j.entry ∧
        (t.eng e).arch.evec = j.evec ∧ (t.eng e).arch.gr 31 = j.stack ∧ (∀ i, i < 8 → (t.eng e).arch.gr (i + 1) = j.args.getD i 0#64) ∧
        (∀ r, r = 0 ∨ (9 ≤ r ∧ r ≤ 30) → (t.eng e).arch.gr r = 0#64) ∧ (t.eng e).arch.status = 0#64 ∧ (t.eng e).arch.mode = 0#64 ∧
        (t.eng e).arch.v = [] ∧ (t.eng e).job = some { j with
          step := .running, beginAt := t.now, readEn := j.cntRead && bitAt s.tabs.engineAccess j.host })) ∧
  (∀ e j d p s, jobAt e j .record s → accAnswer s e accRecord = some (none, d, p) → Completes (.recordWriteAck e) s (fun t =>
    (t.eng e).job = some { j with step := .valid } ∧
      (tget (t.eng e).acc accValid).map (fun a => (a.st, a.addr, a.write)) =
        some (.port, recordAddr j / 64 * 64, some (wordAt (recordAddr j % 64) (recordWord0 true j.status j))))) ∧
  (∀ e j d p s, jobAt e j .valid s → accAnswer s e accValid = some (none, d, p) → tget s.qu.rounds j.queue = none → s.mill.holds = [] →
    e < 128 → Completes (.recordWriteAck e) s (fun t =>
      (t.eng e).st = (if j.halts then 3 else 0) ∧ (t.eng e).job = none ∧ t.rb (Reg.engCtl e) 2 = false ∧
        (j.halts = true → (t.eng e).spill.map (fun x => (x.1, x.2.1)) = some ((s.eng e).arch, (s.eng e).bench)))) ∧
  (∀ e j d p r l s, jobAt e j .valid s → accAnswer s e accValid = some (none, d, p) → s.mill.holds = [] → s.queueFree j.queue →
    tget s.qu.rounds j.queue = some r → r.ended + 1 = r.count → r.rewind = false → (s.queue j.queue).faulted = false →
    (s.queue j.queue).lists = [(0, l)] → l.items.any QItem.gap = false → (s.queue j.queue).dropsHeld = 0 →
    Completes (.recordWriteAck e) s (fun t =>
      tget t.qu.rounds j.queue = none ∧ (t.queue j.queue).list 0 = { items := l.items.drop l.rd, rd := 0, mkd := 0 } ∧
        t.qu.freed = (l.items.take l.rd).flatMap QItem.cells ++ s.qu.freed)) ∧
  (∀ e j s, jobRuns e j s → (s.eng e).st = 2 → j.wdogFired = false → (s.eng e).flights = [] → (s.eng e).sb = [] → (s.eng e).wait = .none →
    (s.eng e).arch.slot = none → (s.eng e).arch.hnd = false → stackOk ((s.eng e).arch.gr 31).toNat 0x40000 = true →
    Completes (.jobWatchdogExpiry e) s (fun t =>
      let a := (s.eng e).arch
      t.now = max s.now (j.beginAt + cyclesNs ((if j.wdog = 0 then 2 ^ 32 else j.wdog) * 1024)) ∧
        (t.eng e).arch.pc = a.evec.toNat + 0x200 ∧ (t.eng e).arch.cause = 8#64 ∧ (t.eng e).arch.epc = mkFld 17 0 a.pc ∧
        (t.eng e).arch.faultAddr = 0#64 ∧ (t.eng e).arch.hnd = true ∧ (t.eng e).arch.gr 31 = a.gr 31 - 64#64 ∧
        (∀ r, r ≠ 31 → (t.eng e).arch.gr r = a.gr r) ∧ ((t.eng e).job.bind (·.grace)) = some t.now ∧
        (t.eng e).bench = benchWords ((a.gr 31).toNat - 64)
          [mkFld 17 0 a.pc, a.status, 8#64, 0#64, a.loop0, a.loop1, a.gr 1, a.gr 2] (s.eng e).bench)) ∧
  (∀ e j t0 s, jobRuns e j s → (s.eng e).st = 2 → j.grace = some t0 → j.compOk = true → (s.eng e).flights = [] → (s.eng e).sb = [] →
    tget (s.eng e).acc accRunning = none → Completes (.watchdogGraceExpiry e) s (fun t =>
      t.now = max s.now (t0 + 36409) ∧ recordWritten e 2 t ∧ ((t.eng e).job.map (fun k => (k.code, k.halts))) = some (8, false) ∧
        t.rb Reg.millEvents 2 = true ∧ (t.eng e).shadow.epc = mkFld 17 0 (s.eng e).arch.pc ∧ bitAt (t.eng e).shadow.info 63 = true)) ∧
  (∀ p e j s, e < 128 → writeServed p (Reg.engCtl e) (keepSet (Reg.engCtl e) 4#64 s) s → jobAt e j .probe s → (s.eng e).st = 1 →
    j.compOk = true → (s.eng e).sb = [] → tget (s.eng e).acc accRunning = none → (s.eng e).flights = [] →
    Completes (.engAbort p e) s (fun t => recordWritten e 6 t ∧ t.rb Reg.millEvents 3 = true)) ∧
  (∀ p e j s, e < 128 → writeServed p (Reg.engCtl e) (keepSet (Reg.engCtl e) 4#64 s) s → jobRuns e j s → (s.eng e).st = 2 →
    j.compOk = true → (s.eng e).sb = [] → tget (s.eng e).acc accRunning = none → (s.eng e).flights = [] → (s.eng e).wait = .none →
    (s.eng e).arch.slot = none → Completes (.engAbort p e) s (fun t => recordWritten e 6 t ∧ t.rb Reg.millEvents 3 = true)) ∧
  (∀ e s, s.mode.carries = true → (s.eng e).st = 3 → (s.eng e).resume = false → Completes (.spillDumpDone e) s (fun t =>
    bitAt (t.eng e).shadow.info 62 = true ∧ (t.eng e).st = 3 ∧ (t.eng e).spill = (s.eng e).spill)) ∧
  (∀ p e s, e < 128 → writeServed p (Reg.shCtl e) (keepSet (Reg.shCtl e) 1#64 s) s → s.mode.carries = true → (s.eng e).st = 3 →
    bitAt (s.eng e).shadow.info 62 = true → Completes (.engineResume p e) s (fun t =>
      (t.eng e).st = 0 ∧ bitAt (t.eng e).shadow.info 63 = false)) ∧
  (∀ e j line s, jobRuns e j s → (s.eng e).wait = .fetch line → Completes (.icacheFillComplete e) s (fun t =>
    (t.eng e).wait = .none ∧ icHit t (e / 8) j.program j.version line = true ∧ (t.eng e).arch = (s.eng e).arch)) ∧
  (∀ e j f k a d s, jobRuns e j s → f.id < 16 → (s.eng e).flights = [f] → f.kind = some k → tget (s.eng e).acc f.id = some a →
    a.dropped = false → accAnswer s e f.id = some (none, d, false) → Completes (.farLoadComplete e f.id) s (fun t =>
      (t.eng e).arch = (s.eng e).arch.setG f.rd (loadVal k (lineNat (lineMerge d f.fwdLine f.overMask) (f.eaddr % 64) (loadBytes k))) ∧
        (t.eng e).flights = [] ∧ tget (t.eng e).acc f.id = none)) ∧
  (∀ e j f a k d p s, jobRuns e j s → f.id < 16 → (s.eng e).flights = [f] → tget (s.eng e).acc f.id = some a → a.dropped = false →
    accAnswer s e f.id = some (k, d, p) → (k.isSome || p) = true → (s.eng e).sb = [] → (s.eng e).wait = .none → f.before.slot = none →
    f.before.hnd = false → stackOk (f.before.gr 31).toNat 0x40000 = true → Completes (.farLoadComplete e f.id) s (fun t =>
      (t.eng e).arch.epc = mkFld 17 0 f.before.pc ∧ (t.eng e).arch.faultAddr = BitVec.ofNat 64 f.eaddr ∧
        (t.eng e).arch.cause = (if k = some .violation then 5#64 else 6#64) ∧
        (t.eng e).arch.pc = f.before.evec.toNat + (if k = some .violation then 5 else 6) * 64 ∧
        (∀ r, r ≠ 31 → (t.eng e).arch.gr r = f.before.gr r) ∧ (t.eng e).flights = [])) ∧
  (∀ e b s, s.mode.carries = true → (s.eng e).sb = [b] → b.issued = false → tget (s.eng e).acc b.id = none → Completes (.storeBufferIssue e 0) s (fun t =>
    (tget (t.eng e).acc b.id).map (fun a => (a.st, a.addr, a.write)) = some (.port, b.line / 64 * 64, some (b.data, b.mask)) ∧
      (t.eng e).sb = [{ b with issued := true }] ∧
      ((b.mask = fullMask ∨ drainDue s e = true) → t.now = s.now) ∧
      (b.mask ≠ fullMask → drainDue s e = false → t.now = max s.now (b.at_ + 18)))) ∧
  (∀ e j b d p s, jobRuns e j s → (s.eng e).sb = [b] → b.device = false → (s.eng e).wait = .none →
    accAnswer s e b.id = some (none, d, p) → Completes (.storeAck e b.id) s (fun t =>
      (t.eng e).sb = [] ∧ tget (t.eng e).acc b.id = none ∧ (t.eng e).arch = (s.eng e).arch ∧ (t.eng e).job = some j)) ∧
  (∀ e j b k d p s, jobRuns e j s → (s.eng e).sb = [b] → b.device = false → (s.eng e).wait = .none →
    (s.eng e).flights = [] → (s.eng e).arch.slot = none → j.compOk = true → tget (s.eng e).acc accRunning = none →
    accAnswer s e b.id = some (some k, d, p) → Completes (.storeError e b.id) s (fun t =>
      recordWritten e 2 t ∧ t.rb Reg.millEvents 2 = true ∧
        ((t.eng e).job.map (fun x => (x.code, x.res1))) =
          some ((if k = .violation then 5 else 6), BitVec.ofNat 64 (b.eline + lowByte b.mask)))) ∧
  (∀ e j t0 s, jobRuns e j s → (s.eng e).wait = .sleep t0 → Completes (.waitHExpiry e) s (fun t =>
    t.now = max s.now t0 ∧ (t.eng e).wait = .none ∧ (t.eng e).arch = (s.eng e).arch)) ∧
  (∀ e j n rd slot v s, jobRuns e j s → (s.eng e).wait = .queue n (some rd) none slot → s.mill.answers = [(n, .value v)] →
    Completes (.queueInstructionAnswer e) s (fun t =>
      (t.eng e).arch = stepPc ((s.eng e).arch.setG rd v) ∧ (t.eng e).wait = .none ∧ t.mill.answers = [] ∧
        (t.eng e).bench = (s.eng e).bench)) ∧
  (∀ e j n rd b slot h0 h1 d c pr ga po s, jobRuns e j s → (s.eng e).wait = .queue n (some rd) (some b) slot →
    s.mill.answers = [(n, .item h0 h1 d c pr ga po)] → Completes (.queueInstructionAnswer e) s (fun t =>
      (t.eng e).arch = stepPc ((s.eng e).arch.setG rd h0) ∧ (t.eng e).wait = .none ∧
        (t.eng e).bench = benchWords b ([h0, h1] ++ d) (s.eng e).bench)) ∧
  (∀ e j n rd b slot k s, jobRuns e j s → (s.eng e).wait = .queue n rd b slot → s.mill.answers = [(n, .error k)] → (s.eng e).flights = [] →
    (s.eng e).sb = [] → (s.eng e).arch.slot = none → (s.eng e).arch.hnd = false → stackOk ((s.eng e).arch.gr 31).toNat 0x40000 = true →
    Completes (.queueInstructionAnswer e) s (fun t =>
      (t.eng e).arch.epc = mkFld 17 0 (s.eng e).arch.pc ∧ (t.eng e).arch.faultAddr = BitVec.ofNat 64 ((slot + 1) * 2 ^ 56) ∧
        (t.eng e).arch.cause = (if k = .violation then 5#64 else 6#64) ∧ (t.eng e).bench =
          benchWords (((s.eng e).arch.gr 31).toNat - 64) [mkFld 17 0 (s.eng e).arch.pc, (s.eng e).arch.status, (t.eng e).arch.cause,
            (t.eng e).arch.faultAddr, (s.eng e).arch.loop0, (s.eng e).arch.loop1, (s.eng e).arch.gr 1, (s.eng e).arch.gr 2] (s.eng e).bench))

/-! ## Twin pairs (14) -/

/-- R445-R448, R450, R451, R453, R455-R461, R463, R467, R468, R470: formation, syncs, heartbeats, the alive pin, the loss of the link or of
the partner, takeover, moves, dissolution. -/
def Obligations.PairEvents : Prop :=
  (∀ m c s, s.pair.present = true → (s.pair.state = .waiting ∨ s.pair.state = .linkLost) → twinUp s ≠ [] →
    ((m.pairId ≠ s.pair.pairId ∧ c = 1) ∨ (m.pairId = s.pair.pairId ∧ m.member = s.pair.member ∧ c = 2) ∨
      (m.pairId = s.pair.pairId ∧ m.member ≠ s.pair.member ∧ m.digest ≠ s.pair.digest ∧ c = 3) ∨
      (m.pairId = s.pair.pairId ∧ m.member ≠ s.pair.member ∧ m.digest = s.pair.digest ∧
        (List.range 2).any (fun k => s.pair.claimed.getD k false && m.claims.testBit k) = true ∧ c = 4)) →
    Completes (.formationMessage m) s (fun t =>
      t.pair = { s.pair with state := .waiting, formCause := c } ∧ t.rb Reg.pairEvents 1 = true ∧ t.mode = s.mode ∧
        (t.ras.inbox.getLast?).map (fun r => (r.cls, r.sev)) = some (0xA0, .corrected))) ∧
  (∀ m s, s.pairIdle → (s.pair.state = .waiting ∨ s.pair.state = .linkLost) → twinUp s ≠ [] → m.pairId = s.pair.pairId →
    m.member ≠ s.pair.member → m.digest = s.pair.digest → s.pair.claimed = [false, false] → m.claims = 0 → s.mode = .solo →
    s.alm.degCauses = 0#4 → Completes (.formationMessage m) s (fun t =>
      t.pair.state = .formed ∧ t.pair.formCause = 0 ∧ t.pair.holder = [0, 1] ∧ t.pair.copy = [.current, .current] ∧
        t.pair.peerStale = [false, false] ∧ t.mode = .paired ∧ t.rb Reg.pairEvents 0 = true ∧
        (s.tick.num < m.tickNum → t.pair.takeTick = some (m.tickNum, m.tickPublished)))) ∧
  (∀ m s, s.pairIdle → s.pair.state = .waiting → twinUp s ≠ [] → m.pairId = s.pair.pairId → s.pair.member = 1 → m.member = 0 →
    m.digest = s.pair.digest → s.pair.claimed = [false, false] → m.claims = 1 → m.stale = 1 → Completes (.formationMessage m) s (fun t =>
      t.pair.state = .syncing ∧ t.pair.holder = [0, 1] ∧ t.pair.copy = [.syncing, .current] ∧ t.pair.syncSet = some 0 ∧ t.mode = s.mode)) ∧
  (∀ m c s, s.mode = .solo → s.pair.state = .syncing → s.pair.syncSet = some m → m < 2 → s.pair.holder = [m, m] → s.pair.member = m →
    s.pair.peerStale = [true, true] → Completes (.pairSyncComplete m c) s (fun t =>
      t.pair.peerStale = (if m = 0 then [false, true] else [true, false]) ∧ .twinCopy m (setCopy s m) ∈ t.out ∧
        t.rb Reg.pairEvents 8 = true ∧ t.pair.state = .syncing ∧ t.pair.syncSet = some (1 - m))) ∧
  (∀ m l d p s, s.mode = .solo → s.alm.degCauses = 0#4 → s.pair.state = .syncing → s.pair.syncSet = some m → m < 2 →
    s.pair.holder = [1 - s.pair.member, 1 - s.pair.member] → s.pair.member < 2 → s.pair.copy = [.syncing, .syncing].set (1 - m) .current →
    lineSet s l = some m → setQueues s m = [] →
    Completes (.pairSyncComplete m { lines := [(l, d, p)], sf := [], slot1 := [], tags := [], base := [], staged := [], queues := [], prods := [] }) s
      (fun t => readHbm t (poolHline s l) = d ∧ isPoisoned t (poolHline s l) = p ∧ t.pair.copy = [.current, .current] ∧
        t.pair.state = .formed ∧ t.mode = .paired)) ∧
  (∀ instant s, s.mode.carries = true → s.quiet → s.tick.running = true → followsPartner s = true → s.tick.committing = false →
    s.tick.early = [] → s.alm.armed = none → s.alm.splitPending = none → s.pair.takeTick = none → Completes (.boundaryMessage instant none) s (fun t =>
      t.now = max s.now instant ∧ t.tick.num = s.tick.num + 1 ∧ t.tick.committing = true ∧ t.tick.closed = s.tick.open_ ∧
        t.tick.open_ = [] ∧ t.tick.lastBoundary = t.now)) ∧
  (∀ instant n k s, s.mode.carries = true → s.quiet → s.tick.running = true → followsPartner s = true → s.tick.committing = false →
    s.alm.armed = none → s.alm.splitPending = none → s.pair.takeTick = some (n, k) → Completes (.boundaryMessage instant none) s (fun t =>
      t.tick.num = n + 1 ∧ t.tick.published = n - 1 ∧ t.pair.takeTick = none)) ∧
  (∀ id q s, s.queueFree q → mirrorOn s = true → s.pair.waitUntil = none → s.bridge.waiting = [] → (s.queue q).faulted = false →
    (s.queue q).cur = none → (s.queue q).firstList = none → Completes (.forwardedRequest id (.queue q .pop)) s (fun t =>
      t.out = s.out ++ [.twinQueueAns id .empty] ∧ (t.queue q).lists = (s.queue q).lists)) ∧
  (∀ id h a d n op s, s.mode.carries = true → mirrorOn s = true → s.pair.waitUntil = none → s.bridge.waiting = [] →
    canAlloc s (2 * ((s.portsOf 5).headD 0 / 64)) .general 1 = false → canAlloc s (2 * ((s.portsOf 5).headD 0 / 64) + 1) .general 1 = false →
    Completes (.forwardedRequest id (.mem h a d true n op)) s (fun t =>
      t.bridge.waiting.map Prod.snd = [.fwd id h a d true n (fwdOpOf op)] ∧ t.bridge.trks = s.bridge.trks)) ∧
  (∀ s, s.pair.present = true → s.mode.beats = true → Completes .heartbeatSend s (fun t =>
    t.now % 1000 = 0 ∧ s.now ≤ t.now ∧ s.pair.beatAt < t.now ∧ t.now ≤ max s.now (s.pair.beatAt + 1) + 999 ∧ t.pair = { s.pair with beatAt := t.now } ∧
      ∃ l, t.out = s.out ++ l ∧ l.length = (twinUp s).length ∧
        ∀ x ∈ l, ∃ trip links, x = .twinHeartbeat { dtb := t.now, roundTrip := trip, mode := s.mode.code, hostLinks := links })) ∧
  (∀ h s, s.pair.present = true → twinUp s ≠ [] → s.pairIdle → Completes (.heartbeatReceived h) s (fun t =>
    t.pair = { s.pair with
      missRun := 0, lastBeat := s.now, dtbOffset := ((h.dtb + h.roundTrip / 2 : Nat) : Int) - (s.now : Nat),
      partnerMode := some (h.mode % 16), partnerLinks := h.hostLinks })) ∧
  (∀ s, s.pair.present = true → s.mode.beats = true → s.pair.missRun < 3 → Completes .heartbeatMiss s (fun t =>
    t.now % 1000 = 0 ∧ max s.now (s.pair.lastBeat + 1000) ≤ t.now ∧ s.pair.missAt < t.now ∧
      t.pair = { s.pair with missRun := s.pair.missRun + 1, missAt := t.now })) ∧
  (∀ s, s.pair.present = true → s.mode.beats = true → s.pair.missRun = 3 → (s.pair.state = .formed ∨ s.pair.state = .syncing) →
    s.pair.waitUntil = none → s.pair.aliveIn = true → s.pair.pinSuspect = false → Completes .heartbeatMiss s (fun t =>
      t.pair = { s.pair with missRun := 4, missAt := t.now, waitUntil := some (t.now + 2000) } ∧ t.mode = s.mode)) ∧
  (∀ s, s.pairIdle → s.mode = .paired → s.pair.missRun = 3 → s.pair.state = .formed → s.pair.waitUntil = none → s.pair.aliveIn = false →
    s.pair.pinSuspect = false → s.pair.member = 1 → s.pair.holder = [0, 1] → s.pair.copy.getD 0 .stale = .stale → Completes .heartbeatMiss s (fun t =>
      t.pair.state = .partnerLost ∧ t.pair.holder = [2, 1] ∧ t.pair.tkOffline = 1 ∧ t.mode = .solo ∧ t.rb Reg.pairEvents 5 = true ∧
        t.ras.inbox.any (fun r => decide (r.cls = 0xA2 ∧ r.sev = .contained)) = true ∧
        t.ras.inbox.any (fun r => decide (r.cls = 0xA5 ∧ r.sev = .contained)) = true)) ∧
  (∀ s, s.pwr.auxGood = true → s.mode.loadToHalt = true → s.mode ≠ .halt → Completes .twinAliveToggle s (fun t =>
    t.now % 500 = 0 ∧ t.pair = { s.pair with toggleAt := t.now, aliveOut := !s.pair.aliveOut })) ∧
  (∀ s, s.pwr.auxGood = true → (s.mode.loadToHalt = false ∨ s.mode = .halt) → Completes .twinAliveToggle s (fun t =>
    t = { s with pair.aliveOut := false })) ∧
  (∀ s, s.pwr.auxGood = true → s.pair.present = true → s.pair.aliveIn = true → s.pair.waitUntil = none → twinLost s = false →
    s.pair.pinSuspect = false → Completes .twinAliveStop s (fun t =>
      t.pair = { s.pair with aliveIn := false, pinSuspect := true } ∧ t.rb Reg.pairEvents 4 = true ∧ t.mode = s.mode ∧
        (t.ras.inbox.getLast?).map (fun r => (r.cls, r.sev)) = some (0xA4, .corrected))) ∧
  (∀ t0 s, s.pwr.auxGood = true → s.pairIdle → s.pair.aliveIn = true → s.pair.waitUntil = some t0 → s.pair.pinSuspect = false →
    s.mode = .paired → s.pair.member = 1 → s.pair.holder = [0, 1] → s.pair.copy = [.current, .current] → s.assist 10 = false →
    s.pair.peerStale = [false, false] → Completes .twinAliveStop s (fun t =>
      t.mode = .takeover ∧ t.pair.state = .partnerLost ∧ t.pair.holder = [1, 1] ∧ t.pair.peerStale = [true, false] ∧ t.pair.tkSets = 1 ∧
        t.pair.waitUntil = none ∧ t.rb Reg.pairEvents 5 = true)) ∧
  (∀ t0 s, s.pwr.auxGood = true → s.pairIdle → s.pair.aliveIn = true → s.pair.waitUntil = some t0 → s.pair.pinSuspect = false →
    s.mode = .paired → s.pair.member = 1 → s.pair.holder = [0, 1] → s.pair.copy = [.current, .current] → s.assist 10 = true →
    Completes .twinAliveStop s (fun t =>
      t.mode = .paired ∧ t.pair.state = .partnerLost ∧ t.pair.holder = [0, 1] ∧ t.pair.tkOpen = some (s.pair.tkTag % 256, 1) ∧
        t.pair.tkPost = some (mkFld 63 63 1 ||| mkFld 62 55 (s.pair.tkTag % 256) ||| mkFld 43 42 1 ||| mkFld 41 0 s.now) ∧ t.pair.tkSets = s.pair.tkSets)) ∧
  (∀ s, s.pwr.auxGood = true → s.pair.present = true → s.pair.aliveIn = false → s.pair.formCause = 0 → s.pair.state = .waiting →
    twinUp s ≠ [] → Completes .twinAliveResume s (fun t =>
      t = { s with pair.aliveIn := true, out := s.out ++ [.twinForm (formMsg s)] })) ∧
  (∀ t0 s, s.pairIdle → s.pair.waitUntil = some t0 → s.mode = .paired → s.alm.degCauses = 0#4 → s.pair.member < 2 →
    s.pair.holder = [0, 1] → Completes .lossDecisionWaitEnd s (fun t =>
      t.now = max s.now t0 ∧ t.pair.state = .linkLost ∧ t.pair.waitUntil = none ∧ t.pair.holder = [0, 1] ∧
        t.pair.copy = (if s.pair.member = 0 then [.current, .stale] else [.stale, .current]) ∧ t.mode = .degraded ∧ t.alm.degCauses = 8#4 ∧
        t.rb Reg.pairEvents 3 = true)) ∧
  (∀ p data tag s, writeServed p Reg.takeoverResp data s → s.pairIdle → s.mode = .paired → bitAt data 63 = true → bitAt data 62 = true →
    s.pair.tkOpen = some (tag, 1) → fld data 55 48 = tag → s.pair.member = 1 → s.pair.holder = [0, 1] → s.pair.copy = [.current, .current] →
    s.pair.state = .partnerLost → Completes (.takeoverRespWrite p data) s (fun t =>
      t.mode = .takeover ∧ t.pair.holder = [1, 1] ∧ t.pair.tkOpen = none ∧ t.pair.tkPost = none ∧ t.pair.tkSets = 1)) ∧
  (∀ p data tag s, writeServed p Reg.takeoverResp data s → s.pairIdle → s.mode = .paired → bitAt data 63 = true → bitAt data 62 = false →
    s.pair.tkOpen = some (tag, 1) → fld data 55 48 = tag → s.pair.member = 1 → s.pair.holder = [0, 1] → s.pair.offline = [false, false] →
    Completes (.takeoverRespWrite p data) s (fun t =>
      t.mode = .solo ∧ t.pair.holder = [2, 1] ∧ t.pair.offline = [true, false] ∧ t.pair.tkOpen = none ∧ t.rb Reg.pairEvents 7 = true)) ∧
  (∀ p data s, writeServed p Reg.takeoverResp data s → s.pair.present = true → bitAt data 63 = true → (s.pair.tkOpen.map Prod.fst) ≠ some (fld data 55 48) →
    Completes (.takeoverRespWrite p data) s (fun t => t.pair = s.pair ∧ t.mode = s.mode ∧ t.rb Reg.pairEvents 10 = true)) ∧
  (∀ s, s.mode.carries = true → s.pair.tkSets ≠ 0 → s.pair.tkReady = none → Completes .takeoverReady s (fun t =>
    t.pair = { s.pair with
      tkReady := some s.now, readyNs := min (s.now - s.pair.tkDecided) (2 ^ 32 - 1), tkUntil := some (s.now + 18000) } ∧
      t.rb Reg.pairEvents 6 = true ∧ (t.ras.inbox.getLast?).map (fun r => (r.cls, r.sev)) = some (0xA3, .deferred) ∧
      (∀ p ∈ (List.range 64).filterMap s.hostUpPort ++ (s.portsOf 4).filter s.linkIsUp,
        .takeoverNotice p (fld (s.rd Reg.deviceId) 15 0) s.pair.pairId (1 - s.pair.member) s.pair.tkSets s.pair.tkOffline ∈ t.out))) ∧
  (∀ t0 s, s.pair.tkUntil = some t0 → s.tick.running = false → s.mode = .takeover → s.alm.swap = .idle → s.alm.drainPending = false →
    Completes .takeoverEnd s (fun t =>
      t.now = max s.now t0 ∧ t.mode = returnMode s ∧ t.pair = { s.pair with tkSets := 0, tkReady := none, tkUntil := none })) ∧
  (∀ port pbr old q k tr s, s.mode.carries = true → s.role port = 4 → s.linkIsUp port = true →
    s.pair.twins.find? (fun e => e.2 == pbr) = some (old, pbr) → s.bridge.trks = [(k, tr)] → tr.target = .isl q old → tr.also = none → tr.ans = none → tr.st = .issued →
    Completes (.islTakeoverNotice port pbr) s (fun t =>
      t = { s with bridge.trks := [(k, { tr with st := .wait, target := .isl port pbr })] })) ∧
  (∀ p s, writeServed p Reg.pairCtl (keepSet Reg.pairCtl 8#64 s) s → s.pair.present = true → twinLost s = false → s.pair.aliveIn = true →
    Completes (.pinClear p) s (fun t => t.pair = { s.pair with pinSuspect := false })) ∧
  (∀ p s, writeServed p Reg.pairCtl (keepSet Reg.pairCtl 2#64 s) s → s.pair.present = true → s.pair.moveSet = none →
    mayMoveSet s (s.rf Reg.pairCtl 8 8) = true → Completes (.moveGo p) s (fun t =>
      t.rb Reg.pairCtl 1 = true ∧ t.pair = { s.pair with moveSet := some (s.rf Reg.pairCtl 8 8, s.tick.num) })) ∧
  (∀ p s, writeServed p Reg.pairCtl (keepSet Reg.pairCtl 2#64 s) s → s.pair.present = true → s.pair.moveSet = none → s.pair.state ≠ .formed →
    Completes (.moveGo p) s (fun t => t.rb Reg.pairCtl 1 = false ∧ t.pair = s.pair)) ∧
  (∀ m n s, s.mode = .paired → s.pairIdle → s.pair.moveSet = some (m, n) → n ≤ s.tick.published → m < 2 → setBusy s m = false →
    setWaiters s m = [] → s.pair.member < 2 → s.pair.holder = [s.pair.member, s.pair.member] → s.pair.copy = [.stale, .stale] →
    Completes .setMoveExecute s (fun t =>
      t.pair.holder = [s.pair.member, s.pair.member].set m (1 - s.pair.member) ∧ t.pair.copy = [.stale, .stale].set m .current ∧
        t.pair.moveSet = none ∧ .twinMove m ∈ t.out ∧ t.rb Reg.pairCtl 1 = false ∧ t.rb Reg.pairEvents 9 = true)) ∧
  (∀ m s, s.mode.carries = true → mirrorOn s = true → m < 2 → s.tabs.queues = [] → s.pair.member < 2 →
    s.pair.holder = [1 - s.pair.member, 1 - s.pair.member] → s.pair.peerStale = [true, true] → Completes (.setMoveReceived m) s (fun t =>
      t.pair = { s.pair with
        holder := [1 - s.pair.member, 1 - s.pair.member].set m s.pair.member, peerStale := [true, true].set m false })) ∧
  (∀ p s, writeServed p Reg.pairCtl (keepSet Reg.pairCtl 4#64 s) s → s.pair.present = true → s.pair.state = .formed →
    s.pair.dissolving = none → Completes (.dissolve p) s (fun t =>
      t.rb Reg.pairCtl 2 = true ∧ t.pair = { s.pair with dissolving := some s.tick.num } ∧ .twinDissolve ∈ t.out)) ∧
  (∀ n s, s.pairIdle → s.mode = .paired → s.tick.committing = true → s.tick.mirrorOwed = false → s.tick.maskIn = [] → tickMirrored s false = false →
    s.tick.closed = [] → s.pair.dissolving = some n → n ≤ s.tick.published + 1 → s.pair.state = .formed → s.pair.member = 0 →
    s.pair.holder = [0, 1] → s.alm.drainBoundary = false → s.tick.defer = .none → Completes (.tickPublish []) s (fun t =>
      t.pair.state = .dissolved ∧ t.pair.dissolving = none ∧ t.pair.holder = [0, 1] ∧ t.pair.peerStale.getD 0 false = true ∧
        t.pair.copy = [.current, .stale] ∧ t.mode = .solo ∧ t.tick.published = s.tick.published + 1))

/-! ## Error records and recovery (15) -/

/-- R473, R475, R477-R483, R485-R488, R490-R493, R496: records, rings, windows, escalation, the ring locks, isolation, the stewards'
watchdogs. -/
def Obligations.RasEvents : Prop :=
  (∀ r rest s, s.mode.loadToHalt = true → s.ras.inbox = r :: rest → s.ras.locks = [] → s.ras.windows = [] → isNotice r.cls = false →
    sourceIsolated s r.unit r.inst = false → r.clsSev.code ≤ 3 → windowLen s r.clsSev ≠ 0 →
    ((s.ring r.clsSev.code).prod + 2 ^ 32 - (s.ring r.clsSev.code).cons) % 2 ^ 32 < 256 → Completes (.errorRecordArrives 0) s (fun t =>
      let g := s.ring r.clsSev.code
      let e := { r with sev := r.clsSev, seq := s.ras.nextSeq, prevSeq := 0 }
      t.ring r.clsSev.code = { g with recs := tset g.recs (g.prod % 256) e, prod := (g.prod + 1) % 2 ^ 32 } ∧
        t.ras.nextSeq = (s.ras.nextSeq + 1) % 2 ^ 32 ∧ t.ras.inbox = rest ∧ t.mode = s.mode ∧
        t.ras.windows = [{ unit := r.unit, inst := r.inst, sev := r.clsSev, seq := s.ras.nextSeq, start := s.now,
                           deadline := s.now + windowLen s r.clsSev, pos := some g.prod }])) ∧
  (∀ r w rest s, s.mode.loadToHalt = true → s.ras.inbox = r :: rest → s.ras.locks = [] → s.ras.windows = [w] → isNotice r.cls = false →
    sourceIsolated s r.unit r.inst = false → w.unit = r.unit → w.inst = r.inst → s.now ≤ w.deadline → max r.clsSev.code w.sev.code < 3 →
    ((s.ring (max r.clsSev.code w.sev.code + 1)).prod + 2 ^ 32 - (s.ring (max r.clsSev.code w.sev.code + 1)).cons) % 2 ^ 32 < 256 →
    Completes (.errorRecordArrives 0) s (fun t =>
      let k := max r.clsSev.code w.sev.code + 1
      (tget (t.ring k).recs ((s.ring k).prod % 256)).map (fun e => (e.sev.code, e.clsSev, e.prevSeq, e.seq)) =
          some (k, r.clsSev, w.seq, s.ras.nextSeq) ∧
        t.rb Reg.rasEvents 3 = true ∧ (windowLen s (Sev.ofCode k) ≠ 0 → t.ras.windows.map (fun x => (x.sev.code, x.seq)) = [(k, s.ras.nextSeq)]))) ∧
  (∀ r rest s, s.mode.loadToHalt = true → s.ras.inbox = r :: rest → s.ras.locks = [] → isNotice r.cls = true → r.clsSev.code ≤ 3 →
    ((s.ring r.clsSev.code).prod + 2 ^ 32 - (s.ring r.clsSev.code).cons) % 2 ^ 32 < 256 → Completes (.errorRecordArrives 0) s (fun t =>
      t.ras.windows = s.ras.windows ∧ (t.ring r.clsSev.code).prod = ((s.ring r.clsSev.code).prod + 1) % 2 ^ 32 ∧
        (tget (t.ring r.clsSev.code).recs ((s.ring r.clsSev.code).prod % 256)).map (fun e => (e.sev, e.seq)) = some (r.clsSev, s.ras.nextSeq))) ∧
  (∀ r rest s, s.mode.loadToHalt = true → s.ras.inbox = r :: rest → s.ras.locks = [] → isNotice r.cls = true → r.clsSev.code ≤ 3 →
    256 ≤ ((s.ring r.clsSev.code).prod + 2 ^ 32 - (s.ring r.clsSev.code).cons) % 2 ^ 32 → Completes (.errorRecordArrives 0) s (fun t =>
      t.ring r.clsSev.code = { s.ring r.clsSev.code with ovf := min (2 ^ 32 - 1) ((s.ring r.clsSev.code).ovf + 1) } ∧
        t.rb Reg.rasEvents 0 = true ∧ t.ras.nextSeq = (s.ras.nextSeq + 1) % 2 ^ 32)) ∧
  (∀ r rest k stw s, s.mode.loadToHalt = true → s.ras.inbox = r :: rest → s.ras.windows = [] → isNotice r.cls = false →
    isolatable r.unit = true → r.unit ≠ .steward → r.clsSev.code = k → s.ras.locks = [(k, stw)] → Completes (.errorRecordArrives 0) s (fun t =>
      t.ras = { s.ras with inbox := rest, waiting := s.ras.waiting ++ [{ er := r, since := s.now }] } ∧ t.mode = s.mode)) ∧
  (∀ r rest s, s.mode.loadToHalt = true → s.mode ≠ .halt → s.ras.inbox = r :: rest → s.ras.locks = [] → s.ras.windows = [] →
    isNotice r.cls = false → sourceIsolated s r.unit r.inst = false →
    (r.clsSev = .fatalDevice ∨ (r.clsSev = .fatalUnit ∧ isolatable r.unit = false ∧ s.assist 5 = false)) → s.rb Reg.haltInfo 0 = false →
    Completes (.errorRecordArrives 0) s (fun t =>
      t.mode = .halt ∧ t.rb Reg.haltInfo 0 = true ∧ t.pwr.haltOutN = false ∧
        t.ras.haltRec.map (fun e => (e.cls, e.sev, e.unit, e.seq)) = some (r.cls, .fatalDevice, r.unit, s.ras.nextSeq))) ∧
  (∀ r rest s, s.mode = .solo → s.ras.inbox = r :: rest → s.ras.locks = [] → s.ras.windows = [] → isNotice r.cls = false →
    r.unit = .cluster → r.inst < 16 → s.ras.isoClusters = [] → r.clsSev = .fatalUnit → s.assist 5 = false → s.mill.engs = [] → s.alm.degCauses = 0#4 →
    Completes (.errorRecordArrives 0) s (fun t =>
      t.ras.isoClusters = [r.inst] ∧ t.mode = .degraded ∧ t.alm.degCauses = 2#4 ∧ t.rb Reg.rasEvents 4 = true ∧
        t.ras.inbox.any (fun e => decide (e.cls = 0xB1 ∧ e.sev = .corrected ∧ e.info % 256 = UnitKind.cluster.code)) = true ∧
        ∀ e, e / 8 = r.inst → engOffline t e = true)) ∧
  (∀ r rest s, s.mode.loadToHalt = true → s.ras.inbox = r :: rest → s.ras.locks = [] → s.ras.windows = [] → isNotice r.cls = false →
    sourceIsolated s r.unit r.inst = false → r.clsSev = .fatalUnit → s.assist 5 = true → s.ras.escOpen.length < 16 →
    s.ras.escOpen.any (fun w => w.tag == s.ras.escTag % 256) = false →
    Completes (.errorRecordArrives 0) s (fun t =>
      t.mode = s.mode ∧ t.ras.isoClusters = s.ras.isoClusters ∧ t.ras.isoPorts = s.ras.isoPorts ∧
        t.ras.escOpen.map (fun w => (w.tag, w.deadline)) = s.ras.escOpen.map (fun w => (w.tag, w.deadline)) ++
          [(s.ras.escTag % 256, s.now + s.rf Reg.rasCtl 47 32 * 1000)] ∧
        t.ras.escPosts = s.ras.escPosts ++ [mkFld 63 63 1 ||| mkFld 62 55 (s.ras.escTag % 256) ||| mkFld 49 42 r.unit.code |||
          mkFld 41 24 r.inst ||| mkFld 23 0 (s.ras.nextSeq % 2 ^ 24)])) ∧
  (∀ k w s, s.ras.windows[k]? = some w → Completes (.handlingWindowExpiry k) s (fun t =>
    t.now = max s.now w.deadline ∧ t.ras = { s.ras with windows := dropAt s.ras.windows k })) ∧
  (∀ p k n s, 1 ≤ k → k ≤ 5 → n < 2 ^ 32 → writeServed p (Reg.ringCons k) (BitVec.ofNat 64 n) s →
    (n + 2 ^ 32 - (s.ring k).cons) % 2 ^ 32 ≤ ((s.ring k).prod + 2 ^ 32 - (s.ring k).cons) % 2 ^ 32 →
    Completes (.ringConsWrite p k n) s (fun t => t.ring k = { s.ring k with cons := n } ∧
      (∀ j, j ≠ k → t.ring j = s.ring j))) ∧
  (∀ p k n s, 1 ≤ k → k ≤ 5 → n < 2 ^ 32 → writeServed p (Reg.ringCons k) (BitVec.ofNat 64 n) s →
    ((s.ring k).prod + 2 ^ 32 - (s.ring k).cons) % 2 ^ 32 < (n + 2 ^ 32 - (s.ring k).cons) % 2 ^ 32 →
    Completes (.ringConsWrite p k n) s (fun t => t.ras = s.ras)) ∧
  (∀ p n s, n < 2 ^ 32 → writeServed p Reg.vlogCons (BitVec.ofNat 64 n) s → Completes (.vlogConsWrite p n) s (fun t =>
    t.ras = (if (n + 2 ^ 32 - s.ras.vcons) % 2 ^ 32 ≤ (s.ras.vprod + 2 ^ 32 - s.ras.vcons) % 2 ^ 32 then { s.ras with vcons := n } else s.ras))) ∧
  (∀ w rest s, s.ras.waiting = w :: rest → s.ras.windows = [] → s.ras.slotUsed = 0 → isNotice w.er.cls = true → w.er.clsSev.code ≤ 3 →
    Completes .lockWaitTimeout s (fun t =>
      t.now = max s.now (w.since + 2000) ∧ t.ras.waiting = rest ∧ t.ras.slotUsed = 1 ∧ t.rb Reg.rasEvents 6 = true ∧
        (tget t.ras.slots 0).map (fun e => (e.cls, e.seq, e.lastResort)) = some (w.er.cls, s.ras.nextSeq, true) ∧ t.ras.rings = s.ras.rings)) ∧
  (∀ w rest s, s.ras.waiting = w :: rest → s.ras.windows = [] → s.ras.slotUsed = 65535 → isNotice w.er.cls = true → w.er.clsSev.code ≤ 3 →
    Completes .lockWaitTimeout s (fun t =>
      t.ras.waiting = rest ∧ t.ras.slots = s.ras.slots ∧ t.ras.slotLost = min (2 ^ 32 - 1) (s.ras.slotLost + 1) ∧ t.rb Reg.rasEvents 9 = true)) ∧
  (∀ stw k e s, s.ras.locks = [(k, stw)] → s.ras.waiting = [] → s.ras.slotUsed = 1 → s.ras.slots = [(0, e)] → e.sev.code = k →
    ((s.ring k).prod + 2 ^ 32 - (s.ring k).cons) % 2 ^ 32 < 256 → Completes (.ringLockRelease stw) s (fun t =>
      t.ras.locks = [] ∧ t.ras.slotUsed = 0 ∧
        t.ring k = { s.ring k with recs := tset (s.ring k).recs ((s.ring k).prod % 256) e, prod := ((s.ring k).prod + 1) % 2 ^ 32 } ∧
        (t.ras.inbox.getLast?).map (fun r => (r.cls, r.sev, r.info % 65536)) = some (0xB3, .deferred, 1))) ∧
  (∀ stw r rest s, stw < 4 → s.ras.isoStewards.testBit stw = false → s.mode.loadToHalt = true → s.inGap = false → s.ras.stwInbox = r :: rest →
    s.ras.locks = [] → s.ras.windows = [] → isNotice r.cls = true → r.clsSev.code ≤ 3 →
    ((s.ring r.clsSev.code).prod + 2 ^ 32 - (s.ring r.clsSev.code).cons) % 2 ^ 32 < 256 → Completes (.stewardRecordWrite stw 0) s (fun t =>
      t.ras.locks = [(r.clsSev.code, stw)] ∧ t.ras.stwInbox = rest ∧
        (t.ring r.clsSev.code).prod = ((s.ring r.clsSev.code).prod + 1) % 2 ^ 32)) ∧
  (∀ p data w s, writeServed p Reg.escResp data s → bitAt data 63 = true → s.ras.escOpen = [w] → fld data 55 48 = w.tag → fld data 57 56 = 0 →
    w.er.unit = .cluster → w.er.inst < 16 → s.ras.isoClusters = [] → s.ras.waiting = [] → s.mill.engs = [] → Completes (.escRespWrite p data) s (fun t =>
      t.ras.isoClusters = [w.er.inst] ∧ t.ras.escOpen = [] ∧ t.rb Reg.rasEvents 4 = true)) ∧
  (∀ p data w s, writeServed p Reg.escResp data s → bitAt data 63 = true → s.ras.escOpen = [w] → fld data 55 48 = w.tag → fld data 57 56 = 1 →
    Completes (.escRespWrite p data) s (fun t => t.ras = { s.ras with escOpen := [] } ∧ t.mode = s.mode)) ∧
  (∀ p data w s, writeServed p Reg.escResp data s → bitAt data 63 = true → s.ras.escOpen = [w] → fld data 55 48 = w.tag → fld data 57 56 = 2 →
    s.mode.loadToHalt = true → s.mode ≠ .halt → Completes (.escRespWrite p data) s (fun t => t.mode = .halt ∧ t.rb Reg.haltInfo 0 = true)) ∧
  (∀ p data s, writeServed p Reg.escResp data s → bitAt data 63 = true → s.ras.escOpen.any (fun w => w.tag == fld data 55 48) = false →
    Completes (.escRespWrite p data) s (fun t => t.ras = s.ras ∧ t.rb Reg.rasEvents 8 = true)) ∧
  (∀ w s, s.ras.escOpen = [w] → w.er.unit = .cluster → w.er.inst < 16 → s.ras.isoClusters = [] → s.ras.waiting = [] → s.mill.engs = [] →
    Completes (.escTimeout w.tag) s (fun t =>
      t.now = max s.now w.deadline ∧ t.ras.escOpen = [] ∧ t.ras.isoClusters = [w.er.inst] ∧ t.rb Reg.rasEvents 7 = true ∧
        (t.ras.inbox.getLast?).map (fun r => (r.cls, r.sev)) = some (0xB4, .corrected))) ∧
  (∀ p c s, writeServed p Reg.isoCtl (mkFld 63 63 1 ||| mkFld 55 48 0x0C ||| mkFld 17 0 c) s → c < 16 → s.mode = .solo → s.ras.isoClusters = [] →
    s.ras.waiting = [] → s.mill.engs = [] → s.alm.degCauses = 0#4 → Completes (.isoIsolate p 0x0C c) s (fun t =>
      t.ras.isoClusters = [c] ∧ t.mode = .degraded ∧ t.rb Reg.rasEvents 4 = true)) ∧
  (∀ p c s, writeServed p Reg.isoCtl (mkFld 63 62 3 ||| mkFld 55 48 0x0C ||| mkFld 17 0 c) s → c < 16 → s.mode = .degraded →
    s.ras.isoClusters = [c] → s.alm.degCauses = 2#4 → Completes (.isoRejoin p 0x0C c) s (fun t =>
      t.ras.isoClusters = [] ∧ t.mode = baseMode s ∧ t.alm.degCauses = 0#4 ∧ (∀ e, e / 8 = c → (t.eng e).st = 0) ∧
        (t.ras.inbox.getLast?).map (fun r => (r.cls, r.sev)) = some (0xB2, .corrected))) ∧
  (∀ n t0 s, tget s.ras.wdog n = some t0 → Completes (.stewardWatchdogPet n) s (fun t =>
    t = { s with ras.wdog := tset s.ras.wdog n (s.now + s.rf Reg.rasCtl 23 16 * 1000000) })) ∧
  (∀ n t0 s, tget s.ras.wdog n = some t0 → s.inGap = false → s.ras.locks = [] → s.ras.waiting = [] → Completes (.stewardWatchdogExpiry n) s (fun t =>
    t.now = max s.now t0 ∧ tgetD t.ras.restarts n 0 = min 255 (tgetD s.ras.restarts n 0 + 1) ∧
      tget t.ras.wdog n = some (t.now + s.rf Reg.rasCtl 23 16 * 1000000) ∧ t.rb Reg.rasEvents 5 = true ∧
      (t.ras.inbox.getLast?).map (fun r => (r.cls, r.sev, r.unit, r.inst)) = some (0xB0, .contained, .steward, n)))

/-! ## The slot chain (16) -/

/-- R508-R511, R513-R519, R522-R524: frames, the heat account, trips, retries, presence, shorted switches, sequencing. -/
def Obligations.SlotEvents : Prop :=
  (∀ s, s.mode.chainRuns = true → s.chain.waitSince = none → s.chain.shifting = false → s.chain.newProgram = none → s.chain.nSlots ≠ 0 →
    s.chain.slots = [] → Completes .slotFrameStart s (fun t =>
      t.now % 100000 = 0 ∧ s.now ≤ t.now ∧ t.now ≤ s.now + 99999 ∧ t.chain = { s.chain with
        frames := (s.chain.frames + 1) % 2 ^ 24, frameAt := t.now, waitSince := some t.now, startedHigh := s.chain.applyNext,
        marker := 0xA5C30000#32 + BitVec.ofNat 32 ((s.chain.frames + 1) % 2 ^ 24 % 2 ^ 16) })) ∧
  (∀ i sl s, s.mode.chainRuns = true → s.chain.waitSince = none → s.chain.shifting = false → s.chain.newProgram = none → s.chain.nSlots ≠ 0 →
    s.chain.slots = [(i, sl)] → sl.retryFrom = none → sl.tripped = false → bitAt sl.cfg 60 = false → Completes .slotFrameStart s (fun t =>
      (t.slot? i).map (fun x => (x.enApplied, x.en, x.state)) =
        some (if s.chain.applyNext && chainOk sl.shifted then sl.shifted.getLsbD 27 else sl.enApplied, sl.en, sl.state))) ∧
  (∀ i sl s, s.mode.chainRuns = true → s.chain.waitSince = none → s.chain.shifting = false → s.chain.newProgram = none → s.chain.nSlots ≠ 0 →
    s.chain.slots = [(i, sl)] → sl.retryFrom = none → sl.tripped = true → bitAt sl.cfg 60 = false → s.chain.applyNext = true →
    chainOk sl.shifted = true → sl.shifted.getLsbD 27 = false → sl.state ≠ .fetShort → sl.lockAfter = false → sl.absent = false →
    Completes .slotFrameStart s (fun t =>
      let ot := t.now - max sl.enAt sl.heatZeroAt
      (t.slot? i).map (fun x => (x.tripped, x.onTime, x.retryFrom, x.retryNeed, x.state)) =
        some (false, ot, some t.now, max 500000000 (99 * ot), .retryWait))) ∧
  (∀ i sl s, s.mode.chainRuns = true → s.chain.waitSince = none → s.chain.shifting = false → s.chain.newProgram = none → s.chain.nSlots ≠ 0 →
    s.chain.slots = [(i, sl)] → sl.retryFrom = none → sl.tripped = true → bitAt sl.cfg 60 = false → s.chain.applyNext = true →
    chainOk sl.shifted = true → sl.shifted.getLsbD 27 = false → sl.state ≠ .fetShort → sl.lockAfter = true → Completes .slotFrameStart s (fun t =>
      (t.slot? i).map (fun x => (x.retryFrom, x.state)) = some (none, .lockedOff) ∧
        (t.ras.inbox.getLast?).map (fun r => (r.cls, r.sev, r.inst)) = some (0xC1, .contained, i))) ∧
  (∀ t0 i sl s, s.chain.waitSince = some t0 → s.chain.slots = [(i, sl)] → sl.cmdPending = false → Completes .slotChainReady s (fun t =>
    t.chain.shifting = true ∧ t.chain.waitSince = none ∧ (sl.offNext = false → t.slot? i = some { sl with
      perstSent := false, shifted := outWord (s.rf (Reg.slotCtl i) 15 8) sl }) ∧
      (sl.offNext = true → sl.perstSent = true → (t.slot? i).map (fun x => (x.en, x.offNext, x.pwrInd)) = some (false, false, 0)))) ∧
  (∀ ws m s, s.chain.shifting = true → m ≠ s.chain.marker → s.chain.slots = [] → Completes (.slotFrameComplete ws m) s (fun t =>
    t.chain.markerErrs = min 65535 (s.chain.markerErrs + 1) ∧ t.chain.applyNext = false ∧ t.chain.shifting = false ∧
      t.rb Reg.pwrEvents 1 = true)) ∧
  (∀ w sl s, s.chain.shifting = true → s.chain.nSlots = 1 → s.chain.slots = [(0, sl)] → chainOk w = false → sl.en = false → sl.enWas = false →
    Completes (.slotFrameComplete [w] s.chain.marker) s (fun t =>
      t.slot? 0 = some { sl with badWords := min 65535 (sl.badWords + 1), noData := sl.noData + 1 } ∧ t.rb Reg.pwrEvents 2 = true ∧
        t.chain.applyNext = true)) ∧
  (∀ w sl s, s.chain.shifting = true → s.chain.nSlots = 1 → s.chain.slots = [(0, sl)] → chainOk w = true →
    Completes (.slotFrameComplete [w] s.chain.marker) s (fun t =>
      (t.slot? 0).map (fun x => (x.inWord, x.noData, x.heat)) = some (w, 0,
        ((sl.heat : Int) + (((w.toNat % 4096 * fld sl.cfg 9 0 : Nat) : Int) ^ 2 - ((fld sl.limits 15 0 * 10 : Nat) : Int) ^ 2) * 1024 / 10000000).toNat))) ∧
  (∀ w sl s, s.chain.shifting = true → s.chain.nSlots = 1 → s.chain.slots = [(0, sl)] → chainOk w = true → sl.en = true → sl.tripped = false →
    w.getLsbD 27 = true → sl.absent = false → sl.state = .on → fld sl.limits 31 16 * 10 ≤ w.toNat % 4096 * fld sl.cfg 9 0 →
    Completes (.slotFrameComplete [w] s.chain.marker) s (fun t =>
      (t.slot? 0).map (fun x => (x.en, x.tripped, x.tripCause, x.lockAfter)) = some (false, true, 1, decide (sl.retries = 3)) ∧
        t.rb Reg.pwrEvents 3 = true ∧ t.ras.inbox.any (fun r => decide (r.cls = 0xC0 ∧ r.sev = .deferred)) = true)) ∧
  (∀ w sl s, s.chain.shifting = true → s.chain.nSlots = 1 → s.chain.slots = [(0, sl)] → chainOk w = true → w.getLsbD 27 = false → w.getLsbD 26 = false →
    sl.absentRun = 9 → sl.absent = false → sl.state = .off → sl.en = false → sl.enWas = false → Completes (.slotFrameComplete [w] s.chain.marker) s (fun t =>
      (t.slot? 0).map (fun x => (x.state, x.absent, x.en, x.perstN, x.attnInd, x.pwrInd)) = some (.empty, true, false, false, 0, 0) ∧
        t.rb Reg.pendEdges 17 = true)) ∧
  (∀ w sl s, s.chain.shifting = true → s.chain.nSlots = 1 → s.chain.slots = [(0, sl)] → chainOk w = true → w.getLsbD 27 = true → w.getLsbD 26 = false →
    sl.presentRun = 999 → sl.absent = false → sl.state = .debounce → sl.en = false → sl.enWas = false → sl.retryFrom = none → sl.hotplug = false →
    sl.autoOn = true → s.assist 4 = false → s.inGap = false → cfld w 21 12 < 720 → Completes (.slotFrameComplete [w] s.chain.marker) s (fun t =>
      (t.slot? 0).map (fun x => (x.state, x.en, x.want, x.pwrInd)) = some (.powering, true, true, 2))) ∧
  (∀ t0 s, s.chain.waitSince = some t0 → s.chain.slots = [] → Completes .slotFrameStallTimeout s (fun t =>
    t.now = max s.now (t0 + 1000000) ∧ t.chain.aborts = min 65535 (s.chain.aborts + 1) ∧ t.chain.applyNext = false ∧
      t.chain.waitSince = none ∧ t.rb Reg.pwrEvents 1 = true)) ∧
  (∀ i sl t0 s, s.slot? i = some sl → sl.retryFrom = some t0 → sl.state = .retryWait → sl.heat = 0 → sl.want = true → sl.ready = true → sl.en = false →
    Completes (.slotRetryTimer i) s (fun t =>
      t.now = max s.now (t0 + sl.retryNeed) ∧
        (t.slot? i).map (fun x => (x.en, x.state, x.retryFrom, x.retries)) = some (true, .powering, none, min 3 (sl.retries + 1)))) ∧
  (∀ i sl t0 s, s.slot? i = some sl → sl.failDeadline = some t0 → sl.en = true → sl.vout < 720 → Completes (.slotPowerFailCheck i) s (fun t =>
    t.now = max s.now t0 ∧ (t.slot? i).map (fun x => (x.en, x.tripped, x.tripCause)) = some (false, true, 5) ∧ t.rb Reg.pwrEvents 3 = true)) ∧
  (∀ i sl t0 s, s.slot? i = some sl → sl.shortFrom = some t0 → Completes (.slotShortTimeout i) s (fun t =>
    t.now = max s.now (t0 + 5000000) ∧ (t.slot? i).map (fun x => (x.state, x.cutoff, x.en, x.retryFrom)) = some (.fetShort, true, false, none) ∧
      t.rb Reg.pwrEvents 4 = true ∧ (t.ras.inbox.getLast?).map (fun r => (r.cls, r.sev, r.inst)) = some (0xC2, .contained, i))) ∧
  (∀ i sl t0 s, s.slot? i = some sl → sl.perstDeadline = some t0 → bitAt sl.cfg 60 = true → fld sl.cfg 56 48 < 512 → s.inGap = false →
    Completes (.slotPerstRelease i) s (fun t =>
    t.now = max s.now t0 ∧ (t.slot? i).map (fun x => (x.perstN, x.perstDeadline)) = some (true, none) ∧
      t.rb (Reg.portCtl (fld sl.cfg 56 48)) 0 = true)) ∧
  (∀ p i sl s, i < 128 → writeServed p (Reg.slotCtl i) (keepSet (Reg.slotCtl i) (1#64 <<< 16) s) s → i < s.chain.nSlots → s.slot? i = some sl → sl.state = .lockedOff →
    Completes (.slotClear p i) s (fun t =>
      t.slot? i = some { sl with
        retries := 0, state := if sl.absent then .empty else .off, tripCause := if sl.tripCause = 6 then 0 else sl.tripCause })) ∧
  (∀ p i sl s, i < 128 → writeServed p (Reg.slotCtl i) (keepSet (Reg.slotCtl i) (1#64 <<< 17) s) s → i < s.chain.nSlots → s.slot? i = some sl → sl.state = .fetShort →
    Completes (.slotFetClear p i) s (fun t =>
      t.slot? i = some { sl with cutoff := false, state := .off, shortFrom := none })) ∧
  (∀ p i data sl s, i < 128 → writeServed p (Reg.slotCmd i) (data ||| (1#64 <<< 63)) s → i < s.chain.nSlots → s.slot? i = some sl → s.assist 4 = true →
    Completes (.slotCmdGo p i data) s (fun t => t.slot? i = some { sl with cmdPending := true } ∧ t.rb (Reg.slotCmd i) 63 = true)) ∧
  (∀ p i data sl s, i < 128 → writeServed p (Reg.slotCmd i) (data ||| (1#64 <<< 63)) s → s.slot? i = some sl → s.assist 4 = false →
    Completes (.slotCmdGo p i data) s (fun t => t.chain = s.chain)) ∧
  (∀ i attn pwr sl s, s.slot? i = some sl → sl.hotplug = true → s.assist 4 = false → s.inGap = false → sl.state = .off → sl.ready = true → sl.en = false →
    sl.retryFrom = none → Completes (.slotControlWrite i true attn pwr) s (fun t =>
      (t.slot? i).map (fun x => (x.want, x.en, x.state, x.pwrInd)) = some (true, true, .powering, 2))) ∧
  (∀ i attn pwr sl s, s.slot? i = some sl → sl.hotplug = true → s.assist 4 = false → s.inGap = false → sl.en = true → sl.offNext = false →
    Completes (.slotControlWrite i false attn pwr) s (fun t =>
      (t.slot? i).map (fun x => (x.want, x.en, x.perstN, x.offNext)) = some (false, true, false, true))) ∧
  (∀ i attn pwr sl s, s.slot? i = some sl → sl.hotplug = true → s.assist 4 = true → s.inGap = false → s.chain.hpPosts.length < 63 →
    Completes (.slotControlWrite i true attn pwr) s (fun t =>
      t.chain.hpPosts.length = s.chain.hpPosts.length + 2 ∧ (t.slot? i).map (fun x => (x.en, x.want, x.pccOn)) = some (sl.en, sl.want, true)))

/-! ## Frames -/

/-- What the commands of one unit can change: nothing outside the parts named, whatever the state. -/
def Obligations.UnitFrames : Prop :=
  (∀ n, framed [.bypass, .clamp, .highz, .idcode, .extest n, .samplePreload] (fun s t => { s with out := t.out, fresh := t.fresh, jtag := t.jtag })) ∧
  (∀ k, framed [.bistGo k, .bistComplete k, .keyProgram k, .keyRevoke k, .keyProgramComplete]
    (fun s t => { s with regs := t.regs, jtag := t.jtag, alm.keys := t.alm.keys })) ∧
  (∀ d u, framed [.auxRefclkReturn, .instantRequest u, .domainResetRelease d] (fun s t => { s with clk := t.clk })) ∧
  (∀ xs, framed [.dtbSync xs] (fun s t => { s with clk := t.clk, ras := t.ras, out := t.out, regs := t.regs, gapHeld := t.gapHeld })) ∧
  (∀ p rate ms lp, framed [.trainAttemptStart p, .trainRetryTimer p, .trainAttemptTimeout p, .disableDuringTrainingTimeout p]
    (fun s t => { s with links := t.links, regs := t.regs, out := t.out, gapHeld := t.gapHeld, ras := t.ras, clk := t.clk }) ∧
    ∀ c ∈ ([.eqMeasureComplete p rate ms lp, .eqAnswerTimeout p] : List Instr), ∀ s t, s.linkIsUp p = false →
      ((s.link? p).map Link.lost).getD false = false → exec c s = .next t →
      t = { s with links := t.links, regs := t.regs, out := t.out, gapHeld := t.gapHeld, ras := t.ras, clk := t.clk }) ∧
  (∀ p mem io sel skid act, framed [.ideKeyProgram p mem io sel skid act] (fun s t => { s with regs := t.regs })) ∧
  (∀ d host region req ld, framed [.translationWalkStart d] (fun s t =>
      { s with cnt := t.cnt, xl := t.xl, home.chans := t.home.chans, home.chWait := t.home.chWait }) ∧
    framed [.dcAddResponse host region ld] (fun s t => { s with cnt := t.cnt, xl := t.xl }) ∧
    framed [.dcAddRequest host region req] (fun s t =>
      { s with xl := t.xl, bridge := t.bridge, out := t.out, regs := t.regs, gapHeld := t.gapHeld })) ∧
  (∀ g, framed [.generationDrained g] (fun s t => { s with rings := t.rings, xl := t.xl })) ∧
  (∀ p tag h, framed [.tagQuarantineExpiry p tag] (fun s t => { s with clk := t.clk, bridge := t.bridge }) ∧
    framed [.intxDeassertSend h, .containmentSignal h] (fun s t => { s with out := t.out, cnt := t.cnt, bridge := t.bridge })) ∧
  framed [.patrolScrubRead] (fun s t => { s with home := t.home }) ∧
  framed [.bellOutFall, .tagRetagWalk] (fun s t => { s with clk := t.clk, tick := t.tick }) ∧
  (∀ p, framed [.creditReturn p, .planeRecoverySafeEnd p, .contractRecompute] (fun s t => { s with rings := t.rings }) ∧
    framed [.planeRecoveryResync p] (fun s t => { s with
      rings := t.rings, mill := t.mill, qu := t.qu, bridge := t.bridge, pair := t.pair, home.mirTag := t.home.mirTag, ras := t.ras,
      cnt := t.cnt, out := t.out, regs := t.regs, gapHeld := t.gapHeld })) ∧
  framed [.frameBoundary] (fun s t => { s with rings := t.rings, ras := t.ras, out := t.out, regs := t.regs, gapHeld := t.gapHeld }) ∧
  (∀ q, framed [.roundLeaseRefresh q] (fun s t => { s with clk := t.clk, qu := t.qu })) ∧
  (∀ e k, framed [.spillDumpDone e, .streamHoldAcquired e] (fun s t => { s with mill := t.mill }) ∧
    framed [.dispatchSelect e] (fun s t => { s with mill := t.mill, fresh := t.fresh }) ∧
    framed [.storeBufferIssue e k] (fun s t => { s with clk := t.clk, mill := t.mill })) ∧
  framed [.twinAliveToggle, .twinAliveResume, .heartbeatSend] (fun s t =>
    { s with clk := t.clk, fresh := t.fresh, out := t.out, pair := t.pair }) ∧
  (∀ k, framed [.handlingWindowExpiry k, .stewardWatchdogPet k] (fun s t => { s with clk := t.clk, ras := t.ras })) ∧
  (∀ n on attn pwr, framed [.slotChainReady, .slotRetryTimer n, .slotShortTimeout n, .slotPowerFailCheck n, .slotControlWrite n on attn pwr]
    (fun s t => { s with chain := t.chain, clk := t.clk, ras := t.ras, out := t.out, regs := t.regs, gapHeld := t.gapHeld })) ∧
  framed [.offReqDeassert] (fun s t => { s with pwr := t.pwr }) ∧
  framed [.snapshotBankReady] (fun s t => { s with cnt := t.cnt }) ∧
  (∀ n, framed [.gpioEdge n] (fun s t => { s with regs := t.regs })) ∧
  (∀ ts, framed [.thermalSample ts] (fun s t => { s with therm := t.therm, ras := t.ras, rings := t.rings, out := t.out }))

/-- The commands of the bridge change nothing of the memory and the home unit but the queues of the channels, which a read of the tables
joins; and nothing of the queues, the engines, the tick unit, the pair, the tables and the mode: what they ask of these goes through
the rings. -/
def Obligations.BridgeFrames : Prop :=
  ∀ (p tag : Nat) (mr : MemReq) (lw : LegWrite) (lr : LegRead) (op : AtomOp) (on : Bool) (mc : MsgCode) (io : IoReq) (ci : CplIn) (sm : S2M)
    (pe : ProtoErr) (ce : CxlEvent),
    framed [.hostMemRequest p mr, .hostIoRequest p tag io, .hostLinkCompletion p ci, .hostLinkWaitTimeout p,
        .legacyPostedWrite p lw, .legacyRead p lr, .legacyZeroLengthRead p lr, .legacyAtomic p lr op, .legacyCompletion p ci,
        .legacyCxlResponse p tag sm, .legacyIntxMessage p ⟨tag, tag⟩ on, .legacyErrMessage p mc tag, .legacyCxlEvent p ce, .lineWriteAck tag,
        .egressSend p, .targetTimeout p tag, .trackerTimeout tag, .trackerHoldExpiry tag, .fillTimeout p tag,
        .protocolErrorReceived p pe, .dpcTriggerClear p, .dpcSoftwareTrigger p]
      (fun s t => { s with
        bridge := t.bridge, xl := t.xl, links := t.links, ras := t.ras, cnt := t.cnt, rings := t.rings, out := t.out, regs := t.regs,
        gapHeld := t.gapHeld, clk := t.clk, fresh := t.fresh, home.chans := t.home.chans, home.chWait := t.home.chWait,
        chain.slots := t.chain.slots })

/-! ## Reset, and the canonical form -/

/-- R393 and the reset values of 00, 13, 15 and 18: the device when auxiliary power has just arrived. That it stands in AUX then is the
model's reading (assumption 10); the idle step is assumption 1. -/
def Obligations.ResetState : Prop :=
  State.reset.mode = .aux ∧ State.reset.now = 0 ∧ State.reset.pending = [] ∧ State.reset.out = [] ∧
  (∀ off, State.reset.rd off = resetValue off) ∧
  regValue State.reset Reg.devMode = 1#64 ∧ regValue State.reset Reg.modeEntryDtb = 0#64 ∧
  regValue State.reset Reg.resetCause = 0x0000000100010001#64 ∧ regValue State.reset Reg.almCtl = 0#64 ∧
  regValue State.reset Reg.almStatus = 0#64 ∧ regValue State.reset Reg.pendEdges = 0#64 ∧ regValue State.reset Reg.haltInfo = 0#64 ∧
  State.reset.links = [] ∧ State.reset.ras.haltRec = none ∧ State.reset.pwr.haltOutN = true ∧ State.reset.pwr.pwrEn = false ∧
  State.reset.home.mem = [] ∧ State.reset.canonical = true ∧
  (∀ s, s.pending = [] → s.mode ≠ .aux → s.pwr.auxGood = true → step s = .next { s with clk.dtb := s.clk.dtb + 10 })

/-- Memory and the register bank keep their canonical form in every step, whatever the command. -/
def Obligations.CanonicalKept : Prop :=
  ∀ s t, s.canonical = true → step s = .next t → t.canonical = true
end

