-- ==== Sys2Proof/Laws/Table.lean ====
section
/-! SUPPORT. What the operations of a sparse table do: reading after writing, and the canonical form that every memory operation
keeps. -/
namespace Sys2Proof.Machine

@[simp] theorem tget_nil {α : Type} (k : Nat) : tget ([] : Tbl α) k = none := rfl

@[simp] theorem tget_tset_self {α : Type} (t : Tbl α) (k : Nat) (v : α) : tget (tset t k v) k = some v := by
  induction t with
  | nil => simp [tset, tget]
  | cons e r ih =>
    obtain ⟨k', v'⟩ := e
    unfold tset
    split
    · simp [tget]
    · split
      · simp [tget]
      · rename_i h1 h2
        have : k' ≠ k := fun h => h2 h.symm
        simp [tget, this, ih]

theorem tget_tset_ne {α : Type} (t : Tbl α) {k j : Nat} (v : α) (h : j ≠ k) : tget (tset t k v) j = tget t j := by
  have hkj : ¬ k = j := fun e => h e.symm
  induction t with
  | nil => simp [tset, tget, hkj]
  | cons e r ih =>
    obtain ⟨k', v'⟩ := e
    unfold tset
    split
    · simp [tget, hkj]
    · split
      · rename_i h2
        subst h2
        simp [tget, hkj]
      · simp only [tget, ih]

@[simp] theorem tget_terase_self {α : Type} (t : Tbl α) (k : Nat) : tget (terase t k) k = none := by
  induction t with
  | nil => rfl
  | cons e r ih =>
    obtain ⟨k', v'⟩ := e
    unfold terase
    split
    · exact ih
    · rename_i h
      simp [tget, h, ih]

theorem tget_terase_ne {α : Type} (t : Tbl α) {k j : Nat} (h : j ≠ k) : tget (terase t k) j = tget t j := by
  have hkj : ¬ k = j := fun e => h e.symm
  induction t with
  | nil => rfl
  | cons e r ih =>
    obtain ⟨k', v'⟩ := e
    unfold terase
    split
    · rename_i h2
      subst h2
      simp [tget, hkj, ih]
    · simp only [tget, ih]

/-- Reading what was put: the value, whether it is listed or not. -/
@[simp] theorem tget_tput_self {α : Type} [DecidableEq α] (d : α) (t : Tbl α) (k : Nat) (v : α) :
    (tget (tput d t k v) k).getD d = v := by
  unfold tput
  split
  · rename_i h
    simp [h]
  · simp

/-- Putting a value leaves every other key as it was. -/
theorem tget_tput_ne {α : Type} [DecidableEq α] (d : α) (t : Tbl α) {k j : Nat} (v : α) (h : j ≠ k) :
    tget (tput d t k v) j = tget t j := by
  unfold tput
  split
  · exact tget_terase_ne t h
  · exact tget_tset_ne t v h

/-! ## The canonical form -/

theorem tsortedFrom_mono {α : Type} {t : Tbl α} {lo lo' : Nat} (h : lo' ≤ lo) (ht : tsortedFrom lo t = true) :
    tsortedFrom lo' t = true := by
  cases t with
  | nil => rfl
  | cons e r =>
    obtain ⟨k, v⟩ := e
    simp only [tsortedFrom, Bool.and_eq_true, decide_eq_true_eq] at ht ⊢
    exact ⟨by omega, ht.2⟩

theorem tsortedFrom_tset {α : Type} (t : Tbl α) : ∀ (lo k : Nat) (v : α), lo ≤ k → tsortedFrom lo t = true →
    tsortedFrom lo (tset t k v) = true := by
  induction t with
  | nil => intro lo k v hk _; simp [tset, tsortedFrom, hk]
  | cons e r ih =>
    obtain ⟨k', v'⟩ := e
    intro lo k v hk ht
    simp only [tsortedFrom, Bool.and_eq_true, decide_eq_true_eq] at ht
    unfold tset
    split
    · rename_i hlt
      simp only [tsortedFrom, Bool.and_eq_true, decide_eq_true_eq]
      exact ⟨hk, by omega, ht.2⟩
    · split
      · rename_i he
        subst he
        simp only [tsortedFrom, Bool.and_eq_true, decide_eq_true_eq]
        exact ⟨hk, ht.2⟩
      · rename_i h1 h2
        simp only [tsortedFrom, Bool.and_eq_true, decide_eq_true_eq]
        exact ⟨ht.1, ih (k' + 1) k v (by omega) ht.2⟩

theorem tsortedFrom_terase {α : Type} (t : Tbl α) : ∀ (lo k : Nat), tsortedFrom lo t = true →
    tsortedFrom lo (terase t k) = true := by
  induction t with
  | nil => intro lo k _; rfl
  | cons e r ih =>
    obtain ⟨k', v'⟩ := e
    intro lo k ht
    simp only [tsortedFrom, Bool.and_eq_true, decide_eq_true_eq] at ht
    unfold terase
    split
    · exact tsortedFrom_mono (by omega) (ih (k' + 1) k ht.2)
    · simp only [tsortedFrom, Bool.and_eq_true, decide_eq_true_eq]
      exact ⟨ht.1, ih (k' + 1) k ht.2⟩

theorem mem_tset {α : Type} {t : Tbl α} {k : Nat} {v : α} {e : Nat × α} (h : e ∈ tset t k v) : e = (k, v) ∨ e ∈ t := by
  induction t with
  | nil => simpa [tset] using h
  | cons a r ih =>
    obtain ⟨k', v'⟩ := a
    unfold tset at h
    split at h
    · simpa using h
    · split at h
      · rcases List.mem_cons.mp h with h | h
        · exact .inl h
        · exact .inr (List.mem_cons_of_mem _ h)
      · rcases List.mem_cons.mp h with h | h
        · exact .inr (by simp [h])
        · rcases ih h with h | h
          · exact .inl h
          · exact .inr (List.mem_cons_of_mem _ h)

theorem mem_terase {α : Type} {t : Tbl α} {k : Nat} {e : Nat × α} (h : e ∈ terase t k) : e ∈ t := by
  induction t with
  | nil => simpa [terase] using h
  | cons a r ih =>
    obtain ⟨k', v'⟩ := a
    unfold terase at h
    split at h
    · exact List.mem_cons_of_mem _ (ih h)
    · rcases List.mem_cons.mp h with h | h
      · simp [h]
      · exact List.mem_cons_of_mem _ (ih h)

/-- Putting a value keeps the canonical form. -/
theorem tcanon_tput {α : Type} [DecidableEq α] {d : α} {t : Tbl α} (k : Nat) (v : α) (h : tcanon d t = true) :
    tcanon d (tput d t k v) = true := by
  simp only [tcanon, tsorted, Bool.and_eq_true, List.all_eq_true, decide_eq_true_eq] at h ⊢
  unfold tput
  split
  · exact ⟨tsortedFrom_terase t 0 k h.1, fun e he => h.2 e (mem_terase he)⟩
  · rename_i hv
    refine ⟨tsortedFrom_tset t 0 k v (Nat.zero_le _) h.1, fun e he => ?_⟩
    rcases mem_tset he with rfl | he
    · exact hv
    · exact h.2 e he

/-! ## Memory -/

theorem memGet_memPut_self (m : List Host.Cell) (a : Nat) (b : Byte) : memGet (memPut m a b) a = b := by
  simp [memGet, memPut]

theorem memGet_memPut_ne (m : List Host.Cell) {a x : Nat} (b : Byte) (h : x ≠ a) : memGet (memPut m a b) x = memGet m x := by
  simp [memGet, memPut, tget_tput_ne _ _ _ h]

/-- A byte write keeps memory's canonical form. -/
theorem memPut_wf {m : List Host.Cell} (a : Nat) (b : Byte) (h : Memory.wf m = true) : Memory.wf (memPut m a b) = true :=
  tcanon_tput a b h

/-- A line write keeps memory's canonical form. -/
theorem memPutLine_wf {m : List Host.Cell} (a : Nat) (mask : BitVec 64) (l : Line) (h : Memory.wf m = true) :
    Memory.wf (memPutLine m a mask l) = true := by
  have : ∀ (is : List Nat) (m : List Host.Cell), Memory.wf m = true →
      Memory.wf (is.foldl (fun m i => if mask.getLsbD i then memPut m (a + i) (lineByte l i) else m) m) = true := by
    intro is
    induction is with
    | nil => intro m h; exact h
    | cons i is ih =>
      intro m h
      simp only [List.foldl_cons]
      apply ih
      split
      · exact memPut_wf _ _ h
      · exact h
  exact this _ m h

/-- A line write leaves every byte outside the line unchanged. -/
theorem memGet_memPutLine_out (m : List Host.Cell) {a x : Nat} (mask : BitVec 64) (l : Line) (h : x < a ∨ a + 64 ≤ x) :
    memGet (memPutLine m a mask l) x = memGet m x := by
  have : ∀ (is : List Nat) (m : List Host.Cell), (∀ i ∈ is, i < 64) →
      memGet (is.foldl (fun m i => if mask.getLsbD i then memPut m (a + i) (lineByte l i) else m) m) x = memGet m x := by
    intro is
    induction is with
    | nil => intro m _; rfl
    | cons i is ih =>
      intro m hi
      have hi0 : i < 64 := hi i (by simp)
      simp only [List.foldl_cons]
      rw [ih _ (fun j hj => hi j (by simp [hj]))]
      split
      · exact memGet_memPut_ne m _ (by omega)
      · rfl
  exact this _ m (fun i hi => List.mem_range.mp hi)

end Sys2Proof.Machine
end

