-- ==== Sys2Proof/Laws/State.lean ====
section
/-! SUPPORT. What each basic operation on the state leaves in each of its fields, true by unfolding, so that no later proof unfolds a
record update. -/
namespace Sys2Proof.Machine

/-! ## emit -/

@[simp] theorem emit_pending (m : Msg) (s : State) : (s.emit m).pending = s.pending := rfl
@[simp] theorem emit_out (m : Msg) (s : State) : (s.emit m).out = s.out ++ [m] := rfl
@[simp] theorem emit_gapHeld (m : Msg) (s : State) : (s.emit m).gapHeld = s.gapHeld := rfl
@[simp] theorem emit_fresh (m : Msg) (s : State) : (s.emit m).fresh = s.fresh := rfl
@[simp] theorem emit_regs (m : Msg) (s : State) : (s.emit m).regs = s.regs := rfl
@[simp] theorem emit_clk (m : Msg) (s : State) : (s.emit m).clk = s.clk := rfl
@[simp] theorem emit_alm (m : Msg) (s : State) : (s.emit m).alm = s.alm := rfl
@[simp] theorem emit_pwr (m : Msg) (s : State) : (s.emit m).pwr = s.pwr := rfl
@[simp] theorem emit_chain (m : Msg) (s : State) : (s.emit m).chain = s.chain := rfl
@[simp] theorem emit_ras (m : Msg) (s : State) : (s.emit m).ras = s.ras := rfl
@[simp] theorem emit_therm (m : Msg) (s : State) : (s.emit m).therm = s.therm := rfl
@[simp] theorem emit_cnt (m : Msg) (s : State) : (s.emit m).cnt = s.cnt := rfl
@[simp] theorem emit_jtag (m : Msg) (s : State) : (s.emit m).jtag = s.jtag := rfl
@[simp] theorem emit_tabs (m : Msg) (s : State) : (s.emit m).tabs = s.tabs := rfl
@[simp] theorem emit_links (m : Msg) (s : State) : (s.emit m).links = s.links := rfl
@[simp] theorem emit_pair (m : Msg) (s : State) : (s.emit m).pair = s.pair := rfl
@[simp] theorem emit_bridge (m : Msg) (s : State) : (s.emit m).bridge = s.bridge := rfl
@[simp] theorem emit_xl (m : Msg) (s : State) : (s.emit m).xl = s.xl := rfl
@[simp] theorem emit_rings (m : Msg) (s : State) : (s.emit m).rings = s.rings := rfl
@[simp] theorem emit_home (m : Msg) (s : State) : (s.emit m).home = s.home := rfl
@[simp] theorem emit_tick (m : Msg) (s : State) : (s.emit m).tick = s.tick := rfl
@[simp] theorem emit_qu (m : Msg) (s : State) : (s.emit m).qu = s.qu := rfl
@[simp] theorem emit_mill (m : Msg) (s : State) : (s.emit m).mill = s.mill := rfl

/-! ## emits -/

@[simp] theorem emits_pending (ms : List Msg) (s : State) : (s.emits ms).pending = s.pending := rfl
@[simp] theorem emits_out (ms : List Msg) (s : State) : (s.emits ms).out = s.out ++ ms := rfl
@[simp] theorem emits_gapHeld (ms : List Msg) (s : State) : (s.emits ms).gapHeld = s.gapHeld := rfl
@[simp] theorem emits_fresh (ms : List Msg) (s : State) : (s.emits ms).fresh = s.fresh := rfl
@[simp] theorem emits_regs (ms : List Msg) (s : State) : (s.emits ms).regs = s.regs := rfl
@[simp] theorem emits_clk (ms : List Msg) (s : State) : (s.emits ms).clk = s.clk := rfl
@[simp] theorem emits_alm (ms : List Msg) (s : State) : (s.emits ms).alm = s.alm := rfl
@[simp] theorem emits_pwr (ms : List Msg) (s : State) : (s.emits ms).pwr = s.pwr := rfl
@[simp] theorem emits_chain (ms : List Msg) (s : State) : (s.emits ms).chain = s.chain := rfl
@[simp] theorem emits_ras (ms : List Msg) (s : State) : (s.emits ms).ras = s.ras := rfl
@[simp] theorem emits_therm (ms : List Msg) (s : State) : (s.emits ms).therm = s.therm := rfl
@[simp] theorem emits_cnt (ms : List Msg) (s : State) : (s.emits ms).cnt = s.cnt := rfl
@[simp] theorem emits_jtag (ms : List Msg) (s : State) : (s.emits ms).jtag = s.jtag := rfl
@[simp] theorem emits_tabs (ms : List Msg) (s : State) : (s.emits ms).tabs = s.tabs := rfl
@[simp] theorem emits_links (ms : List Msg) (s : State) : (s.emits ms).links = s.links := rfl
@[simp] theorem emits_pair (ms : List Msg) (s : State) : (s.emits ms).pair = s.pair := rfl
@[simp] theorem emits_bridge (ms : List Msg) (s : State) : (s.emits ms).bridge = s.bridge := rfl
@[simp] theorem emits_xl (ms : List Msg) (s : State) : (s.emits ms).xl = s.xl := rfl
@[simp] theorem emits_rings (ms : List Msg) (s : State) : (s.emits ms).rings = s.rings := rfl
@[simp] theorem emits_home (ms : List Msg) (s : State) : (s.emits ms).home = s.home := rfl
@[simp] theorem emits_tick (ms : List Msg) (s : State) : (s.emits ms).tick = s.tick := rfl
@[simp] theorem emits_qu (ms : List Msg) (s : State) : (s.emits ms).qu = s.qu := rfl
@[simp] theorem emits_mill (ms : List Msg) (s : State) : (s.emits ms).mill = s.mill := rfl

/-! ## reach -/

@[simp] theorem reach_pending (t : Nat) (s : State) : (s.reach t).pending = s.pending := rfl
@[simp] theorem reach_out (t : Nat) (s : State) : (s.reach t).out = s.out := rfl
@[simp] theorem reach_gapHeld (t : Nat) (s : State) : (s.reach t).gapHeld = s.gapHeld := rfl
@[simp] theorem reach_fresh (t : Nat) (s : State) : (s.reach t).fresh = s.fresh := rfl
@[simp] theorem reach_regs (t : Nat) (s : State) : (s.reach t).regs = s.regs := rfl
@[simp] theorem reach_clk (t : Nat) (s : State) : (s.reach t).clk = { s.clk with dtb := max s.clk.dtb t } := rfl
@[simp] theorem reach_alm (t : Nat) (s : State) : (s.reach t).alm = s.alm := rfl
@[simp] theorem reach_pwr (t : Nat) (s : State) : (s.reach t).pwr = s.pwr := rfl
@[simp] theorem reach_chain (t : Nat) (s : State) : (s.reach t).chain = s.chain := rfl
@[simp] theorem reach_ras (t : Nat) (s : State) : (s.reach t).ras = s.ras := rfl
@[simp] theorem reach_therm (t : Nat) (s : State) : (s.reach t).therm = s.therm := rfl
@[simp] theorem reach_cnt (t : Nat) (s : State) : (s.reach t).cnt = s.cnt := rfl
@[simp] theorem reach_jtag (t : Nat) (s : State) : (s.reach t).jtag = s.jtag := rfl
@[simp] theorem reach_tabs (t : Nat) (s : State) : (s.reach t).tabs = s.tabs := rfl
@[simp] theorem reach_links (t : Nat) (s : State) : (s.reach t).links = s.links := rfl
@[simp] theorem reach_pair (t : Nat) (s : State) : (s.reach t).pair = s.pair := rfl
@[simp] theorem reach_bridge (t : Nat) (s : State) : (s.reach t).bridge = s.bridge := rfl
@[simp] theorem reach_xl (t : Nat) (s : State) : (s.reach t).xl = s.xl := rfl
@[simp] theorem reach_rings (t : Nat) (s : State) : (s.reach t).rings = s.rings := rfl
@[simp] theorem reach_home (t : Nat) (s : State) : (s.reach t).home = s.home := rfl
@[simp] theorem reach_tick (t : Nat) (s : State) : (s.reach t).tick = s.tick := rfl
@[simp] theorem reach_qu (t : Nat) (s : State) : (s.reach t).qu = s.qu := rfl
@[simp] theorem reach_mill (t : Nat) (s : State) : (s.reach t).mill = s.mill := rfl

/-! ## wr -/

@[simp] theorem wr_pending (off : Nat) (v : Word) (s : State) : (s.wr off v).pending = s.pending := rfl
@[simp] theorem wr_out (off : Nat) (v : Word) (s : State) : (s.wr off v).out = s.out := rfl
@[simp] theorem wr_gapHeld (off : Nat) (v : Word) (s : State) : (s.wr off v).gapHeld = s.gapHeld := rfl
@[simp] theorem wr_fresh (off : Nat) (v : Word) (s : State) : (s.wr off v).fresh = s.fresh := rfl
@[simp] theorem wr_regs (off : Nat) (v : Word) (s : State) : (s.wr off v).regs = tput (resetValue off) s.regs off v := rfl
@[simp] theorem wr_clk (off : Nat) (v : Word) (s : State) : (s.wr off v).clk = s.clk := rfl
@[simp] theorem wr_alm (off : Nat) (v : Word) (s : State) : (s.wr off v).alm = s.alm := rfl
@[simp] theorem wr_pwr (off : Nat) (v : Word) (s : State) : (s.wr off v).pwr = s.pwr := rfl
@[simp] theorem wr_chain (off : Nat) (v : Word) (s : State) : (s.wr off v).chain = s.chain := rfl
@[simp] theorem wr_ras (off : Nat) (v : Word) (s : State) : (s.wr off v).ras = s.ras := rfl
@[simp] theorem wr_therm (off : Nat) (v : Word) (s : State) : (s.wr off v).therm = s.therm := rfl
@[simp] theorem wr_cnt (off : Nat) (v : Word) (s : State) : (s.wr off v).cnt = s.cnt := rfl
@[simp] theorem wr_jtag (off : Nat) (v : Word) (s : State) : (s.wr off v).jtag = s.jtag := rfl
@[simp] theorem wr_tabs (off : Nat) (v : Word) (s : State) : (s.wr off v).tabs = s.tabs := rfl
@[simp] theorem wr_links (off : Nat) (v : Word) (s : State) : (s.wr off v).links = s.links := rfl
@[simp] theorem wr_pair (off : Nat) (v : Word) (s : State) : (s.wr off v).pair = s.pair := rfl
@[simp] theorem wr_bridge (off : Nat) (v : Word) (s : State) : (s.wr off v).bridge = s.bridge := rfl
@[simp] theorem wr_xl (off : Nat) (v : Word) (s : State) : (s.wr off v).xl = s.xl := rfl
@[simp] theorem wr_rings (off : Nat) (v : Word) (s : State) : (s.wr off v).rings = s.rings := rfl
@[simp] theorem wr_home (off : Nat) (v : Word) (s : State) : (s.wr off v).home = s.home := rfl
@[simp] theorem wr_tick (off : Nat) (v : Word) (s : State) : (s.wr off v).tick = s.tick := rfl
@[simp] theorem wr_qu (off : Nat) (v : Word) (s : State) : (s.wr off v).qu = s.qu := rfl
@[simp] theorem wr_mill (off : Nat) (v : Word) (s : State) : (s.wr off v).mill = s.mill := rfl

/-! ## wf -/

@[simp] theorem wf_pending (off hi lo v : Nat) (s : State) : (s.wf off hi lo v).pending = s.pending := rfl
@[simp] theorem wf_out (off hi lo v : Nat) (s : State) : (s.wf off hi lo v).out = s.out := rfl
@[simp] theorem wf_gapHeld (off hi lo v : Nat) (s : State) : (s.wf off hi lo v).gapHeld = s.gapHeld := rfl
@[simp] theorem wf_fresh (off hi lo v : Nat) (s : State) : (s.wf off hi lo v).fresh = s.fresh := rfl
@[simp] theorem wf_regs (off hi lo v : Nat) (s : State) : (s.wf off hi lo v).regs = tput (resetValue off) s.regs off (setFld (s.rd off) hi lo v) := rfl
@[simp] theorem wf_clk (off hi lo v : Nat) (s : State) : (s.wf off hi lo v).clk = s.clk := rfl
@[simp] theorem wf_alm (off hi lo v : Nat) (s : State) : (s.wf off hi lo v).alm = s.alm := rfl
@[simp] theorem wf_pwr (off hi lo v : Nat) (s : State) : (s.wf off hi lo v).pwr = s.pwr := rfl
@[simp] theorem wf_chain (off hi lo v : Nat) (s : State) : (s.wf off hi lo v).chain = s.chain := rfl
@[simp] theorem wf_ras (off hi lo v : Nat) (s : State) : (s.wf off hi lo v).ras = s.ras := rfl
@[simp] theorem wf_therm (off hi lo v : Nat) (s : State) : (s.wf off hi lo v).therm = s.therm := rfl
@[simp] theorem wf_cnt (off hi lo v : Nat) (s : State) : (s.wf off hi lo v).cnt = s.cnt := rfl
@[simp] theorem wf_jtag (off hi lo v : Nat) (s : State) : (s.wf off hi lo v).jtag = s.jtag := rfl
@[simp] theorem wf_tabs (off hi lo v : Nat) (s : State) : (s.wf off hi lo v).tabs = s.tabs := rfl
@[simp] theorem wf_links (off hi lo v : Nat) (s : State) : (s.wf off hi lo v).links = s.links := rfl
@[simp] theorem wf_pair (off hi lo v : Nat) (s : State) : (s.wf off hi lo v).pair = s.pair := rfl
@[simp] theorem wf_bridge (off hi lo v : Nat) (s : State) : (s.wf off hi lo v).bridge = s.bridge := rfl
@[simp] theorem wf_xl (off hi lo v : Nat) (s : State) : (s.wf off hi lo v).xl = s.xl := rfl
@[simp] theorem wf_rings (off hi lo v : Nat) (s : State) : (s.wf off hi lo v).rings = s.rings := rfl
@[simp] theorem wf_home (off hi lo v : Nat) (s : State) : (s.wf off hi lo v).home = s.home := rfl
@[simp] theorem wf_tick (off hi lo v : Nat) (s : State) : (s.wf off hi lo v).tick = s.tick := rfl
@[simp] theorem wf_qu (off hi lo v : Nat) (s : State) : (s.wf off hi lo v).qu = s.qu := rfl
@[simp] theorem wf_mill (off hi lo v : Nat) (s : State) : (s.wf off hi lo v).mill = s.mill := rfl

/-! ## wb -/

@[simp] theorem wb_pending (off i : Nat) (b : Bool) (s : State) : (s.wb off i b).pending = s.pending := rfl
@[simp] theorem wb_out (off i : Nat) (b : Bool) (s : State) : (s.wb off i b).out = s.out := rfl
@[simp] theorem wb_gapHeld (off i : Nat) (b : Bool) (s : State) : (s.wb off i b).gapHeld = s.gapHeld := rfl
@[simp] theorem wb_fresh (off i : Nat) (b : Bool) (s : State) : (s.wb off i b).fresh = s.fresh := rfl
@[simp] theorem wb_regs (off i : Nat) (b : Bool) (s : State) : (s.wb off i b).regs = tput (resetValue off) s.regs off (putBit (s.rd off) i b) := rfl
@[simp] theorem wb_clk (off i : Nat) (b : Bool) (s : State) : (s.wb off i b).clk = s.clk := rfl
@[simp] theorem wb_alm (off i : Nat) (b : Bool) (s : State) : (s.wb off i b).alm = s.alm := rfl
@[simp] theorem wb_pwr (off i : Nat) (b : Bool) (s : State) : (s.wb off i b).pwr = s.pwr := rfl
@[simp] theorem wb_chain (off i : Nat) (b : Bool) (s : State) : (s.wb off i b).chain = s.chain := rfl
@[simp] theorem wb_ras (off i : Nat) (b : Bool) (s : State) : (s.wb off i b).ras = s.ras := rfl
@[simp] theorem wb_therm (off i : Nat) (b : Bool) (s : State) : (s.wb off i b).therm = s.therm := rfl
@[simp] theorem wb_cnt (off i : Nat) (b : Bool) (s : State) : (s.wb off i b).cnt = s.cnt := rfl
@[simp] theorem wb_jtag (off i : Nat) (b : Bool) (s : State) : (s.wb off i b).jtag = s.jtag := rfl
@[simp] theorem wb_tabs (off i : Nat) (b : Bool) (s : State) : (s.wb off i b).tabs = s.tabs := rfl
@[simp] theorem wb_links (off i : Nat) (b : Bool) (s : State) : (s.wb off i b).links = s.links := rfl
@[simp] theorem wb_pair (off i : Nat) (b : Bool) (s : State) : (s.wb off i b).pair = s.pair := rfl
@[simp] theorem wb_bridge (off i : Nat) (b : Bool) (s : State) : (s.wb off i b).bridge = s.bridge := rfl
@[simp] theorem wb_xl (off i : Nat) (b : Bool) (s : State) : (s.wb off i b).xl = s.xl := rfl
@[simp] theorem wb_rings (off i : Nat) (b : Bool) (s : State) : (s.wb off i b).rings = s.rings := rfl
@[simp] theorem wb_home (off i : Nat) (b : Bool) (s : State) : (s.wb off i b).home = s.home := rfl
@[simp] theorem wb_tick (off i : Nat) (b : Bool) (s : State) : (s.wb off i b).tick = s.tick := rfl
@[simp] theorem wb_qu (off i : Nat) (b : Bool) (s : State) : (s.wb off i b).qu = s.qu := rfl
@[simp] theorem wb_mill (off i : Nat) (b : Bool) (s : State) : (s.wb off i b).mill = s.mill := rfl

/-! ## raiseRec -/

@[simp] theorem raiseRec_pending (r : ErrRec) (s : State) : (s.raiseRec r).pending = s.pending := rfl
@[simp] theorem raiseRec_out (r : ErrRec) (s : State) : (s.raiseRec r).out = s.out := rfl
@[simp] theorem raiseRec_gapHeld (r : ErrRec) (s : State) : (s.raiseRec r).gapHeld = s.gapHeld := rfl
@[simp] theorem raiseRec_fresh (r : ErrRec) (s : State) : (s.raiseRec r).fresh = s.fresh := rfl
@[simp] theorem raiseRec_regs (r : ErrRec) (s : State) : (s.raiseRec r).regs = s.regs := rfl
@[simp] theorem raiseRec_clk (r : ErrRec) (s : State) : (s.raiseRec r).clk = s.clk := rfl
@[simp] theorem raiseRec_alm (r : ErrRec) (s : State) : (s.raiseRec r).alm = s.alm := rfl
@[simp] theorem raiseRec_pwr (r : ErrRec) (s : State) : (s.raiseRec r).pwr = s.pwr := rfl
@[simp] theorem raiseRec_chain (r : ErrRec) (s : State) : (s.raiseRec r).chain = s.chain := rfl
@[simp] theorem raiseRec_ras (r : ErrRec) (s : State) : (s.raiseRec r).ras = { s.ras with inbox := s.ras.inbox ++ [r] } := rfl
@[simp] theorem raiseRec_therm (r : ErrRec) (s : State) : (s.raiseRec r).therm = s.therm := rfl
@[simp] theorem raiseRec_cnt (r : ErrRec) (s : State) : (s.raiseRec r).cnt = s.cnt := rfl
@[simp] theorem raiseRec_jtag (r : ErrRec) (s : State) : (s.raiseRec r).jtag = s.jtag := rfl
@[simp] theorem raiseRec_tabs (r : ErrRec) (s : State) : (s.raiseRec r).tabs = s.tabs := rfl
@[simp] theorem raiseRec_links (r : ErrRec) (s : State) : (s.raiseRec r).links = s.links := rfl
@[simp] theorem raiseRec_pair (r : ErrRec) (s : State) : (s.raiseRec r).pair = s.pair := rfl
@[simp] theorem raiseRec_bridge (r : ErrRec) (s : State) : (s.raiseRec r).bridge = s.bridge := rfl
@[simp] theorem raiseRec_xl (r : ErrRec) (s : State) : (s.raiseRec r).xl = s.xl := rfl
@[simp] theorem raiseRec_rings (r : ErrRec) (s : State) : (s.raiseRec r).rings = s.rings := rfl
@[simp] theorem raiseRec_home (r : ErrRec) (s : State) : (s.raiseRec r).home = s.home := rfl
@[simp] theorem raiseRec_tick (r : ErrRec) (s : State) : (s.raiseRec r).tick = s.tick := rfl
@[simp] theorem raiseRec_qu (r : ErrRec) (s : State) : (s.raiseRec r).qu = s.qu := rfl
@[simp] theorem raiseRec_mill (r : ErrRec) (s : State) : (s.raiseRec r).mill = s.mill := rfl

/-! ## free -/

@[simp] theorem free_pending (s : State) : s.free.2.pending = s.pending := rfl
@[simp] theorem free_out (s : State) : s.free.2.out = s.out := rfl
@[simp] theorem free_gapHeld (s : State) : s.free.2.gapHeld = s.gapHeld := rfl
@[simp] theorem free_fresh (s : State) : s.free.2.fresh = s.fresh + 1 := rfl
@[simp] theorem free_regs (s : State) : s.free.2.regs = s.regs := rfl
@[simp] theorem free_clk (s : State) : s.free.2.clk = s.clk := rfl
@[simp] theorem free_alm (s : State) : s.free.2.alm = s.alm := rfl
@[simp] theorem free_pwr (s : State) : s.free.2.pwr = s.pwr := rfl
@[simp] theorem free_chain (s : State) : s.free.2.chain = s.chain := rfl
@[simp] theorem free_ras (s : State) : s.free.2.ras = s.ras := rfl
@[simp] theorem free_therm (s : State) : s.free.2.therm = s.therm := rfl
@[simp] theorem free_cnt (s : State) : s.free.2.cnt = s.cnt := rfl
@[simp] theorem free_jtag (s : State) : s.free.2.jtag = s.jtag := rfl
@[simp] theorem free_tabs (s : State) : s.free.2.tabs = s.tabs := rfl
@[simp] theorem free_links (s : State) : s.free.2.links = s.links := rfl
@[simp] theorem free_pair (s : State) : s.free.2.pair = s.pair := rfl
@[simp] theorem free_bridge (s : State) : s.free.2.bridge = s.bridge := rfl
@[simp] theorem free_xl (s : State) : s.free.2.xl = s.xl := rfl
@[simp] theorem free_rings (s : State) : s.free.2.rings = s.rings := rfl
@[simp] theorem free_home (s : State) : s.free.2.home = s.home := rfl
@[simp] theorem free_tick (s : State) : s.free.2.tick = s.tick := rfl
@[simp] theorem free_qu (s : State) : s.free.2.qu = s.qu := rfl
@[simp] theorem free_mill (s : State) : s.free.2.mill = s.mill := rfl

/-! ## freeLine -/

@[simp] theorem freeLine_pending (s : State) : s.freeLine.2.pending = s.pending := rfl
@[simp] theorem freeLine_out (s : State) : s.freeLine.2.out = s.out := rfl
@[simp] theorem freeLine_gapHeld (s : State) : s.freeLine.2.gapHeld = s.gapHeld := rfl
@[simp] theorem freeLine_fresh (s : State) : s.freeLine.2.fresh = s.fresh + 1 := rfl
@[simp] theorem freeLine_regs (s : State) : s.freeLine.2.regs = s.regs := rfl
@[simp] theorem freeLine_clk (s : State) : s.freeLine.2.clk = s.clk := rfl
@[simp] theorem freeLine_alm (s : State) : s.freeLine.2.alm = s.alm := rfl
@[simp] theorem freeLine_pwr (s : State) : s.freeLine.2.pwr = s.pwr := rfl
@[simp] theorem freeLine_chain (s : State) : s.freeLine.2.chain = s.chain := rfl
@[simp] theorem freeLine_ras (s : State) : s.freeLine.2.ras = s.ras := rfl
@[simp] theorem freeLine_therm (s : State) : s.freeLine.2.therm = s.therm := rfl
@[simp] theorem freeLine_cnt (s : State) : s.freeLine.2.cnt = s.cnt := rfl
@[simp] theorem freeLine_jtag (s : State) : s.freeLine.2.jtag = s.jtag := rfl
@[simp] theorem freeLine_tabs (s : State) : s.freeLine.2.tabs = s.tabs := rfl
@[simp] theorem freeLine_links (s : State) : s.freeLine.2.links = s.links := rfl
@[simp] theorem freeLine_pair (s : State) : s.freeLine.2.pair = s.pair := rfl
@[simp] theorem freeLine_bridge (s : State) : s.freeLine.2.bridge = s.bridge := rfl
@[simp] theorem freeLine_xl (s : State) : s.freeLine.2.xl = s.xl := rfl
@[simp] theorem freeLine_rings (s : State) : s.freeLine.2.rings = s.rings := rfl
@[simp] theorem freeLine_home (s : State) : s.freeLine.2.home = s.home := rfl
@[simp] theorem freeLine_tick (s : State) : s.freeLine.2.tick = s.tick := rfl
@[simp] theorem freeLine_qu (s : State) : s.freeLine.2.qu = s.qu := rfl
@[simp] theorem freeLine_mill (s : State) : s.freeLine.2.mill = s.mill := rfl

/-! ## setMode -/

@[simp] theorem setMode_pending (m : Mode) (s : State) : (setMode m s).pending = s.pending := rfl
@[simp] theorem setMode_out (m : Mode) (s : State) : (setMode m s).out = s.out := rfl
@[simp] theorem setMode_gapHeld (m : Mode) (s : State) : (setMode m s).gapHeld = s.gapHeld := rfl
@[simp] theorem setMode_fresh (m : Mode) (s : State) : (setMode m s).fresh = s.fresh := rfl
@[simp] theorem setMode_regs (m : Mode) (s : State) : (setMode m s).regs = s.regs := rfl
@[simp] theorem setMode_clk (m : Mode) (s : State) : (setMode m s).clk = s.clk := rfl
@[simp] theorem setMode_alm (m : Mode) (s : State) : (setMode m s).alm = { s.alm with prev := s.alm.mode, mode := m, entry := s.now } := rfl
@[simp] theorem setMode_pwr (m : Mode) (s : State) : (setMode m s).pwr = s.pwr := rfl
@[simp] theorem setMode_chain (m : Mode) (s : State) : (setMode m s).chain = s.chain := rfl
@[simp] theorem setMode_ras (m : Mode) (s : State) : (setMode m s).ras = s.ras := rfl
@[simp] theorem setMode_therm (m : Mode) (s : State) : (setMode m s).therm = s.therm := rfl
@[simp] theorem setMode_cnt (m : Mode) (s : State) : (setMode m s).cnt = s.cnt := rfl
@[simp] theorem setMode_jtag (m : Mode) (s : State) : (setMode m s).jtag = s.jtag := rfl
@[simp] theorem setMode_tabs (m : Mode) (s : State) : (setMode m s).tabs = s.tabs := rfl
@[simp] theorem setMode_links (m : Mode) (s : State) : (setMode m s).links = s.links := rfl
@[simp] theorem setMode_pair (m : Mode) (s : State) : (setMode m s).pair = s.pair := rfl
@[simp] theorem setMode_bridge (m : Mode) (s : State) : (setMode m s).bridge = s.bridge := rfl
@[simp] theorem setMode_xl (m : Mode) (s : State) : (setMode m s).xl = s.xl := rfl
@[simp] theorem setMode_rings (m : Mode) (s : State) : (setMode m s).rings = s.rings := rfl
@[simp] theorem setMode_home (m : Mode) (s : State) : (setMode m s).home = s.home := rfl
@[simp] theorem setMode_tick (m : Mode) (s : State) : (setMode m s).tick = s.tick := rfl
@[simp] theorem setMode_qu (m : Mode) (s : State) : (setMode m s).qu = s.qu := rfl
@[simp] theorem setMode_mill (m : Mode) (s : State) : (setMode m s).mill = s.mill := rfl

/-! ## The register bank -/

@[simp] theorem rd_wr_self (off : Nat) (v : Word) (s : State) : (s.wr off v).rd off = v := by
  simp only [State.rd, State.wr]
  unfold tput
  split
  · rename_i h
    rw [h]
    simp
  · simp

theorem rd_wr_ne {off o : Nat} (v : Word) (s : State) (h : o ≠ off) : (s.wr off v).rd o = s.rd o := by
  simp only [State.rd, State.wr, tget_tput_ne _ _ _ h]

@[simp] theorem rd_emit (m : Msg) (s : State) (off : Nat) : (s.emit m).rd off = s.rd off := rfl
@[simp] theorem rd_reach (t : Nat) (s : State) (off : Nat) : (s.reach t).rd off = s.rd off := rfl
@[simp] theorem rd_raiseRec (r : ErrRec) (s : State) (off : Nat) : (s.raiseRec r).rd off = s.rd off := rfl
@[simp] theorem rd_free (s : State) (off : Nat) : s.free.2.rd off = s.rd off := rfl
@[simp] theorem rd_setMode (m : Mode) (s : State) (off : Nat) : (setMode m s).rd off = s.rd off := rfl

/-- A field that is stored reads as stored. -/
@[simp] theorem rd_wf_self (off hi lo v : Nat) (s : State) : (s.wf off hi lo v).rd off = setFld (s.rd off) hi lo v := by
  simp [State.wf]

@[simp] theorem rd_wb_self (off i : Nat) (b : Bool) (s : State) : (s.wb off i b).rd off = putBit (s.rd off) i b := by
  simp [State.wb]

theorem rd_wf_ne {off o : Nat} (hi lo v : Nat) (s : State) (h : o ≠ off) : (s.wf off hi lo v).rd o = s.rd o := by
  simp [State.wf, rd_wr_ne _ _ h]

theorem rd_wb_ne {off o : Nat} (i : Nat) (b : Bool) (s : State) (h : o ≠ off) : (s.wb off i b).rd o = s.rd o := by
  simp [State.wb, rd_wr_ne _ _ h]

/-- The bank stays in its canonical form where it is stored with its reset values as defaults: a stored register is listed only
when it differs. -/
theorem wr_lists (off : Nat) (v : Word) (s : State) : tget (s.wr off v).regs off = if v = resetValue off then none else some v := by
  simp only [State.wr]
  unfold tput
  split <;> simp_all

/-! ## Bits -/

theorem bitAt_putBit_self (w : Word) {i : Nat} (b : Bool) (h : i < 64) : bitAt (putBit w i b) i = b := by
  have hp : (BitVec.ofNat 64 (2 ^ i)).getLsbD i = true := by
    rw [BitVec.getLsbD_ofNat, Nat.testBit_two_pow_self, decide_eq_true h]
    rfl
  cases b
  · show (w &&& ~~~(BitVec.ofNat 64 (2 ^ i))).getLsbD i = false
    rw [BitVec.getLsbD_and, BitVec.getLsbD_not, hp]
    cases w.getLsbD i <;> cases (decide (i < 64)) <;> rfl
  · show (w ||| BitVec.ofNat 64 (2 ^ i)).getLsbD i = true
    rw [BitVec.getLsbD_or, hp]
    cases w.getLsbD i <;> rfl

@[simp] theorem bitAt_zero (i : Nat) : bitAt 0#64 i = false := BitVec.getLsbD_zero

/-! ## Time, modes, records -/

@[simp] theorem now_emit (m : Msg) (s : State) : (s.emit m).now = s.now := rfl
@[simp] theorem now_wr (off : Nat) (v : Word) (s : State) : (s.wr off v).now = s.now := rfl
@[simp] theorem now_reach (t : Nat) (s : State) : (s.reach t).now = max s.now t := rfl
@[simp] theorem mode_emit (m : Msg) (s : State) : (s.emit m).mode = s.mode := rfl
@[simp] theorem mode_wr (off : Nat) (v : Word) (s : State) : (s.wr off v).mode = s.mode := rfl
@[simp] theorem mode_setMode (m : Mode) (s : State) : (setMode m s).mode = m := rfl

/-- A unit's record waits at the error logger, after those written before it. -/
theorem raise_inbox (cls : Nat) (sev : Sev) (u : UnitKind) (inst info : Nat) (s : State) :
    (s.raise cls sev u inst info).ras.inbox = s.ras.inbox ++ [mkRec s cls sev u inst info] := rfl

/-- Outside the modes that carry traffic a step of the data path changes nothing. -/
theorem whenCarries_off {s : State} (f : State → State) (h : s.mode.carries = false) : whenCarries f s = s := by
  simp [whenCarries, h]

theorem whenCarries_on {s : State} (f : State → State) (h : s.mode.carries = true) : whenCarries f s = f s := by
  simp [whenCarries, h]

end Sys2Proof.Machine
end

