-- ==== Sys2Proof/Laws/Bridge.lean ====
section
/-! SUPPORT. What the operations that change one tracker, one item, one legacy port or one host's coherence state leave in each field, and
what the drawing of a TAG and the pacing of a channel answer. -/
namespace Sys2Proof.Machine

/-! ## modTrk -/

@[simp] theorem modTrk_pending (k : Nat) (f : Trk → Trk) (s : State) : (s.modTrk k f).pending = s.pending := rfl
@[simp] theorem modTrk_out (k : Nat) (f : Trk → Trk) (s : State) : (s.modTrk k f).out = s.out := rfl
@[simp] theorem modTrk_gapHeld (k : Nat) (f : Trk → Trk) (s : State) : (s.modTrk k f).gapHeld = s.gapHeld := rfl
@[simp] theorem modTrk_fresh (k : Nat) (f : Trk → Trk) (s : State) : (s.modTrk k f).fresh = s.fresh := rfl
@[simp] theorem modTrk_regs (k : Nat) (f : Trk → Trk) (s : State) : (s.modTrk k f).regs = s.regs := rfl
@[simp] theorem modTrk_clk (k : Nat) (f : Trk → Trk) (s : State) : (s.modTrk k f).clk = s.clk := rfl
@[simp] theorem modTrk_alm (k : Nat) (f : Trk → Trk) (s : State) : (s.modTrk k f).alm = s.alm := rfl
@[simp] theorem modTrk_pwr (k : Nat) (f : Trk → Trk) (s : State) : (s.modTrk k f).pwr = s.pwr := rfl
@[simp] theorem modTrk_chain (k : Nat) (f : Trk → Trk) (s : State) : (s.modTrk k f).chain = s.chain := rfl
@[simp] theorem modTrk_ras (k : Nat) (f : Trk → Trk) (s : State) : (s.modTrk k f).ras = s.ras := rfl
@[simp] theorem modTrk_therm (k : Nat) (f : Trk → Trk) (s : State) : (s.modTrk k f).therm = s.therm := rfl
@[simp] theorem modTrk_cnt (k : Nat) (f : Trk → Trk) (s : State) : (s.modTrk k f).cnt = s.cnt := rfl
@[simp] theorem modTrk_jtag (k : Nat) (f : Trk → Trk) (s : State) : (s.modTrk k f).jtag = s.jtag := rfl
@[simp] theorem modTrk_tabs (k : Nat) (f : Trk → Trk) (s : State) : (s.modTrk k f).tabs = s.tabs := rfl
@[simp] theorem modTrk_links (k : Nat) (f : Trk → Trk) (s : State) : (s.modTrk k f).links = s.links := rfl
@[simp] theorem modTrk_pair (k : Nat) (f : Trk → Trk) (s : State) : (s.modTrk k f).pair = s.pair := rfl
@[simp] theorem modTrk_bridge (k : Nat) (f : Trk → Trk) (s : State) : (s.modTrk k f).bridge = { s.bridge with trks := tmod s.bridge.trks k f } := rfl
@[simp] theorem modTrk_xl (k : Nat) (f : Trk → Trk) (s : State) : (s.modTrk k f).xl = s.xl := rfl
@[simp] theorem modTrk_rings (k : Nat) (f : Trk → Trk) (s : State) : (s.modTrk k f).rings = s.rings := rfl
@[simp] theorem modTrk_home (k : Nat) (f : Trk → Trk) (s : State) : (s.modTrk k f).home = s.home := rfl
@[simp] theorem modTrk_tick (k : Nat) (f : Trk → Trk) (s : State) : (s.modTrk k f).tick = s.tick := rfl
@[simp] theorem modTrk_qu (k : Nat) (f : Trk → Trk) (s : State) : (s.modTrk k f).qu = s.qu := rfl
@[simp] theorem modTrk_mill (k : Nat) (f : Trk → Trk) (s : State) : (s.modTrk k f).mill = s.mill := rfl

/-! ## modItem -/

@[simp] theorem modItem_pending (i : Nat) (f : Item → Item) (s : State) : (s.modItem i f).pending = s.pending := rfl
@[simp] theorem modItem_out (i : Nat) (f : Item → Item) (s : State) : (s.modItem i f).out = s.out := rfl
@[simp] theorem modItem_gapHeld (i : Nat) (f : Item → Item) (s : State) : (s.modItem i f).gapHeld = s.gapHeld := rfl
@[simp] theorem modItem_fresh (i : Nat) (f : Item → Item) (s : State) : (s.modItem i f).fresh = s.fresh := rfl
@[simp] theorem modItem_regs (i : Nat) (f : Item → Item) (s : State) : (s.modItem i f).regs = s.regs := rfl
@[simp] theorem modItem_clk (i : Nat) (f : Item → Item) (s : State) : (s.modItem i f).clk = s.clk := rfl
@[simp] theorem modItem_alm (i : Nat) (f : Item → Item) (s : State) : (s.modItem i f).alm = s.alm := rfl
@[simp] theorem modItem_pwr (i : Nat) (f : Item → Item) (s : State) : (s.modItem i f).pwr = s.pwr := rfl
@[simp] theorem modItem_chain (i : Nat) (f : Item → Item) (s : State) : (s.modItem i f).chain = s.chain := rfl
@[simp] theorem modItem_ras (i : Nat) (f : Item → Item) (s : State) : (s.modItem i f).ras = s.ras := rfl
@[simp] theorem modItem_therm (i : Nat) (f : Item → Item) (s : State) : (s.modItem i f).therm = s.therm := rfl
@[simp] theorem modItem_cnt (i : Nat) (f : Item → Item) (s : State) : (s.modItem i f).cnt = s.cnt := rfl
@[simp] theorem modItem_jtag (i : Nat) (f : Item → Item) (s : State) : (s.modItem i f).jtag = s.jtag := rfl
@[simp] theorem modItem_tabs (i : Nat) (f : Item → Item) (s : State) : (s.modItem i f).tabs = s.tabs := rfl
@[simp] theorem modItem_links (i : Nat) (f : Item → Item) (s : State) : (s.modItem i f).links = s.links := rfl
@[simp] theorem modItem_pair (i : Nat) (f : Item → Item) (s : State) : (s.modItem i f).pair = s.pair := rfl
@[simp] theorem modItem_bridge (i : Nat) (f : Item → Item) (s : State) : (s.modItem i f).bridge = { s.bridge with items := tmod s.bridge.items i f } := rfl
@[simp] theorem modItem_xl (i : Nat) (f : Item → Item) (s : State) : (s.modItem i f).xl = s.xl := rfl
@[simp] theorem modItem_rings (i : Nat) (f : Item → Item) (s : State) : (s.modItem i f).rings = s.rings := rfl
@[simp] theorem modItem_home (i : Nat) (f : Item → Item) (s : State) : (s.modItem i f).home = s.home := rfl
@[simp] theorem modItem_tick (i : Nat) (f : Item → Item) (s : State) : (s.modItem i f).tick = s.tick := rfl
@[simp] theorem modItem_qu (i : Nat) (f : Item → Item) (s : State) : (s.modItem i f).qu = s.qu := rfl
@[simp] theorem modItem_mill (i : Nat) (f : Item → Item) (s : State) : (s.modItem i f).mill = s.mill := rfl

/-! ## dropItem -/

@[simp] theorem dropItem_pending (i : Nat) (s : State) : (dropItem i s).pending = s.pending := rfl
@[simp] theorem dropItem_out (i : Nat) (s : State) : (dropItem i s).out = s.out := rfl
@[simp] theorem dropItem_gapHeld (i : Nat) (s : State) : (dropItem i s).gapHeld = s.gapHeld := rfl
@[simp] theorem dropItem_fresh (i : Nat) (s : State) : (dropItem i s).fresh = s.fresh := rfl
@[simp] theorem dropItem_regs (i : Nat) (s : State) : (dropItem i s).regs = s.regs := rfl
@[simp] theorem dropItem_clk (i : Nat) (s : State) : (dropItem i s).clk = s.clk := rfl
@[simp] theorem dropItem_alm (i : Nat) (s : State) : (dropItem i s).alm = s.alm := rfl
@[simp] theorem dropItem_pwr (i : Nat) (s : State) : (dropItem i s).pwr = s.pwr := rfl
@[simp] theorem dropItem_chain (i : Nat) (s : State) : (dropItem i s).chain = s.chain := rfl
@[simp] theorem dropItem_ras (i : Nat) (s : State) : (dropItem i s).ras = s.ras := rfl
@[simp] theorem dropItem_therm (i : Nat) (s : State) : (dropItem i s).therm = s.therm := rfl
@[simp] theorem dropItem_cnt (i : Nat) (s : State) : (dropItem i s).cnt = s.cnt := rfl
@[simp] theorem dropItem_jtag (i : Nat) (s : State) : (dropItem i s).jtag = s.jtag := rfl
@[simp] theorem dropItem_tabs (i : Nat) (s : State) : (dropItem i s).tabs = s.tabs := rfl
@[simp] theorem dropItem_links (i : Nat) (s : State) : (dropItem i s).links = s.links := rfl
@[simp] theorem dropItem_pair (i : Nat) (s : State) : (dropItem i s).pair = s.pair := rfl
@[simp] theorem dropItem_bridge (i : Nat) (s : State) : (dropItem i s).bridge = { s.bridge with items := terase s.bridge.items i } := rfl
@[simp] theorem dropItem_xl (i : Nat) (s : State) : (dropItem i s).xl = s.xl := rfl
@[simp] theorem dropItem_rings (i : Nat) (s : State) : (dropItem i s).rings = s.rings := rfl
@[simp] theorem dropItem_home (i : Nat) (s : State) : (dropItem i s).home = s.home := rfl
@[simp] theorem dropItem_tick (i : Nat) (s : State) : (dropItem i s).tick = s.tick := rfl
@[simp] theorem dropItem_qu (i : Nat) (s : State) : (dropItem i s).qu = s.qu := rfl
@[simp] theorem dropItem_mill (i : Nat) (s : State) : (dropItem i s).mill = s.mill := rfl

/-! ## modLeg -/

@[simp] theorem modLeg_pending (p : Nat) (f : Leg → Leg) (s : State) : (s.modLeg p f).pending = s.pending := rfl
@[simp] theorem modLeg_out (p : Nat) (f : Leg → Leg) (s : State) : (s.modLeg p f).out = s.out := rfl
@[simp] theorem modLeg_gapHeld (p : Nat) (f : Leg → Leg) (s : State) : (s.modLeg p f).gapHeld = s.gapHeld := rfl
@[simp] theorem modLeg_fresh (p : Nat) (f : Leg → Leg) (s : State) : (s.modLeg p f).fresh = s.fresh := rfl
@[simp] theorem modLeg_regs (p : Nat) (f : Leg → Leg) (s : State) : (s.modLeg p f).regs = s.regs := rfl
@[simp] theorem modLeg_clk (p : Nat) (f : Leg → Leg) (s : State) : (s.modLeg p f).clk = s.clk := rfl
@[simp] theorem modLeg_alm (p : Nat) (f : Leg → Leg) (s : State) : (s.modLeg p f).alm = s.alm := rfl
@[simp] theorem modLeg_pwr (p : Nat) (f : Leg → Leg) (s : State) : (s.modLeg p f).pwr = s.pwr := rfl
@[simp] theorem modLeg_chain (p : Nat) (f : Leg → Leg) (s : State) : (s.modLeg p f).chain = s.chain := rfl
@[simp] theorem modLeg_ras (p : Nat) (f : Leg → Leg) (s : State) : (s.modLeg p f).ras = s.ras := rfl
@[simp] theorem modLeg_therm (p : Nat) (f : Leg → Leg) (s : State) : (s.modLeg p f).therm = s.therm := rfl
@[simp] theorem modLeg_cnt (p : Nat) (f : Leg → Leg) (s : State) : (s.modLeg p f).cnt = s.cnt := rfl
@[simp] theorem modLeg_jtag (p : Nat) (f : Leg → Leg) (s : State) : (s.modLeg p f).jtag = s.jtag := rfl
@[simp] theorem modLeg_tabs (p : Nat) (f : Leg → Leg) (s : State) : (s.modLeg p f).tabs = s.tabs := rfl
@[simp] theorem modLeg_links (p : Nat) (f : Leg → Leg) (s : State) : (s.modLeg p f).links = s.links := rfl
@[simp] theorem modLeg_pair (p : Nat) (f : Leg → Leg) (s : State) : (s.modLeg p f).pair = s.pair := rfl
@[simp] theorem modLeg_bridge (p : Nat) (f : Leg → Leg) (s : State) : (s.modLeg p f).bridge = { s.bridge with legs := tmod s.bridge.legs p f } := rfl
@[simp] theorem modLeg_xl (p : Nat) (f : Leg → Leg) (s : State) : (s.modLeg p f).xl = s.xl := rfl
@[simp] theorem modLeg_rings (p : Nat) (f : Leg → Leg) (s : State) : (s.modLeg p f).rings = s.rings := rfl
@[simp] theorem modLeg_home (p : Nat) (f : Leg → Leg) (s : State) : (s.modLeg p f).home = s.home := rfl
@[simp] theorem modLeg_tick (p : Nat) (f : Leg → Leg) (s : State) : (s.modLeg p f).tick = s.tick := rfl
@[simp] theorem modLeg_qu (p : Nat) (f : Leg → Leg) (s : State) : (s.modLeg p f).qu = s.qu := rfl
@[simp] theorem modLeg_mill (p : Nat) (f : Leg → Leg) (s : State) : (s.modLeg p f).mill = s.mill := rfl

/-! ## modCoh -/

@[simp] theorem modCoh_pending (h : Nat) (f : Coh → Coh) (s : State) : (s.modCoh h f).pending = s.pending := rfl
@[simp] theorem modCoh_out (h : Nat) (f : Coh → Coh) (s : State) : (s.modCoh h f).out = s.out := rfl
@[simp] theorem modCoh_gapHeld (h : Nat) (f : Coh → Coh) (s : State) : (s.modCoh h f).gapHeld = s.gapHeld := rfl
@[simp] theorem modCoh_fresh (h : Nat) (f : Coh → Coh) (s : State) : (s.modCoh h f).fresh = s.fresh := rfl
@[simp] theorem modCoh_regs (h : Nat) (f : Coh → Coh) (s : State) : (s.modCoh h f).regs = s.regs := rfl
@[simp] theorem modCoh_clk (h : Nat) (f : Coh → Coh) (s : State) : (s.modCoh h f).clk = s.clk := rfl
@[simp] theorem modCoh_alm (h : Nat) (f : Coh → Coh) (s : State) : (s.modCoh h f).alm = s.alm := rfl
@[simp] theorem modCoh_pwr (h : Nat) (f : Coh → Coh) (s : State) : (s.modCoh h f).pwr = s.pwr := rfl
@[simp] theorem modCoh_chain (h : Nat) (f : Coh → Coh) (s : State) : (s.modCoh h f).chain = s.chain := rfl
@[simp] theorem modCoh_ras (h : Nat) (f : Coh → Coh) (s : State) : (s.modCoh h f).ras = s.ras := rfl
@[simp] theorem modCoh_therm (h : Nat) (f : Coh → Coh) (s : State) : (s.modCoh h f).therm = s.therm := rfl
@[simp] theorem modCoh_cnt (h : Nat) (f : Coh → Coh) (s : State) : (s.modCoh h f).cnt = s.cnt := rfl
@[simp] theorem modCoh_jtag (h : Nat) (f : Coh → Coh) (s : State) : (s.modCoh h f).jtag = s.jtag := rfl
@[simp] theorem modCoh_tabs (h : Nat) (f : Coh → Coh) (s : State) : (s.modCoh h f).tabs = s.tabs := rfl
@[simp] theorem modCoh_links (h : Nat) (f : Coh → Coh) (s : State) : (s.modCoh h f).links = s.links := rfl
@[simp] theorem modCoh_pair (h : Nat) (f : Coh → Coh) (s : State) : (s.modCoh h f).pair = s.pair := rfl
@[simp] theorem modCoh_bridge (h : Nat) (f : Coh → Coh) (s : State) : (s.modCoh h f).bridge = s.bridge := rfl
@[simp] theorem modCoh_xl (h : Nat) (f : Coh → Coh) (s : State) : (s.modCoh h f).xl = s.xl := rfl
@[simp] theorem modCoh_rings (h : Nat) (f : Coh → Coh) (s : State) : (s.modCoh h f).rings = s.rings := rfl
@[simp] theorem modCoh_home (h : Nat) (f : Coh → Coh) (s : State) : (s.modCoh h f).home = { s.home with cohs := tput newCoh s.home.cohs h (f (s.coh h)) } := rfl
@[simp] theorem modCoh_tick (h : Nat) (f : Coh → Coh) (s : State) : (s.modCoh h f).tick = s.tick := rfl
@[simp] theorem modCoh_qu (h : Nat) (f : Coh → Coh) (s : State) : (s.modCoh h f).qu = s.qu := rfl
@[simp] theorem modCoh_mill (h : Nat) (f : Coh → Coh) (s : State) : (s.modCoh h f).mill = s.mill := rfl

/-! ## waitIn -/

@[simp] theorem waitIn_pending (bp : Nat) (g : Ingress) (s : State) : (waitIn bp g s).pending = s.pending := rfl
@[simp] theorem waitIn_out (bp : Nat) (g : Ingress) (s : State) : (waitIn bp g s).out = s.out := rfl
@[simp] theorem waitIn_gapHeld (bp : Nat) (g : Ingress) (s : State) : (waitIn bp g s).gapHeld = s.gapHeld := rfl
@[simp] theorem waitIn_fresh (bp : Nat) (g : Ingress) (s : State) : (waitIn bp g s).fresh = s.fresh := rfl
@[simp] theorem waitIn_regs (bp : Nat) (g : Ingress) (s : State) : (waitIn bp g s).regs = s.regs := rfl
@[simp] theorem waitIn_clk (bp : Nat) (g : Ingress) (s : State) : (waitIn bp g s).clk = s.clk := rfl
@[simp] theorem waitIn_alm (bp : Nat) (g : Ingress) (s : State) : (waitIn bp g s).alm = s.alm := rfl
@[simp] theorem waitIn_pwr (bp : Nat) (g : Ingress) (s : State) : (waitIn bp g s).pwr = s.pwr := rfl
@[simp] theorem waitIn_chain (bp : Nat) (g : Ingress) (s : State) : (waitIn bp g s).chain = s.chain := rfl
@[simp] theorem waitIn_ras (bp : Nat) (g : Ingress) (s : State) : (waitIn bp g s).ras = s.ras := rfl
@[simp] theorem waitIn_therm (bp : Nat) (g : Ingress) (s : State) : (waitIn bp g s).therm = s.therm := rfl
@[simp] theorem waitIn_cnt (bp : Nat) (g : Ingress) (s : State) : (waitIn bp g s).cnt = s.cnt := rfl
@[simp] theorem waitIn_jtag (bp : Nat) (g : Ingress) (s : State) : (waitIn bp g s).jtag = s.jtag := rfl
@[simp] theorem waitIn_tabs (bp : Nat) (g : Ingress) (s : State) : (waitIn bp g s).tabs = s.tabs := rfl
@[simp] theorem waitIn_links (bp : Nat) (g : Ingress) (s : State) : (waitIn bp g s).links = s.links := rfl
@[simp] theorem waitIn_pair (bp : Nat) (g : Ingress) (s : State) : (waitIn bp g s).pair = s.pair := rfl
@[simp] theorem waitIn_bridge (bp : Nat) (g : Ingress) (s : State) : (waitIn bp g s).bridge = { s.bridge with waiting := s.bridge.waiting ++ [(bp, g)] } := rfl
@[simp] theorem waitIn_xl (bp : Nat) (g : Ingress) (s : State) : (waitIn bp g s).xl = s.xl := rfl
@[simp] theorem waitIn_rings (bp : Nat) (g : Ingress) (s : State) : (waitIn bp g s).rings = s.rings := rfl
@[simp] theorem waitIn_home (bp : Nat) (g : Ingress) (s : State) : (waitIn bp g s).home = s.home := rfl
@[simp] theorem waitIn_tick (bp : Nat) (g : Ingress) (s : State) : (waitIn bp g s).tick = s.tick := rfl
@[simp] theorem waitIn_qu (bp : Nat) (g : Ingress) (s : State) : (waitIn bp g s).qu = s.qu := rfl
@[simp] theorem waitIn_mill (bp : Nat) (g : Ingress) (s : State) : (waitIn bp g s).mill = s.mill := rfl

/-! ## TAGs -/

/-- A TAG that is drawn is one of the 256, and no open post holds it. -/
theorem freeFrom_some {start g : Nat} {used : List Nat} (h : freeFrom start used = some g) : g < 256 ∧ g ∉ used := by
  have hm := List.mem_of_find?_eq_some h
  obtain ⟨i, -, rfl⟩ := List.mem_map.1 hm
  exact ⟨Nat.mod_lt _ (by decide), by simpa using List.find?_some h⟩

/-- None is drawn only where every TAG is held by an open post. -/
theorem freeFrom_none {start g : Nat} {used : List Nat} (h : freeFrom start used = none) (hg : g < 256) : g ∈ used := by
  have hall := List.find?_eq_none.1 h
  have hm : g ∈ (List.range 256).map (fun i => (start + i) % 256) :=
    List.mem_map.2 ⟨(g + 256 - start % 256) % 256, List.mem_range.2 (Nat.mod_lt _ (by decide)), by omega⟩
  simpa using hall g hm

/-! ## Pacing, R574 -/

/-- The accesses that a channel has begun in the 128 ns of this instant: one more, or the first. -/
theorem chPaced_in {now : Nat} {c : Chan} (h : c.paced.1 = now / 128) : chPaced now c = (now / 128, c.paced.2 + 1) := by
  simp [chPaced, h]

theorem chPaced_new {now : Nat} {c : Chan} (h : c.paced.1 ≠ now / 128) : chPaced now c = (now / 128, 1) := by
  simp [chPaced, h]

end Sys2Proof.Machine
end

