-- ==== Sys2Proof/Laws/Engine.lean ====
section
/-! SUPPORT. What the operations over one engine change: the engine, its counters, and nothing else; what a ready engine runs. -/
namespace Sys2Proof.Machine

theorem eng_modEng (s : State) (e x : Nat) (f : Eng → Eng) : (s.modEng e f).eng x = if x = e then f (s.eng e) else s.eng x := by
  unfold State.eng State.modEng tgetD
  by_cases h : x = e
  · subst h; simp only [if_true]; rw [tget_tset_self]; rfl
  · simp [h]; rw [tget_tset_ne _ _ h]

theorem eng_count (s : State) (o b n e : Nat) : (s.count o b n).eng e = s.eng e := by
  unfold State.count State.eng; split <;> rfl

/-- The state apart from the engines and the live counters. -/
def rest (s : State) : State := { s with mill.engs := [], cnt.live := [] }
theorem rest_modEng (s : State) (e : Nat) (f : Eng → Eng) : rest (s.modEng e f) = rest s := rfl
theorem rest_count (s : State) (o b n : Nat) : rest (s.count o b n) = rest s := by unfold State.count; split <;> rfl
theorem rest_back {s t : State} (h : rest t = rest s) : { t with mill.engs := s.mill.engs, cnt.live := s.cnt.live } = s := by
  have : { rest t with mill.engs := s.mill.engs, cnt.live := s.cnt.live } = { rest s with mill.engs := s.mill.engs, cnt.live := s.cnt.live } := by rw [h]
  exact this

theorem ready_cases {e : Nat} {op : EOp} {s : State} (h : engReady e op s = true) :
   s.mode.carries = true ∧ e < 128 ∧ engWf op = true ∧ (s.eng e).st = 2 ∧ (s.eng e).wait = .none ∧ (s.eng e).flights = [] ∧ (s.eng e).sb = [] ∧
   (s.eng e).storeErr = none ∧ ∃ j v, (s.eng e).job = some j ∧ j.step = .running ∧ j.abort = false ∧ j.wdogDue = false ∧
    jobVersion s j = some v ∧ codeWord v (s.eng e).arch.pc = some (engEncode op) ∧ (engDecode (engEncode op)).isSome = true ∧
     icHit s (e / 8) j.program j.version ((s.eng e).arch.pc / 64) = true := by
  unfold engReady at h
  simp only [Bool.and_eq_true, decide_eq_true_eq, List.isEmpty_iff, Option.isNone_iff_eq_none] at h
  obtain ⟨⟨⟨⟨⟨⟨⟨⟨h1, h2⟩, h0⟩, h3⟩, h4⟩, h5⟩, h6⟩, h7⟩, h8⟩ := h
  refine ⟨h1, h2, h0, h3, h4, h5, h6, h7, ?_⟩
  split at h8
  · rename_i j hj
    simp only [Bool.and_eq_true, decide_eq_true_eq, Bool.not_eq_true'] at h8
    obtain ⟨⟨⟨a, b⟩, c⟩, d⟩ := h8
    split at d
    · rename_i v hv
      simp only [Bool.and_eq_true, decide_eq_true_eq] at d
      exact ⟨j, v, hj, a, b, c, hv, d.1.1, d.1.2, d.2⟩
    · simp at d
  · simp at h8

theorem engRun_ready {e : Nat} {op : EOp} {s : State} (ue : Bool) (h : engReady e op s = true) :
   ∃ j v, (s.eng e).job = some j ∧ j.step = .running ∧ j.abort = false ∧ j.wdogDue = false ∧ jobVersion s j = some v ∧ engRun e op ue s = runOp e op (engEncode op) ue j v s := by
  obtain ⟨h1, h2, _, h3, h4, h5, h6, h7, j, v, hj, a, b, c, hv, hw, hd, hi⟩ := ready_cases h
  refine ⟨j, v, hj, a, b, c, hv, ?_⟩
  unfold engRun
  have hz : hazard (s.eng e) op = false := by simp [hazard, pendingRegs, h5]
  have : ¬ (128 ≤ e) := by omega
  simp [h1, this, hj, h3, a, h4, hv, hw, hi, hz, h5]
  intro hh; simp [hh] at hd

theorem settle_id {e : Nat} {s : State} {j : Job} (hj : (s.eng e).job = some j) (hw : (s.eng e).wait = .none) (ha : j.abort = false)
   (hd : j.wdogDue = false) (he : (s.eng e).storeErr = none) : settle e s = s := by
  unfold settle
  simp [hj, hw, he, ha, hd]

theorem idle_eng (e x : Nat) (s : State) : (∃ d, (countIdle e s).eng x = { s.eng x with slotsDone := d }) ∧ (x ≠ e → (countIdle e s).eng x = s.eng x) := by
  unfold countIdle
  dsimp only
  split
  · split
    · rw [eng_count, eng_count, eng_modEng]
      by_cases hx : x = e
      · subst hx; rw [if_pos rfl]; exact ⟨⟨_, rfl⟩, fun h => absurd rfl h⟩
      · rw [if_neg hx]; exact ⟨⟨_, rfl⟩, fun _ => rfl⟩
    · exact ⟨⟨_, rfl⟩, fun _ => rfl⟩
  · exact ⟨⟨_, rfl⟩, fun _ => rfl⟩

theorem issue_eng (e x : Nat) (s : State) : (∃ d n c, (countIssue e s).eng x = { s.eng x with slotsDone := d, issued := n, counted := c }) ∧ (x ≠ e → (countIssue e s).eng x = s.eng x) := by
  obtain ⟨⟨d, hd⟩, hx'⟩ := idle_eng e x s
  unfold countIssue
  dsimp only
  rw [eng_count, eng_count, eng_modEng]
  by_cases hx : x = e
  · subst hx; rw [if_pos rfl, hd]; exact ⟨⟨_, _, _, rfl⟩, fun h => absurd rfl h⟩
  · rw [if_neg hx, hx' hx]; exact ⟨⟨_, _, _, rfl⟩, fun _ => rfl⟩

theorem issue_rest (e : Nat) (s : State) : rest (countIssue e s) = rest s := by
  unfold countIssue
  rw [rest_count, rest_count, rest_modEng]
  unfold countIdle
  dsimp only
  split
  · split
    · rw [rest_count, rest_count, rest_modEng]
    · rfl
  · rfl

theorem done_step {e : Nat} {op : EOp} {s : State} (h : engReady e op s = true) (f : Eng → Eng)
   (hf : ∀ g d n c, f { g with slotsDone := d, issued := n, counted := c } = { f g with slotsDone := d, issued := n, counted := c })
   (hk : (f (s.eng e)).job = (s.eng e).job ∧ (f (s.eng e)).wait = .none ∧ (f (s.eng e)).storeErr = none) :
    engineStep e (f (s.eng e)) s (settle e ((countIssue e s).modEng e f)) := by
  obtain ⟨h1, h2, _, h3, h4, h5, h6, h7, j, v, hj, ha, hb, hc, hv, hw, hd, hi⟩ := ready_cases h
  obtain ⟨⟨d, n, c, he⟩, -⟩ := issue_eng e e s
  have e1 : ((countIssue e s).modEng e f).eng e = { f (s.eng e) with slotsDone := d, issued := n, counted := c } := by
    rw [eng_modEng, if_pos rfl, he, hf]
  rw [settle_id (j := j)]
  · refine ⟨by rw [e1], ?_, ?_⟩
    · intro x hx; rw [eng_modEng, if_neg hx, (issue_eng e x s).2 hx]
    · apply rest_back; rw [rest_modEng, issue_rest]
  · rw [e1]; exact hk.1.trans hj
  · rw [e1]; exact hk.2.1
  · exact hb
  · exact hc
  · rw [e1]; exact hk.2.2

theorem complete_step {e : Nat} {op : EOp} {s : State} (h : engReady e op s = true) (a : Arch) :
    engineStep e (s.engWith e (stepPc a)) s (complete e a s) := by
  obtain ⟨_, _, _, _, h4, _, _, h7, _⟩ := ready_cases h
  exact done_step h (fun g => { g with arch := stepPc a }) (fun _ _ _ _ => rfl) ⟨rfl, h4, h7⟩

/-- An instruction of a ready engine completes where `runOp` does what `f` does to the engine. -/
theorem ready_step {c : Instr} {e : Nat} {op : EOp} {ue : Bool} {s : State} {P : State → Prop} (h : engReady e op s = true)
    (hc : exec c s = .next (engRun e op ue s)) (hp : ∀ j v, (s.eng e).job = some j → jobVersion s j = some v →
      P (runOp e op (engEncode op) ue j v s)) : Completes c s P := by
  obtain ⟨j, v, hj, _, _, _, hv, he⟩ := engRun_ready ue h
  exact ⟨_, hc, by rw [he]; exact hp j v hj hv⟩

end Sys2Proof.Machine
end

