-- ==== Sys2Proof/Laws/Ops.lean ====
section
/-! SUPPORT. What the operations shared by every chapter can change, said once each, and that they keep the canonical form. -/
namespace Sys2Proof.Machine

/-! ## What each can change -/

/-- An EVENT or RECORD message is sent, held in a steward gap, or counted as dropped: nothing else changes (R441, R550). -/
theorem toFm_frame (m : Msg) (s : State) : ∃ r o g, s.toFm m = { s with regs := r, out := o, gapHeld := g } := by
  unfold State.toFm
  split
  · split
    · exact ⟨_, _, _, rfl⟩
    · exact ⟨_, _, _, rfl⟩
  · split
    · exact ⟨_, _, _, rfl⟩
    · exact ⟨_, _, _, rfl⟩

/-- Setting an event writes registers and may send its message (R550). -/
theorem setEvent_frame (ev bit : Nat) (s : State) :
    ∃ r o g, s.setEvent ev bit = { s with regs := r, out := o, gapHeld := g } := by
  unfold State.setEvent
  split
  · exact ⟨_, _, _, rfl⟩
  · dsimp only
    split
    · obtain ⟨r, o, g, h⟩ := toFm_frame (.event ev bit (s.wb ev bit true).now) (s.wb ev bit true)
      exact ⟨r, o, g, h⟩
    · exact ⟨_, _, _, rfl⟩

/-- An event with a record also writes to the error logger's inbox. -/
theorem setRecEvent_frame (ev bit cls : Nat) (u : UnitKind) (i : Nat) (s : State) :
    ∃ r o g b, s.setRecEvent ev bit cls u i = { s with regs := r, out := o, gapHeld := g, ras.inbox := b } := by
  unfold State.setRecEvent
  split
  · exact ⟨_, _, _, _, rfl⟩
  · obtain ⟨r, o, g, h⟩ := setEvent_frame ev bit s
    simp only [h]
    split
    · exact ⟨_, _, _, _, rfl⟩
    · exact ⟨_, _, _, _, rfl⟩

/-- Counting changes the live counters alone, and nothing while they are frozen (R535). -/
theorem count_frame (off bits n : Nat) (s : State) : ∃ l, s.count off bits n = { s with cnt.live := l } := by
  unfold State.count
  split
  · exact ⟨_, rfl⟩
  · exact ⟨_, rfl⟩

theorem countMax_frame (off n : Nat) (s : State) : ∃ l, s.countMax off n = { s with cnt.live := l } := by
  unfold State.countMax
  split
  · exact ⟨_, rfl⟩
  · exact ⟨_, rfl⟩

/-- A frozen counter stands (R535). -/
theorem count_frozen (off bits n : Nat) {s : State} (h : s.cnt.frozen = true) : s.count off bits n = s := by
  simp [State.count, h]

/-- A counter that counts saturates (R7, R527). -/
theorem count_live (off bits n : Nat) {s : State} (h : s.cnt.frozen = false) :
    tgetD (s.count off bits n).cnt.live off 0 = satAdd bits (tgetD s.cnt.live off 0) n := by
  unfold State.count
  simp only [h, Bool.false_eq_true, if_false]
  exact tget_tput_self _ _ _ _

/-! ## The canonical form -/

/-- Only memory and the register bank decide the canonical form. -/
theorem canonical_congr {s t : State} (hm : t.home.mem = s.home.mem) (hr : t.regs = s.regs) : t.canonical = s.canonical := by
  simp [State.canonical, hm, hr]

theorem tsorted_tput {d v : Word} {t : Tbl Word} (k : Nat) (h : tsorted t = true) : tsorted (tput d t k v) = true := by
  unfold tput tsorted
  split
  · exact tsortedFrom_terase t 0 k h
  · exact tsortedFrom_tset t 0 k v (Nat.zero_le k) h

theorem tsortedFrom_filter {α : Type} (p : Nat × α → Bool) (t : Tbl α) : ∀ lo, tsortedFrom lo t = true →
    tsortedFrom lo (t.filter p) = true := by
  induction t with
  | nil => intro lo _; rfl
  | cons e r ih =>
    obtain ⟨k, v⟩ := e
    intro lo h
    simp only [tsortedFrom, Bool.and_eq_true, decide_eq_true_eq] at h
    simp only [List.filter_cons]
    split
    · simp only [tsortedFrom, Bool.and_eq_true, decide_eq_true_eq]
      exact ⟨h.1, ih _ h.2⟩
    · exact tsortedFrom_mono (by omega) (ih _ h.2)

/-- Keeping some registers keeps the bank's canonical form. -/
theorem tsorted_tfilter {α : Type} (p : Nat → α → Bool) {t : Tbl α} (h : tsorted t = true) : tsorted (tfilter p t) = true :=
  tsortedFrom_filter _ t 0 h

theorem canonical_wr {s : State} (off : Nat) (v : Word) (h : s.canonical = true) : (s.wr off v).canonical = true := by
  simp only [State.canonical, Bool.and_eq_true] at h ⊢
  exact ⟨h.1, tsorted_tput off h.2⟩

theorem canonical_wf {s : State} (off hi lo v : Nat) (h : s.canonical = true) : (s.wf off hi lo v).canonical = true :=
  canonical_wr off _ h

theorem canonical_wb {s : State} (off i : Nat) (b : Bool) (h : s.canonical = true) : (s.wb off i b).canonical = true :=
  canonical_wr off _ h

theorem canonical_toFm {s : State} (m : Msg) (h : s.canonical = true) : (s.toFm m).canonical = true := by
  unfold State.toFm
  split
  · split
    · exact h
    · exact canonical_wf _ _ _ _ (canonical_wb _ _ _ h)
  · split
    · exact h
    · exact canonical_wf _ _ _ _ h

theorem canonical_setEvent {s : State} (ev bit : Nat) (h : s.canonical = true) : (s.setEvent ev bit).canonical = true := by
  unfold State.setEvent
  split
  · exact h
  · dsimp only
    split
    · exact canonical_toFm _ (canonical_wb _ _ _ h)
    · exact canonical_wb _ _ _ h

theorem canonical_setRecEvent {s : State} (ev bit cls : Nat) (u : UnitKind) (i : Nat) (h : s.canonical = true) :
    (s.setRecEvent ev bit cls u i).canonical = true := by
  unfold State.setRecEvent
  split
  · exact h
  · dsimp only
    split
    · exact canonical_setEvent _ _ h
    · exact canonical_setEvent _ _ h

theorem canonical_count {s : State} (off bits n : Nat) (h : s.canonical = true) : (s.count off bits n).canonical = true := by
  obtain ⟨l, e⟩ := count_frame off bits n s
  rw [e]
  exact h

theorem canonical_countMax {s : State} (off n : Nat) (h : s.canonical = true) : (s.countMax off n).canonical = true := by
  obtain ⟨l, e⟩ := countMax_frame off n s
  rw [e]
  exact h

theorem canonical_violation {s : State} (v : VioRec) (h : s.canonical = true) : (s.violation v).canonical = true := by
  unfold State.violation
  dsimp only
  split
  · exact canonical_setEvent _ _ (canonical_count _ _ _ (canonical_count _ _ _ h))
  · exact canonical_setEvent _ _ (canonical_count _ _ _ (canonical_count _ _ _ h))

/-- A line written to HBM keeps the canonical form, and every byte outside the line reads as before. -/
theorem canonical_writeHbm {s : State} (hl : Nat) (mask : BitVec 64) (l : Line) (h : s.canonical = true) :
    (writeHbm hl mask l s).canonical = true := by
  simp only [State.canonical, Bool.and_eq_true] at h ⊢
  exact ⟨memPutLine_wf _ _ _ h.1, h.2⟩

theorem writeHbm_out {s : State} {hl x : Nat} (mask : BitVec 64) (l : Line) (h : x < 64 * hl ∨ 64 * hl + 64 ≤ x) :
    memGet (writeHbm hl mask l s).home.mem x = memGet s.home.mem x :=
  memGet_memPutLine_out _ mask l h

theorem canonical_writeLine {s : State} (hl : Nat) (d : Line) (mask : BitVec 64) (full poison : Bool) (h : s.canonical = true) :
    (writeLine hl d mask full poison s).canonical = true := by
  unfold writeLine
  dsimp only
  split
  · exact canonical_writeHbm hl mask d h
  · split
    · exact canonical_writeHbm hl mask d h
    · exact canonical_writeHbm hl mask d h

/-- A reset of the core partition keeps the registers that D0 holds, in canonical form, and empties memory. -/
theorem canonical_coreState {s : State} (h : s.canonical = true) : (coreState s).canonical = true := by
  simp only [State.canonical, Bool.and_eq_true] at h
  show (Memory.wf [] && tsorted (aonRegs s.regs)) = true
  rw [Bool.and_eq_true]
  exact ⟨rfl, tsorted_tfilter _ h.2⟩

end Sys2Proof.Machine
end

