-- ==== Sys2Proof/WellFormed.lean ====
section
/-! DEFINITION. Which commands are well formed: every operand lies in the range that the spec gives the thing it names. A command
that is not is no command of the device; its meaning is total all the same. -/
namespace Sys2Proof
open Sys2Proof.Machine

/-! ## Ranges -/

/-- Port numbers (02). -/
def portOk (p : Nat) : Bool := decide (p < 512)
/-- Legacy indexes (R104). -/
def legOk (i : Nat) : Bool := decide (i < 256)
/-- The two dies, and the two halves of queues and dispatch. -/
def dieOk (d : Nat) : Bool := decide (d < 2)
/-- Host numbers. -/
def hostOk (h : Nat) : Bool := decide (h < 64)
/-- HBM channels (R175). -/
def chanOk (c : Nat) : Bool := decide (c < 128)
/-- Engines and clusters (10). -/
def engOk (e : Nat) : Bool := decide (e < 128)
def clusterOk (c : Nat) : Bool := decide (c < 16)
/-- Queue and binding numbers (R281). -/
def queueOk (q : Nat) : Bool := decide (q < 262144)
/-- Window and extent numbers (R76). -/
def winOk (w : Nat) : Bool := decide (w < 4096)
def extOk (x : Nat) : Bool := decide (x < 524288)
/-- Tags of posts. -/
def tagOk (t : Nat) : Bool := decide (t < 256)
/-- Clock domains (12), stewards, ring planes (08), board slots (16), lines of the host-side address (R4). -/
def domOk (d : Nat) : Bool := decide (d < 18)
def stwOk (n : Nat) : Bool := decide (n < 4)
def planeOk (p : Nat) : Bool := decide (p < 24)
def slotOk (n : Nat) : Bool := decide (n < 128)
def lineOk (l : Nat) : Bool := decide (l < 2 ^ 46)
/-- Control-space offsets (R16). -/
def offOk (o : Nat) : Bool := decide (o < 2 ^ 32)
/-- Paths of the control space (R544). -/
def pathOk : Path → Bool
  | .mctpVdm p | .bar2 p => portOk p
  | .steward n => stwOk n
  | .mctpI3c | .jtag => true

/-! ## The engine instruction of a command -/

/-- The engine that issues it, the instruction, and what its operand tells of the bench words it reads (R321). -/
def Instr.eop? : Instr → Option (Nat × EOp × Bool)
  | .engAdd e rd ra rb => some (e, .alu .add rd ra rb, false)
  | .engSub e rd ra rb => some (e, .alu .sub rd ra rb, false)
  | .engAnd e rd ra rb => some (e, .alu .and rd ra rb, false)
  | .engOr e rd ra rb => some (e, .alu .or rd ra rb, false)
  | .engXor e rd ra rb => some (e, .alu .xor rd ra rb, false)
  | .engSll e rd ra rb => some (e, .alu .sll rd ra rb, false)
  | .engSrl e rd ra rb => some (e, .alu .srl rd ra rb, false)
  | .engSra e rd ra rb => some (e, .alu .sra rd ra rb, false)
  | .engSlt e rd ra rb => some (e, .alu .slt rd ra rb, false)
  | .engSltu e rd ra rb => some (e, .alu .sltu rd ra rb, false)
  | .engMin e rd ra rb => some (e, .alu .min rd ra rb, false)
  | .engMax e rd ra rb => some (e, .alu .max rd ra rb, false)
  | .engMinu e rd ra rb => some (e, .alu .minu rd ra rb, false)
  | .engMaxu e rd ra rb => some (e, .alu .maxu rd ra rb, false)
  | .engMul e rd ra rb => some (e, .alu .mul rd ra rb, false)
  | .engMulh e rd ra rb => some (e, .alu .mulh rd ra rb, false)
  | .engMulhu e rd ra rb => some (e, .alu .mulhu rd ra rb, false)
  | .engDiv e rd ra rb => some (e, .alu .div rd ra rb, false)
  | .engDivu e rd ra rb => some (e, .alu .divu rd ra rb, false)
  | .engRem e rd ra rb => some (e, .alu .rem rd ra rb, false)
  | .engRemu e rd ra rb => some (e, .alu .remu rd ra rb, false)
  | .engClz e rd ra rb => some (e, .alu .clz rd ra rb, false)
  | .engCtz e rd ra rb => some (e, .alu .ctz rd ra rb, false)
  | .engPopc e rd ra rb => some (e, .alu .popc rd ra rb, false)
  | .engBrev8 e rd ra rb => some (e, .alu .brev8 rd ra rb, false)
  | .engAddi e rd ra im => some (e, .imm .addi rd ra im, false)
  | .engAndi e rd ra im => some (e, .imm .andi rd ra im, false)
  | .engOri e rd ra im => some (e, .imm .ori rd ra im, false)
  | .engXori e rd ra im => some (e, .imm .xori rd ra im, false)
  | .engShiSll e rd ra x amt => some (e, .shi .sll rd ra x amt, false)
  | .engShiSrl e rd ra x amt => some (e, .shi .srl rd ra x amt, false)
  | .engShiSra e rd ra x amt => some (e, .shi .sra rd ra x amt, false)
  | .engLui e rd im => some (e, .lui rd im, false)
  | .engSlti e rd ra im => some (e, .imm .slti rd ra im, false)
  | .engSltiu e rd ra im => some (e, .imm .sltiu rd ra im, false)
  | .engFadd e fmt rd ra rb => some (e, .fpu .add fmt 0 rd ra rb, false)
  | .engFsub e fmt rd ra rb => some (e, .fpu .sub fmt 0 rd ra rb, false)
  | .engFmul e fmt rd ra rb => some (e, .fpu .mul fmt 0 rd ra rb, false)
  | .engFdiv e fmt rd ra rb => some (e, .fpu .div fmt 0 rd ra rb, false)
  | .engFmin e fmt rd ra rb => some (e, .fpu .min fmt 0 rd ra rb, false)
  | .engFmax e fmt rd ra rb => some (e, .fpu .max fmt 0 rd ra rb, false)
  | .engFsqrt e fmt rd ra rb => some (e, .fpu .sqrt fmt 0 rd ra rb, false)
  | .engFeq e fmt rd ra rb => some (e, .fpu .eq fmt 0 rd ra rb, false)
  | .engFlt e fmt rd ra rb => some (e, .fpu .lt fmt 0 rd ra rb, false)
  | .engFle e fmt rd ra rb => some (e, .fpu .le fmt 0 rd ra rb, false)
  | .engFcvtI e fmt rd ra rb => some (e, .fpu .cvtI fmt 0 rd ra rb, false)
  | .engFcvtF e fmt rd ra rb => some (e, .fpu .cvtF fmt 0 rd ra rb, false)
  | .engFcvtX e fmt src rd ra rb => some (e, .fpu .cvtX fmt src rd ra rb, false)
  | .engLb e rd ra im ue => some (e, .load .b rd ra im, ue)
  | .engLbu e rd ra im ue => some (e, .load .bu rd ra im, ue)
  | .engLh e rd ra im ue => some (e, .load .h rd ra im, ue)
  | .engLhu e rd ra im ue => some (e, .load .hu rd ra im, ue)
  | .engLw e rd ra im ue => some (e, .load .w rd ra im, ue)
  | .engLwu e rd ra im ue => some (e, .load .wu rd ra im, ue)
  | .engLd e rd ra im ue => some (e, .load .d rd ra im, ue)
  | .engSb e rs ra im => some (e, .store 0 rs ra im, false)
  | .engSh e rs ra im => some (e, .store 1 rs ra im, false)
  | .engSw e rs ra im => some (e, .store 2 rs ra im, false)
  | .engSd e rs ra im => some (e, .store 3 rs ra im, false)
  | .engVld e vd ra im ue => some (e, .vld vd ra im, ue)
  | .engVst e vs ra im => some (e, .vst vs ra im, false)
  | .engVstm e vd ra typ p => some (e, .vstm vd ra typ p, false)
  | .engBeq e a b off annul => some (e, .br .eq a b off annul, false)
  | .engBne e a b off annul => some (e, .br .ne a b off annul, false)
  | .engBlt e a b off annul => some (e, .br .lt a b off annul, false)
  | .engBge e a b off annul => some (e, .br .ge a b off annul, false)
  | .engBltu e a b off annul => some (e, .br .ltu a b off annul, false)
  | .engBgeu e a b off annul => some (e, .br .geu a b off annul, false)
  | .engJ e off => some (e, .jump off, false)
  | .engJal e off => some (e, .jal off, false)
  | .engJr e rd ra x => some (e, .jr rd ra x, false)
  | .engLoop e ra len => some (e, .loop ra len, false)
  | .engLoopi e count len => some (e, .loopi count len, false)
  | .engQpush e rd ra x slot => some (e, .qpush rd ra x slot, false)
  | .engQpop e rd ra x slot => some (e, .qpop rd ra x slot, false)
  | .engQrelRelease e x y slot => some (e, .qrel .release x y slot, false)
  | .engQrelMark e x y slot => some (e, .qrel .mark x y slot, false)
  | .engQrelRewind e x y slot => some (e, .qrel .rewind x y slot, false)
  | .engWaitH e x im => some (e, .waitH x im, false)
  | .engTrap e x im => some (e, .trap x im, false)
  | .engRfe e x => some (e, .rfe x, false)
  | .engSetm e x ra y => some (e, .setm x ra y, false)
  | .engMfs e rd x im => some (e, .mfs rd x im, false)
  | .engMts e x ra im => some (e, .mts x ra im, false)
  | .engOrdL e x => some (e, .ord .l x, false)
  | .engOrdS e x => some (e, .ord .s x, false)
  | .engOrdA e x => some (e, .ord .a x, false)
  | .engDone e x => some (e, .done x, false)
  | .engVadd e typ vd va vb p => some (e, .valu .add typ vd va vb p, false)
  | .engVsub e typ vd va vb p => some (e, .valu .sub typ vd va vb p, false)
  | .engVmul e typ vd va vb p => some (e, .valu .mul typ vd va vb p, false)
  | .engVmin e typ vd va vb p => some (e, .valu .min typ vd va vb p, false)
  | .engVmax e typ vd va vb p => some (e, .valu .max typ vd va vb p, false)
  | .engVand e typ vd va vb p => some (e, .valu .and typ vd va vb p, false)
  | .engVor e typ vd va vb p => some (e, .valu .or typ vd va vb p, false)
  | .engVxor e typ vd va vb p => some (e, .valu .xor typ vd va vb p, false)
  | .engVsll e typ vd va vb p => some (e, .valu .sll typ vd va vb p, false)
  | .engVsrl e typ vd va vb p => some (e, .valu .srl typ vd va vb p, false)
  | .engVsra e typ vd va vb p => some (e, .valu .sra typ vd va vb p, false)
  | .engVfma e typ vd va vb p => some (e, .valu .fma typ vd va vb p, false)
  | .engVabs e typ vd va vb p => some (e, .valu .abs typ vd va vb p, false)
  | .engVneg e typ vd va vb p => some (e, .valu .neg typ vd va vb p, false)
  | .engVdiv e typ vd va vb p => some (e, .valu .div typ vd va vb p, false)
  | .engVsel e typ vd va vb p => some (e, .valu .sel typ vd va vb p, false)
  | .engVredAdd e typ rd va x p => some (e, .vred .add typ rd va x p, false)
  | .engVredMin e typ rd va x p => some (e, .vred .min typ rd va x p, false)
  | .engVredMax e typ rd va x p => some (e, .vred .max typ rd va x p, false)
  | .engVredAnd e typ rd va x p => some (e, .vred .and typ rd va x p, false)
  | .engVredOr e typ rd va x p => some (e, .vred .or typ rd va x p, false)
  | .engVredXor e typ rd va x p => some (e, .vred .xor typ rd va x p, false)
  | .engVcmpEq e typ pd va vb p => some (e, .vcmp .eq typ pd va vb p, false)
  | .engVcmpNe e typ pd va vb p => some (e, .vcmp .ne typ pd va vb p, false)
  | .engVcmpLt e typ pd va vb p => some (e, .vcmp .lt typ pd va vb p, false)
  | .engVcmpLe e typ pd va vb p => some (e, .vcmp .le typ pd va vb p, false)
  | .engVcmpLtu e typ pd va vb p => some (e, .vcmp .ltu typ pd va vb p, false)
  | .engVcmpLeu e typ pd va vb p => some (e, .vcmp .leu typ pd va vb p, false)
  | .engVbcast e typ vd ra x p => some (e, .vbcast typ vd ra x p, false)
  | .engVext e typ rd va rb p => some (e, .vext typ rd va rb p, false)
  | .engVins e typ vd ra rb p => some (e, .vins typ vd ra rb p, false)
  | .engMfp e typ rd ra x p => some (e, .mfp typ rd ra x p, false)
  | .engMtp e typ rd ra x p => some (e, .mtp typ rd ra x p, false)
  | _ => none

/-- R340: every field of the command's engine instruction lies in the range that its encoding gives it. -/
def engineOk (i : Instr) : Bool :=
  match i.eop? with
  | some (e, op, _) => engOk e && engWf op
  | none => true

/-! ## Well-formed commands -/

/-- The ranges of the operands of the commands that are no engine instruction. -/
def operandsOk : Instr → Bool
  | .registerWrite p off _ _ => pathOk p && offOk off
  | .clearingRead p off _ => pathOk p && offOk off
  | .hostMemRequest port _ => portOk port
  | .translationWalkStart die => dieOk die
  | .walkComplete die window slot _ => dieOk die && winOk window && extOk slot
  | .fillReqRead p die => pathOk p && dieOk die
  | .fillRespWrite p die _ => pathOk p && dieOk die
  | .fillTimeout die tag => dieOk die && tagOk tag
  | .trackerIssue _ => true
  | .responseArrives _ => true
  | .ringUnitDelivered _ _ => true
  | .planeRecoveryResync p => planeOk p
  | .creditReturn _ => true
  | .arbiterGrant _ _ => true
  | .frameBoundary => true
  | .contractRecompute => true
  | .legacyPostedWrite port _ => portOk port
  | .legacyRead port _ => portOk port
  | .legacyZeroLengthRead port _ => portOk port
  | .legacyAtomic port _ _ => portOk port
  | .legacyCompletion port _ => portOk port
  | .legacyCxlResponse port _ _ => portOk port
  | .lineWriteAck _ => true
  | .hostIoRequest port vb _ => portOk port && portOk vb
  | .hostLinkCompletion port _ => portOk port
  | .egressSend port => portOk port
  | .tagQuarantineExpiry port _ => portOk port
  | .hostLinkWaitTimeout port => portOk port
  | .targetTimeout port _ => portOk port
  | .trackerTimeout _ => true
  | .trackerHoldExpiry _ => true
  | .protocolErrorReceived port _ => portOk port
  | .bxeForceContain p index => pathOk p && legOk index
  | .bxeRelease p index => pathOk p && legOk index
  | .dpcTriggerClear port => portOk port
  | .dpcSoftwareTrigger port => portOk port
  | .containmentSignal port => portOk port
  | .intxDeassertSend port => portOk port
  | .legacyIntxMessage port m _ => portOk port && decide (m.wire < 4) && decide (m.reqId < 65536)
  | .legacyErrMessage port _ _ => portOk port
  | .legacyCxlEvent port _ => portOk port
  | .eventCollection port _ => portOk port
  | .islErrorMessage port _ _ => portOk port
  | .homeRequestArrives _ => true
  | .homeAccessStart line => lineOk line
  | .sfSetReadComplete die _ _ => dieOk die
  | .holderWriteback _ => true
  | .birspReceived _ _ => true
  | .biconflictReceived port _ => portOk port
  | .biTimeout _ => true
  | .goneTimeout h => hostOk h
  | .reclaimWalkComplete h => hostOk h
  | .hostReadmit p h => pathOk p && hostOk h
  | .evictReqRead p die => pathOk p && dieOk die
  | .evictRespWrite p die _ => pathOk p && dieOk die
  | .evictTimeout die tag => dieOk die && tagOk tag
  | .partnerEvictRequest set => decide (set < 2 ^ 24)
  | .mirrorWriteReceived _ _ _ _ tail => decide (tail.deadline < 65536)
  | .mirrorAckReceived _ => true
  | .mirrorSfUpdate _ _ => true
  | .channelSchedule ch _ _ _ _ => chanOk ch
  | .channelReadComplete ch _ _ => chanOk ch
  | .patrolScrubRead => true
  | .channelRetireRequest p ch => pathOk p && chanOk ch
  | .retireGranuleCopied ch _ => chanOk ch
  | .channelDead ch => chanOk ch
  | .tickBoundary _ => true
  | .bellInEdge _ _ => true
  | .bellOutFall => true
  | .tickWriteStage _ => true
  | .tickRead _ _ => true
  | .tickPublish _ => true
  | .tagRetagWalk => true
  | .mirrorStageReceived _ _ _ _ _ _ _ _ _ => true
  | .absentMaskReceived _ _ => true
  | .mirrorCommitComplete _ => true
  | .generationDrained gen => decide (gen < 16)
  | .extentScrubComplete ext => extOk ext
  | .migrationCopyDone n _ => decide (n < 16)
  | .dcAddRequest host region _ => hostOk host && decide (region < 8)
  | .dcAddResponse host region _ => hostOk host && decide (region < 8)
  | .dcReleaseRequest host region _ => hostOk host && decide (region < 8)
  | .dcReleaseResponse host region _ => hostOk host && decide (region < 8)
  | .dcReleaseTimeout window slot => winOk window && extOk slot
  | .dcTmoReqRead p => pathOk p
  | .dcTmoRespWrite p _ => pathOk p
  | .trainAttemptStart port => portOk port
  | .trainRetryTimer port => portOk port
  | .trainAttemptTimeout port => portOk port
  | .eqMeasureComplete port rate _ _ => portOk port && decide (rate < 7)
  | .eqResp p port _ => pathOk p && portOk port
  | .eqAnswerTimeout port => portOk port
  | .linkUp port report => portOk port && decide (report.rate < 7 ∧ report.width < 5)
  | .replayThreshold port _ => portOk port
  | .partnerDownshift port rate width _ _ => portOk port && decide (rate < 7 ∧ width < 5)
  | .linkDown port => portOk port
  | .ideIntegrityFail port => portOk port
  | .ideKeyProgram port _ _ _ _ _ => portOk port
  | .portEnable p port => pathOk p && portOk port
  | .portDisable p port => pathOk p && portOk port
  | .portDisableDrainEnd port => portOk port
  | .portRetrain p port => pathOk p && portOk port
  | .itemWrite port _ _ _ _ _ _ => portOk port
  | .commit port _ _ _ _ _ => portOk port
  | .commitCellsAccepted q => queueOk q
  | .consumerRead port _ _ _ _ _ _ => portOk port
  | .next port _ _ => portOk port
  | .mark port _ _ => portOk port
  | .rewind port _ _ => portOk port
  | .release port _ _ => portOk port
  | .itemAssemblyTimeout bind => queueOk bind
  | .leaseExpiry q => queueOk q
  | .staleExpiry q => queueOk q
  | .noticeReqRead p => pathOk p
  | .queueReset p _ => pathOk p
  | .queueResetComplete => true
  | .mirrorQueueOp _ q _ => queueOk q
  | .roundLeaseRefresh q => queueOk q
  | .dispatchSelect c => clusterOk c
  | .queueSelection _ => true
  | .descriptorReceived e => engOk e
  | .dispatchReqRead p n => pathOk p && dieOk n
  | .dispatchRespWrite p n _ => pathOk p && dieOk n
  | .dispatchTimeout half tag => dieOk half && tagOk tag
  | .streamHoldAcquired e => engOk e
  | .recordProbeReturn e => engOk e
  | .jobBegin e => engOk e
  | .icacheFillComplete e => engOk e
  | .farLoadComplete e _ => engOk e
  | .storeBufferIssue e _ => engOk e
  | .storeAck e _ => engOk e
  | .storeError e _ => engOk e
  | .jobWatchdogExpiry e => engOk e
  | .watchdogGraceExpiry e => engOk e
  | .waitHExpiry e => engOk e
  | .engAbort p e => pathOk p && engOk e
  | .recordWriteAck e => engOk e
  | .spillDumpDone e => engOk e
  | .engineResume p e => pathOk p && engOk e
  | .engAdd _ _ _ _ => true
  | .engSub _ _ _ _ => true
  | .engAnd _ _ _ _ => true
  | .engOr _ _ _ _ => true
  | .engXor _ _ _ _ => true
  | .engSll _ _ _ _ => true
  | .engSrl _ _ _ _ => true
  | .engSra _ _ _ _ => true
  | .engSlt _ _ _ _ => true
  | .engSltu _ _ _ _ => true
  | .engMin _ _ _ _ => true
  | .engMax _ _ _ _ => true
  | .engMinu _ _ _ _ => true
  | .engMaxu _ _ _ _ => true
  | .engMul _ _ _ _ => true
  | .engMulh _ _ _ _ => true
  | .engMulhu _ _ _ _ => true
  | .engDiv _ _ _ _ => true
  | .engDivu _ _ _ _ => true
  | .engRem _ _ _ _ => true
  | .engRemu _ _ _ _ => true
  | .engClz _ _ _ _ => true
  | .engCtz _ _ _ _ => true
  | .engPopc _ _ _ _ => true
  | .engBrev8 _ _ _ _ => true
  | .engAddi _ _ _ _ => true
  | .engAndi _ _ _ _ => true
  | .engOri _ _ _ _ => true
  | .engXori _ _ _ _ => true
  | .engShiSll _ _ _ _ _ => true
  | .engShiSrl _ _ _ _ _ => true
  | .engShiSra _ _ _ _ _ => true
  | .engLui _ _ _ => true
  | .engSlti _ _ _ _ => true
  | .engSltiu _ _ _ _ => true
  | .engFadd _ _ _ _ _ => true
  | .engFsub _ _ _ _ _ => true
  | .engFmul _ _ _ _ _ => true
  | .engFdiv _ _ _ _ _ => true
  | .engFmin _ _ _ _ _ => true
  | .engFmax _ _ _ _ _ => true
  | .engFsqrt _ _ _ _ _ => true
  | .engFeq _ _ _ _ _ => true
  | .engFlt _ _ _ _ _ => true
  | .engFle _ _ _ _ _ => true
  | .engFcvtI _ _ _ _ _ => true
  | .engFcvtF _ _ _ _ _ => true
  | .engFcvtX _ _ _ _ _ _ => true
  | .engLb _ _ _ _ _ => true
  | .engLbu _ _ _ _ _ => true
  | .engLh _ _ _ _ _ => true
  | .engLhu _ _ _ _ _ => true
  | .engLw _ _ _ _ _ => true
  | .engLwu _ _ _ _ _ => true
  | .engLd _ _ _ _ _ => true
  | .engSb _ _ _ _ => true
  | .engSh _ _ _ _ => true
  | .engSw _ _ _ _ => true
  | .engSd _ _ _ _ => true
  | .engVld _ _ _ _ _ => true
  | .engVst _ _ _ _ => true
  | .engVstm _ _ _ _ _ => true
  | .engBeq _ _ _ _ _ => true
  | .engBne _ _ _ _ _ => true
  | .engBlt _ _ _ _ _ => true
  | .engBge _ _ _ _ _ => true
  | .engBltu _ _ _ _ _ => true
  | .engBgeu _ _ _ _ _ => true
  | .engJ _ _ => true
  | .engJal _ _ => true
  | .engJr _ _ _ _ => true
  | .engLoop _ _ _ => true
  | .engLoopi _ _ _ => true
  | .engQpush _ _ _ _ _ => true
  | .engQpop _ _ _ _ _ => true
  | .engQrelRelease _ _ _ _ => true
  | .engQrelMark _ _ _ _ => true
  | .engQrelRewind _ _ _ _ => true
  | .engWaitH _ _ _ => true
  | .engTrap _ _ _ => true
  | .engRfe _ _ => true
  | .engSetm _ _ _ _ => true
  | .engMfs _ _ _ _ => true
  | .engMts _ _ _ _ => true
  | .engOrdL _ _ => true
  | .engOrdS _ _ => true
  | .engOrdA _ _ => true
  | .engDone _ _ => true
  | .engVadd _ _ _ _ _ _ => true
  | .engVsub _ _ _ _ _ _ => true
  | .engVmul _ _ _ _ _ _ => true
  | .engVmin _ _ _ _ _ _ => true
  | .engVmax _ _ _ _ _ _ => true
  | .engVand _ _ _ _ _ _ => true
  | .engVor _ _ _ _ _ _ => true
  | .engVxor _ _ _ _ _ _ => true
  | .engVsll _ _ _ _ _ _ => true
  | .engVsrl _ _ _ _ _ _ => true
  | .engVsra _ _ _ _ _ _ => true
  | .engVfma _ _ _ _ _ _ => true
  | .engVabs _ _ _ _ _ _ => true
  | .engVneg _ _ _ _ _ _ => true
  | .engVdiv _ _ _ _ _ _ => true
  | .engVsel _ _ _ _ _ _ => true
  | .engVredAdd _ _ _ _ _ _ => true
  | .engVredMin _ _ _ _ _ _ => true
  | .engVredMax _ _ _ _ _ _ => true
  | .engVredAnd _ _ _ _ _ _ => true
  | .engVredOr _ _ _ _ _ _ => true
  | .engVredXor _ _ _ _ _ _ => true
  | .engVcmpEq _ _ _ _ _ _ => true
  | .engVcmpNe _ _ _ _ _ _ => true
  | .engVcmpLt _ _ _ _ _ _ => true
  | .engVcmpLe _ _ _ _ _ _ => true
  | .engVcmpLtu _ _ _ _ _ _ => true
  | .engVcmpLeu _ _ _ _ _ _ => true
  | .engVbcast _ _ _ _ _ _ => true
  | .engVext _ _ _ _ _ _ => true
  | .engVins _ _ _ _ _ _ => true
  | .engMfp _ _ _ _ _ _ => true
  | .engMtp _ _ _ _ _ _ => true
  | .auxPowerGood => true
  | .auxPowerLoss => true
  | .pwrGoodAssert => true
  | .pwrGoodDeassert => true
  | .sysRstAssert => true
  | .sysRstDeassert => true
  | .offReqAssert => true
  | .offReqDeassert => true
  | .offGo p => pathOk p
  | .pwrEnAssert => true
  | .powerGoodTimeout => true
  | .powerUpReversal => true
  | .offExit => true
  | .imageReadComplete _ _ => true
  | .imageCheckComplete => true
  | .hbmTrainingComplete _ => true
  | .loadComplete => true
  | .trainEnd => true
  | .drainEnd => true
  | .shadowOpen p => pathOk p
  | .shadowDataWrite p _ => pathOk p
  | .shadowGo p => pathOk p
  | .shadowCheckComplete => true
  | .shadowAbandon p => pathOk p
  | .handoverRequest p _ => pathOk p
  | .swapRequest p => pathOk p
  | .swapCheckComplete => true
  | .swapLibraryCopied => true
  | .stewardGapStart => true
  | .stewardFirmwareReady => true
  | .stewardGapTimeout => true
  | .stewardRevertTimeout => true
  | .dtbSync _ => true
  | .instantRequest _ => true
  | .sharedInstant dom _ => domOk dom
  | .domainResetRelease dom => domOk dom
  | .corePllLockLoss die => dieOk die
  | .chipletPllLockLoss n => decide (n < 8)
  | .chipletPllRelock n => decide (n < 8)
  | .auxRefclkLoss => true
  | .auxRefclkReturn => true
  | .formationMessage _ => true
  | .pairSyncComplete set _ => decide (set < 2)
  | .boundaryMessage _ _ => true
  | .forwardedRequest _ _ => true
  | .heartbeatSend => true
  | .heartbeatReceived _ => true
  | .heartbeatMiss => true
  | .twinAliveToggle => true
  | .twinAliveStop => true
  | .twinAliveResume => true
  | .lossDecisionWaitEnd => true
  | .takeoverReqRead p => pathOk p
  | .takeoverRespWrite p _ => pathOk p
  | .takeoverReady => true
  | .takeoverEnd => true
  | .islTakeoverNotice port pbr => portOk port && decide (pbr < 4096)
  | .pinClear p => pathOk p
  | .moveGo p => pathOk p
  | .setMoveExecute => true
  | .setMoveReceived set => decide (set < 2)
  | .dissolve p => pathOk p
  | .errorRecordArrives _ => true
  | .handlingWindowExpiry _ => true
  | .ringConsWrite p ring value => pathOk p && decide (1 ≤ ring ∧ ring ≤ 5 ∧ value < 2 ^ 32)
  | .vlogConsWrite p value => pathOk p && decide (value < 2 ^ 32)
  | .lockWaitTimeout => true
  | .ringLockRelease stw => stwOk stw
  | .stewardRecordWrite stw _ => stwOk stw
  | .escReqRead p => pathOk p
  | .escRespWrite p _ => pathOk p
  | .escTimeout tag => tagOk tag
  | .isoIsolate p unit inst => pathOk p && decide (unit < 256 ∧ inst < 2 ^ 18)
  | .isoRejoin p unit inst => pathOk p && decide (unit < 256 ∧ inst < 2 ^ 18)
  | .stewardWatchdogPet n => stwOk n
  | .stewardWatchdogExpiry n => stwOk n
  | .slotFrameStart => true
  | .slotChainReady => true
  | .slotFrameComplete _ _ => true
  | .slotFrameStallTimeout => true
  | .slotRetryTimer slot => slotOk slot
  | .slotPowerFailCheck slot => slotOk slot
  | .slotShortTimeout slot => slotOk slot
  | .slotPerstRelease slot => slotOk slot
  | .slotClear p slot => pathOk p && slotOk slot
  | .slotFetClear p slot => pathOk p && slotOk slot
  | .slotCmdGo p slot _ => pathOk p && slotOk slot
  | .hpReqRead p => pathOk p
  | .slotControlWrite slot _ attn pwr => slotOk slot && decide (attn < 4 ∧ pwr < 4)
  | .countFreeze p _ => pathOk p
  | .countClear p => pathOk p
  | .snapshotBankReady => true
  | .counterPageRead port _ => portOk port
  | .read32 p tag off => pathOk p && decide (tag < 256 ∧ off < 2 ^ 32)
  | .read64 p tag off => pathOk p && decide (tag < 256 ∧ off < 2 ^ 32)
  | .write32 p tag off _ => pathOk p && decide (tag < 256 ∧ off < 2 ^ 32)
  | .write64 p tag off _ => pathOk p && decide (tag < 256 ∧ off < 2 ^ 32)
  | .readBlock p tag off count => pathOk p && decide (tag < 256 ∧ off < 2 ^ 32 ∧ count < 256)
  | .bar2Access port req => portOk port && decide (req.off < 2 ^ 26)
  | .extest _ => true
  | .idcode => true
  | .samplePreload => true
  | .clamp => true
  | .highz => true
  | .testEnter => true
  | .testExit => true
  | .csrAccess _ off _ => decide (off < 2 ^ 23)
  | .bypass => true
  | .bistGo sel => decide (sel < 64)
  | .bistComplete pass => decide (pass < 64)
  | .keyProgram slot => decide (slot < 4)
  | .keyRevoke slot => decide (slot < 4)
  | .keyProgramComplete => true
  | .thermalSample _ => true
  | .gpioEdge n => decide (n < 16)
  | .partnerRetrain port rate width _ => portOk port && decide (rate < 7 ∧ width < 5)
  | .disableDuringTrainingTimeout port => portOk port
  | .planeRecoverySafeEnd p => planeOk p
  | .queueInstructionAnswer e => engOk e

/-- A command is well formed. -/
def Instr.wf (i : Instr) : Bool := engineOk i && operandsOk i

end Sys2Proof
end

