-- ==== Sys2Proof/Laws/PerInstr.lean ====
section
/-! SUPPORT. One family of facts per command: a well-formed command that issues an engine instruction names one of the 128 engines and
an instruction whose fields lie in the ranges of its encoding (R340). -/
namespace Sys2Proof.Laws.Wf
open Sys2Proof.Machine

/-- The fact. -/
def Statement (i : Instr) : Prop :=
  i.wf = true → ∀ e op ue, i.eop? = some (e, op, ue) → engOk e = true ∧ engWf op = true

/-- It holds of every command. -/
theorem every (i : Instr) : Statement i := by
  intro h e op ue he
  simp only [Instr.wf, engineOk, he, Bool.and_eq_true] at h
  exact h.1

theorem registerWrite (p : Path) (off bytes : Nat) (data : Word) : Statement (.registerWrite p off bytes data) := every _
theorem clearingRead (p : Path) (off bytes : Nat) : Statement (.clearingRead p off bytes) := every _
theorem hostMemRequest (port : Nat) (r : MemReq) : Statement (.hostMemRequest port r) := every _
theorem translationWalkStart (die : Nat) : Statement (.translationWalkStart die) := every _
theorem walkComplete (die window slot : Nat) (ecc : Ecc) : Statement (.walkComplete die window slot ecc) := every _
theorem fillReqRead (p : Path) (die : Nat) : Statement (.fillReqRead p die) := every _
theorem fillRespWrite (p : Path) (die : Nat) (data : Word) : Statement (.fillRespWrite p die data) := every _
theorem fillTimeout (die tag : Nat) : Statement (.fillTimeout die tag) := every _
theorem trackerIssue (k : Nat) : Statement (.trackerIssue k) := every _
theorem responseArrives (r : RspFrom) : Statement (.responseArrives r) := every _
theorem ringUnitDelivered (k : Nat) (chk : UnitCheck) : Statement (.ringUnitDelivered k chk) := every _
theorem planeRecoveryResync (p : Nat) : Statement (.planeRecoveryResync p) := every _
theorem creditReturn (k : Nat) : Statement (.creditReturn k) := every _
theorem arbiterGrant (arb : ArbId) (cycle : Nat) : Statement (.arbiterGrant arb cycle) := every _
theorem frameBoundary : Statement (.frameBoundary) := every _
theorem contractRecompute : Statement (.contractRecompute) := every _
theorem legacyPostedWrite (port : Nat) (w : LegWrite) : Statement (.legacyPostedWrite port w) := every _
theorem legacyRead (port : Nat) (r : LegRead) : Statement (.legacyRead port r) := every _
theorem legacyZeroLengthRead (port : Nat) (r : LegRead) : Statement (.legacyZeroLengthRead port r) := every _
theorem legacyAtomic (port : Nat) (r : LegRead) (op : AtomOp) : Statement (.legacyAtomic port r op) := every _
theorem legacyCompletion (port : Nat) (c : CplIn) : Statement (.legacyCompletion port c) := every _
theorem legacyCxlResponse (port tag : Nat) (m : S2M) : Statement (.legacyCxlResponse port tag m) := every _
theorem lineWriteAck (k : Nat) : Statement (.lineWriteAck k) := every _
theorem hostIoRequest (port vb : Nat) (r : IoReq) : Statement (.hostIoRequest port vb r) := every _
theorem hostLinkCompletion (port : Nat) (c : CplIn) : Statement (.hostLinkCompletion port c) := every _
theorem egressSend (port : Nat) : Statement (.egressSend port) := every _
theorem tagQuarantineExpiry (port tag : Nat) : Statement (.tagQuarantineExpiry port tag) := every _
theorem hostLinkWaitTimeout (port : Nat) : Statement (.hostLinkWaitTimeout port) := every _
theorem targetTimeout (port tag : Nat) : Statement (.targetTimeout port tag) := every _
theorem trackerTimeout (k : Nat) : Statement (.trackerTimeout k) := every _
theorem trackerHoldExpiry (k : Nat) : Statement (.trackerHoldExpiry k) := every _
theorem protocolErrorReceived (port : Nat) (e : ProtoErr) : Statement (.protocolErrorReceived port e) := every _
theorem bxeForceContain (p : Path) (index : Nat) : Statement (.bxeForceContain p index) := every _
theorem bxeRelease (p : Path) (index : Nat) : Statement (.bxeRelease p index) := every _
theorem dpcTriggerClear (port : Nat) : Statement (.dpcTriggerClear port) := every _
theorem dpcSoftwareTrigger (port : Nat) : Statement (.dpcSoftwareTrigger port) := every _
theorem containmentSignal (port : Nat) : Statement (.containmentSignal port) := every _
theorem intxDeassertSend (port : Nat) : Statement (.intxDeassertSend port) := every _
theorem legacyIntxMessage (port : Nat) (m : IntxMsg) (on : Bool) : Statement (.legacyIntxMessage port m on) := every _
theorem legacyErrMessage (port : Nat) (code : MsgCode) (reqId : Nat) : Statement (.legacyErrMessage port code reqId) := every _
theorem legacyCxlEvent (port : Nat) (e : CxlEvent) : Statement (.legacyCxlEvent port e) := every _
theorem eventCollection (port : Nat) (rs : List EvRec) : Statement (.eventCollection port rs) := every _
theorem islErrorMessage (port tag : Nat) (k : ErrKind) : Statement (.islErrorMessage port tag k) := every _
theorem homeRequestArrives (k : Nat) : Statement (.homeRequestArrives k) := every _
theorem homeAccessStart (line : Nat) : Statement (.homeAccessStart line) := every _
theorem sfSetReadComplete (die set : Nat) (ecc : Ecc) : Statement (.sfSetReadComplete die set ecc) := every _
theorem holderWriteback (k : Nat) : Statement (.holderWriteback k) := every _
theorem birspReceived (tag : Nat) (rsp : BiRsp) : Statement (.birspReceived tag rsp) := every _
theorem biconflictReceived (port line : Nat) : Statement (.biconflictReceived port line) := every _
theorem biTimeout (tag : Nat) : Statement (.biTimeout tag) := every _
theorem goneTimeout (h : Nat) : Statement (.goneTimeout h) := every _
theorem reclaimWalkComplete (h : Nat) : Statement (.reclaimWalkComplete h) := every _
theorem hostReadmit (p : Path) (h : Nat) : Statement (.hostReadmit p h) := every _
theorem evictReqRead (p : Path) (die : Nat) : Statement (.evictReqRead p die) := every _
theorem evictRespWrite (p : Path) (die : Nat) (data : Word) : Statement (.evictRespWrite p die data) := every _
theorem evictTimeout (die tag : Nat) : Statement (.evictTimeout die tag) := every _
theorem partnerEvictRequest (set : Nat) : Statement (.partnerEvictRequest set) := every _
theorem mirrorWriteReceived (id line : Nat) (d : Line) (poison : Bool) (tail : MirrorTail) : Statement (.mirrorWriteReceived id line d poison tail) := every _
theorem mirrorAckReceived (id : Nat) : Statement (.mirrorAckReceived id) := every _
theorem mirrorSfUpdate (line : Nat) (e : Option (BitVec 64 × Bool)) : Statement (.mirrorSfUpdate line e) := every _
theorem channelSchedule (ch : Nat) (refresh : Bool) (reads writes openRows : List Nat) : Statement (.channelSchedule ch refresh reads writes openRows) := every _
theorem channelReadComplete (ch k : Nat) (ecc : Ecc) : Statement (.channelReadComplete ch k ecc) := every _
theorem patrolScrubRead : Statement (.patrolScrubRead) := every _
theorem channelRetireRequest (p : Path) (ch : Nat) : Statement (.channelRetireRequest p ch) := every _
theorem retireGranuleCopied (ch : Nat) (e : CopyEcc) : Statement (.retireGranuleCopied ch e) := every _
theorem channelDead (ch : Nat) : Statement (.channelDead ch) := every _
theorem tickBoundary (partner : Option (Nat × BitVec 384)) : Statement (.tickBoundary partner) := every _
theorem bellInEdge (low high : Nat) : Statement (.bellInEdge low high) := every _
theorem bellOutFall : Statement (.bellOutFall) := every _
theorem tickWriteStage (k : Nat) : Statement (.tickWriteStage k) := every _
theorem tickRead (k : Nat) (e : TickErr) : Statement (.tickRead k e) := every _
theorem tickPublish (errs : List (Nat × TickErr)) : Statement (.tickPublish errs) := every _
theorem tagRetagWalk : Statement (.tagRetagWalk) := every _
theorem mirrorStageReceived (id tick contrib line tickId : Nat) (op : Option Nat) (mask : BitVec 64) (d : Line) (poison : Bool) : Statement (.mirrorStageReceived id tick contrib line tickId op mask d poison) := every _
theorem absentMaskReceived (tick : Nat) (mask : List Nat) : Statement (.absentMaskReceived tick mask) := every _
theorem mirrorCommitComplete (tick : Nat) : Statement (.mirrorCommitComplete tick) := every _
theorem generationDrained (gen : Nat) : Statement (.generationDrained gen) := every _
theorem extentScrubComplete (ext : Nat) : Statement (.extentScrubComplete ext) := every _
theorem migrationCopyDone (n : Nat) (lines : List (Nat × Line × Bool)) : Statement (.migrationCopyDone n lines) := every _
theorem dcAddRequest (host region : Nat) (req : DcAdd) : Statement (.dcAddRequest host region req) := every _
theorem dcAddResponse (host region : Nat) (accepted : List Nat) : Statement (.dcAddResponse host region accepted) := every _
theorem dcReleaseRequest (host region : Nat) (slots : List Nat) : Statement (.dcReleaseRequest host region slots) := every _
theorem dcReleaseResponse (host region : Nat) (slots : List Nat) : Statement (.dcReleaseResponse host region slots) := every _
theorem dcReleaseTimeout (window slot : Nat) : Statement (.dcReleaseTimeout window slot) := every _
theorem dcTmoReqRead (p : Path) : Statement (.dcTmoReqRead p) := every _
theorem dcTmoRespWrite (p : Path) (data : Word) : Statement (.dcTmoRespWrite p data) := every _
theorem trainAttemptStart (port : Nat) : Statement (.trainAttemptStart port) := every _
theorem trainRetryTimer (port : Nat) : Statement (.trainRetryTimer port) := every _
theorem trainAttemptTimeout (port : Nat) : Statement (.trainAttemptTimeout port) := every _
theorem eqMeasureComplete (port rate : Nat) (margins : List Nat) (localPreset : Nat) : Statement (.eqMeasureComplete port rate margins localPreset) := every _
theorem eqResp (p : Path) (port : Nat) (data : Word) : Statement (.eqResp p port data) := every _
theorem eqAnswerTimeout (port : Nat) : Statement (.eqAnswerTimeout port) := every _
theorem linkUp (port : Nat) (report : LinkReport) : Statement (.linkUp port report) := every _
theorem replayThreshold (port : Nat) (narrower : Option (Nat × Nat × Bool)) : Statement (.replayThreshold port narrower) := every _
theorem partnerDownshift (port rate width lanes : Nat) (l0p : Bool) : Statement (.partnerDownshift port rate width lanes l0p) := every _
theorem linkDown (port : Nat) : Statement (.linkDown port) := every _
theorem ideIntegrityFail (port : Nat) : Statement (.ideIntegrityFail port) := every _
theorem ideKeyProgram (port : Nat) (mem ioLink : Bool) (sel : Nat) (skid active : Bool) : Statement (.ideKeyProgram port mem ioLink sel skid active) := every _
theorem portEnable (p : Path) (port : Nat) : Statement (.portEnable p port) := every _
theorem portDisable (p : Path) (port : Nat) : Statement (.portDisable p port) := every _
theorem portDisableDrainEnd (port : Nat) : Statement (.portDisableDrainEnd port) := every _
theorem portRetrain (p : Path) (port : Nat) : Statement (.portRetrain p port) := every _
theorem itemWrite (port addr fbe lbe reqId : Nat) (data : List Byte) (ep : Bool) : Statement (.itemWrite port addr fbe lbe reqId data ep) := every _
theorem commit (port addr : Nat) (w : Word) (reqId : Nat) (swap : Option Nat) (fault : Bool) : Statement (.commit port addr w reqId swap fault) := every _
theorem commitCellsAccepted (q : Nat) : Statement (.commitCellsAccepted q) := every _
theorem consumerRead (port addr dws reqId tag : Nat) (bad : List Nat) (fault : Bool) : Statement (.consumerRead port addr dws reqId tag bad fault) := every _
theorem next (port addr reqId : Nat) : Statement (.next port addr reqId) := every _
theorem mark (port addr reqId : Nat) : Statement (.mark port addr reqId) := every _
theorem rewind (port addr reqId : Nat) : Statement (.rewind port addr reqId) := every _
theorem release (port addr reqId : Nat) : Statement (.release port addr reqId) := every _
theorem itemAssemblyTimeout (bind : Nat) : Statement (.itemAssemblyTimeout bind) := every _
theorem leaseExpiry (q : Nat) : Statement (.leaseExpiry q) := every _
theorem staleExpiry (q : Nat) : Statement (.staleExpiry q) := every _
theorem noticeReqRead (p : Path) : Statement (.noticeReqRead p) := every _
theorem queueReset (p : Path) (data : Word) : Statement (.queueReset p data) := every _
theorem queueResetComplete : Statement (.queueResetComplete) := every _
theorem mirrorQueueOp (id q : Nat) (op : QMirOp) : Statement (.mirrorQueueOp id q op) := every _
theorem roundLeaseRefresh (q : Nat) : Statement (.roundLeaseRefresh q) := every _
theorem dispatchSelect (c : Nat) : Statement (.dispatchSelect c) := every _
theorem queueSelection (k : Nat) : Statement (.queueSelection k) := every _
theorem descriptorReceived (e : Nat) : Statement (.descriptorReceived e) := every _
theorem dispatchReqRead (p : Path) (n : Nat) : Statement (.dispatchReqRead p n) := every _
theorem dispatchRespWrite (p : Path) (n : Nat) (data : Word) : Statement (.dispatchRespWrite p n data) := every _
theorem dispatchTimeout (half tag : Nat) : Statement (.dispatchTimeout half tag) := every _
theorem streamHoldAcquired (e : Nat) : Statement (.streamHoldAcquired e) := every _
theorem recordProbeReturn (e : Nat) : Statement (.recordProbeReturn e) := every _
theorem jobBegin (e : Nat) : Statement (.jobBegin e) := every _
theorem icacheFillComplete (e : Nat) : Statement (.icacheFillComplete e) := every _
theorem farLoadComplete (e id : Nat) : Statement (.farLoadComplete e id) := every _
theorem storeBufferIssue (e k : Nat) : Statement (.storeBufferIssue e k) := every _
theorem storeAck (e id : Nat) : Statement (.storeAck e id) := every _
theorem storeError (e id : Nat) : Statement (.storeError e id) := every _
theorem jobWatchdogExpiry (e : Nat) : Statement (.jobWatchdogExpiry e) := every _
theorem watchdogGraceExpiry (e : Nat) : Statement (.watchdogGraceExpiry e) := every _
theorem waitHExpiry (e : Nat) : Statement (.waitHExpiry e) := every _
theorem engAbort (p : Path) (e : Nat) : Statement (.engAbort p e) := every _
theorem recordWriteAck (e : Nat) : Statement (.recordWriteAck e) := every _
theorem spillDumpDone (e : Nat) : Statement (.spillDumpDone e) := every _
theorem engineResume (p : Path) (e : Nat) : Statement (.engineResume p e) := every _
theorem engAdd (e rd ra rb : Nat) : Statement (.engAdd e rd ra rb) := every _
theorem engSub (e rd ra rb : Nat) : Statement (.engSub e rd ra rb) := every _
theorem engAnd (e rd ra rb : Nat) : Statement (.engAnd e rd ra rb) := every _
theorem engOr (e rd ra rb : Nat) : Statement (.engOr e rd ra rb) := every _
theorem engXor (e rd ra rb : Nat) : Statement (.engXor e rd ra rb) := every _
theorem engSll (e rd ra rb : Nat) : Statement (.engSll e rd ra rb) := every _
theorem engSrl (e rd ra rb : Nat) : Statement (.engSrl e rd ra rb) := every _
theorem engSra (e rd ra rb : Nat) : Statement (.engSra e rd ra rb) := every _
theorem engSlt (e rd ra rb : Nat) : Statement (.engSlt e rd ra rb) := every _
theorem engSltu (e rd ra rb : Nat) : Statement (.engSltu e rd ra rb) := every _
theorem engMin (e rd ra rb : Nat) : Statement (.engMin e rd ra rb) := every _
theorem engMax (e rd ra rb : Nat) : Statement (.engMax e rd ra rb) := every _
theorem engMinu (e rd ra rb : Nat) : Statement (.engMinu e rd ra rb) := every _
theorem engMaxu (e rd ra rb : Nat) : Statement (.engMaxu e rd ra rb) := every _
theorem engMul (e rd ra rb : Nat) : Statement (.engMul e rd ra rb) := every _
theorem engMulh (e rd ra rb : Nat) : Statement (.engMulh e rd ra rb) := every _
theorem engMulhu (e rd ra rb : Nat) : Statement (.engMulhu e rd ra rb) := every _
theorem engDiv (e rd ra rb : Nat) : Statement (.engDiv e rd ra rb) := every _
theorem engDivu (e rd ra rb : Nat) : Statement (.engDivu e rd ra rb) := every _
theorem engRem (e rd ra rb : Nat) : Statement (.engRem e rd ra rb) := every _
theorem engRemu (e rd ra rb : Nat) : Statement (.engRemu e rd ra rb) := every _
theorem engClz (e rd ra rb : Nat) : Statement (.engClz e rd ra rb) := every _
theorem engCtz (e rd ra rb : Nat) : Statement (.engCtz e rd ra rb) := every _
theorem engPopc (e rd ra rb : Nat) : Statement (.engPopc e rd ra rb) := every _
theorem engBrev8 (e rd ra rb : Nat) : Statement (.engBrev8 e rd ra rb) := every _
theorem engAddi (e rd ra im : Nat) : Statement (.engAddi e rd ra im) := every _
theorem engAndi (e rd ra im : Nat) : Statement (.engAndi e rd ra im) := every _
theorem engOri (e rd ra im : Nat) : Statement (.engOri e rd ra im) := every _
theorem engXori (e rd ra im : Nat) : Statement (.engXori e rd ra im) := every _
theorem engShiSll (e rd ra x amt : Nat) : Statement (.engShiSll e rd ra x amt) := every _
theorem engShiSrl (e rd ra x amt : Nat) : Statement (.engShiSrl e rd ra x amt) := every _
theorem engShiSra (e rd ra x amt : Nat) : Statement (.engShiSra e rd ra x amt) := every _
theorem engLui (e rd im : Nat) : Statement (.engLui e rd im) := every _
theorem engSlti (e rd ra im : Nat) : Statement (.engSlti e rd ra im) := every _
theorem engSltiu (e rd ra im : Nat) : Statement (.engSltiu e rd ra im) := every _
theorem engFadd (e fmt rd ra rb : Nat) : Statement (.engFadd e fmt rd ra rb) := every _
theorem engFsub (e fmt rd ra rb : Nat) : Statement (.engFsub e fmt rd ra rb) := every _
theorem engFmul (e fmt rd ra rb : Nat) : Statement (.engFmul e fmt rd ra rb) := every _
theorem engFdiv (e fmt rd ra rb : Nat) : Statement (.engFdiv e fmt rd ra rb) := every _
theorem engFmin (e fmt rd ra rb : Nat) : Statement (.engFmin e fmt rd ra rb) := every _
theorem engFmax (e fmt rd ra rb : Nat) : Statement (.engFmax e fmt rd ra rb) := every _
theorem engFsqrt (e fmt rd ra rb : Nat) : Statement (.engFsqrt e fmt rd ra rb) := every _
theorem engFeq (e fmt rd ra rb : Nat) : Statement (.engFeq e fmt rd ra rb) := every _
theorem engFlt (e fmt rd ra rb : Nat) : Statement (.engFlt e fmt rd ra rb) := every _
theorem engFle (e fmt rd ra rb : Nat) : Statement (.engFle e fmt rd ra rb) := every _
theorem engFcvtI (e fmt rd ra rb : Nat) : Statement (.engFcvtI e fmt rd ra rb) := every _
theorem engFcvtF (e fmt rd ra rb : Nat) : Statement (.engFcvtF e fmt rd ra rb) := every _
theorem engFcvtX (e fmt src rd ra rb : Nat) : Statement (.engFcvtX e fmt src rd ra rb) := every _
theorem engLb (e rd ra im : Nat) (ue : Bool) : Statement (.engLb e rd ra im ue) := every _
theorem engLbu (e rd ra im : Nat) (ue : Bool) : Statement (.engLbu e rd ra im ue) := every _
theorem engLh (e rd ra im : Nat) (ue : Bool) : Statement (.engLh e rd ra im ue) := every _
theorem engLhu (e rd ra im : Nat) (ue : Bool) : Statement (.engLhu e rd ra im ue) := every _
theorem engLw (e rd ra im : Nat) (ue : Bool) : Statement (.engLw e rd ra im ue) := every _
theorem engLwu (e rd ra im : Nat) (ue : Bool) : Statement (.engLwu e rd ra im ue) := every _
theorem engLd (e rd ra im : Nat) (ue : Bool) : Statement (.engLd e rd ra im ue) := every _
theorem engSb (e rs ra im : Nat) : Statement (.engSb e rs ra im) := every _
theorem engSh (e rs ra im : Nat) : Statement (.engSh e rs ra im) := every _
theorem engSw (e rs ra im : Nat) : Statement (.engSw e rs ra im) := every _
theorem engSd (e rs ra im : Nat) : Statement (.engSd e rs ra im) := every _
theorem engVld (e vd ra im : Nat) (ue : Bool) : Statement (.engVld e vd ra im ue) := every _
theorem engVst (e vs ra im : Nat) : Statement (.engVst e vs ra im) := every _
theorem engVstm (e vd ra typ p : Nat) : Statement (.engVstm e vd ra typ p) := every _
theorem engBeq (e a b off annul : Nat) : Statement (.engBeq e a b off annul) := every _
theorem engBne (e a b off annul : Nat) : Statement (.engBne e a b off annul) := every _
theorem engBlt (e a b off annul : Nat) : Statement (.engBlt e a b off annul) := every _
theorem engBge (e a b off annul : Nat) : Statement (.engBge e a b off annul) := every _
theorem engBltu (e a b off annul : Nat) : Statement (.engBltu e a b off annul) := every _
theorem engBgeu (e a b off annul : Nat) : Statement (.engBgeu e a b off annul) := every _
theorem engJ (e off : Nat) : Statement (.engJ e off) := every _
theorem engJal (e off : Nat) : Statement (.engJal e off) := every _
theorem engJr (e rd ra x : Nat) : Statement (.engJr e rd ra x) := every _
theorem engLoop (e ra len : Nat) : Statement (.engLoop e ra len) := every _
theorem engLoopi (e count len : Nat) : Statement (.engLoopi e count len) := every _
theorem engQpush (e rd ra x slot : Nat) : Statement (.engQpush e rd ra x slot) := every _
theorem engQpop (e rd ra x slot : Nat) : Statement (.engQpop e rd ra x slot) := every _
theorem engQrelRelease (e x y slot : Nat) : Statement (.engQrelRelease e x y slot) := every _
theorem engQrelMark (e x y slot : Nat) : Statement (.engQrelMark e x y slot) := every _
theorem engQrelRewind (e x y slot : Nat) : Statement (.engQrelRewind e x y slot) := every _
theorem engWaitH (e x im : Nat) : Statement (.engWaitH e x im) := every _
theorem engTrap (e x im : Nat) : Statement (.engTrap e x im) := every _
theorem engRfe (e x : Nat) : Statement (.engRfe e x) := every _
theorem engSetm (e x ra y : Nat) : Statement (.engSetm e x ra y) := every _
theorem engMfs (e rd x im : Nat) : Statement (.engMfs e rd x im) := every _
theorem engMts (e x ra im : Nat) : Statement (.engMts e x ra im) := every _
theorem engOrdL (e x : Nat) : Statement (.engOrdL e x) := every _
theorem engOrdS (e x : Nat) : Statement (.engOrdS e x) := every _
theorem engOrdA (e x : Nat) : Statement (.engOrdA e x) := every _
theorem engDone (e x : Nat) : Statement (.engDone e x) := every _
theorem engVadd (e typ vd va vb p : Nat) : Statement (.engVadd e typ vd va vb p) := every _
theorem engVsub (e typ vd va vb p : Nat) : Statement (.engVsub e typ vd va vb p) := every _
theorem engVmul (e typ vd va vb p : Nat) : Statement (.engVmul e typ vd va vb p) := every _
theorem engVmin (e typ vd va vb p : Nat) : Statement (.engVmin e typ vd va vb p) := every _
theorem engVmax (e typ vd va vb p : Nat) : Statement (.engVmax e typ vd va vb p) := every _
theorem engVand (e typ vd va vb p : Nat) : Statement (.engVand e typ vd va vb p) := every _
theorem engVor (e typ vd va vb p : Nat) : Statement (.engVor e typ vd va vb p) := every _
theorem engVxor (e typ vd va vb p : Nat) : Statement (.engVxor e typ vd va vb p) := every _
theorem engVsll (e typ vd va vb p : Nat) : Statement (.engVsll e typ vd va vb p) := every _
theorem engVsrl (e typ vd va vb p : Nat) : Statement (.engVsrl e typ vd va vb p) := every _
theorem engVsra (e typ vd va vb p : Nat) : Statement (.engVsra e typ vd va vb p) := every _
theorem engVfma (e typ vd va vb p : Nat) : Statement (.engVfma e typ vd va vb p) := every _
theorem engVabs (e typ vd va vb p : Nat) : Statement (.engVabs e typ vd va vb p) := every _
theorem engVneg (e typ vd va vb p : Nat) : Statement (.engVneg e typ vd va vb p) := every _
theorem engVdiv (e typ vd va vb p : Nat) : Statement (.engVdiv e typ vd va vb p) := every _
theorem engVsel (e typ vd va vb p : Nat) : Statement (.engVsel e typ vd va vb p) := every _
theorem engVredAdd (e typ rd va x p : Nat) : Statement (.engVredAdd e typ rd va x p) := every _
theorem engVredMin (e typ rd va x p : Nat) : Statement (.engVredMin e typ rd va x p) := every _
theorem engVredMax (e typ rd va x p : Nat) : Statement (.engVredMax e typ rd va x p) := every _
theorem engVredAnd (e typ rd va x p : Nat) : Statement (.engVredAnd e typ rd va x p) := every _
theorem engVredOr (e typ rd va x p : Nat) : Statement (.engVredOr e typ rd va x p) := every _
theorem engVredXor (e typ rd va x p : Nat) : Statement (.engVredXor e typ rd va x p) := every _
theorem engVcmpEq (e typ pd va vb p : Nat) : Statement (.engVcmpEq e typ pd va vb p) := every _
theorem engVcmpNe (e typ pd va vb p : Nat) : Statement (.engVcmpNe e typ pd va vb p) := every _
theorem engVcmpLt (e typ pd va vb p : Nat) : Statement (.engVcmpLt e typ pd va vb p) := every _
theorem engVcmpLe (e typ pd va vb p : Nat) : Statement (.engVcmpLe e typ pd va vb p) := every _
theorem engVcmpLtu (e typ pd va vb p : Nat) : Statement (.engVcmpLtu e typ pd va vb p) := every _
theorem engVcmpLeu (e typ pd va vb p : Nat) : Statement (.engVcmpLeu e typ pd va vb p) := every _
theorem engVbcast (e typ vd ra x p : Nat) : Statement (.engVbcast e typ vd ra x p) := every _
theorem engVext (e typ rd va rb p : Nat) : Statement (.engVext e typ rd va rb p) := every _
theorem engVins (e typ vd ra rb p : Nat) : Statement (.engVins e typ vd ra rb p) := every _
theorem engMfp (e typ rd ra x p : Nat) : Statement (.engMfp e typ rd ra x p) := every _
theorem engMtp (e typ rd ra x p : Nat) : Statement (.engMtp e typ rd ra x p) := every _
theorem auxPowerGood : Statement (.auxPowerGood) := every _
theorem auxPowerLoss : Statement (.auxPowerLoss) := every _
theorem pwrGoodAssert : Statement (.pwrGoodAssert) := every _
theorem pwrGoodDeassert : Statement (.pwrGoodDeassert) := every _
theorem sysRstAssert : Statement (.sysRstAssert) := every _
theorem sysRstDeassert : Statement (.sysRstDeassert) := every _
theorem offReqAssert : Statement (.offReqAssert) := every _
theorem offReqDeassert : Statement (.offReqDeassert) := every _
theorem offGo (p : Path) : Statement (.offGo p) := every _
theorem pwrEnAssert : Statement (.pwrEnAssert) := every _
theorem powerGoodTimeout : Statement (.powerGoodTimeout) := every _
theorem powerUpReversal : Statement (.powerUpReversal) := every _
theorem offExit : Statement (.offExit) := every _
theorem imageReadComplete (answers : Bool) (image : RawImage) : Statement (.imageReadComplete answers image) := every _
theorem imageCheckComplete : Statement (.imageCheckComplete) := every _
theorem hbmTrainingComplete (ok : Bool) : Statement (.hbmTrainingComplete ok) := every _
theorem loadComplete : Statement (.loadComplete) := every _
theorem trainEnd : Statement (.trainEnd) := every _
theorem drainEnd : Statement (.drainEnd) := every _
theorem shadowOpen (p : Path) : Statement (.shadowOpen p) := every _
theorem shadowDataWrite (p : Path) (data : Word) : Statement (.shadowDataWrite p data) := every _
theorem shadowGo (p : Path) : Statement (.shadowGo p) := every _
theorem shadowCheckComplete : Statement (.shadowCheckComplete) := every _
theorem shadowAbandon (p : Path) : Statement (.shadowAbandon p) := every _
theorem handoverRequest (p : Path) (data : Word) : Statement (.handoverRequest p data) := every _
theorem swapRequest (p : Path) : Statement (.swapRequest p) := every _
theorem swapCheckComplete : Statement (.swapCheckComplete) := every _
theorem swapLibraryCopied : Statement (.swapLibraryCopied) := every _
theorem stewardGapStart : Statement (.stewardGapStart) := every _
theorem stewardFirmwareReady : Statement (.stewardFirmwareReady) := every _
theorem stewardGapTimeout : Statement (.stewardGapTimeout) := every _
theorem stewardRevertTimeout : Statement (.stewardRevertTimeout) := every _
theorem dtbSync (lags : List (Nat × Int)) : Statement (.dtbSync lags) := every _
theorem instantRequest (use : InstantUse) : Statement (.instantRequest use) := every _
theorem sharedInstant (dom : Nat) (pulses : List Nat) : Statement (.sharedInstant dom pulses) := every _
theorem domainResetRelease (dom : Nat) : Statement (.domainResetRelease dom) := every _
theorem corePllLockLoss (die : Nat) : Statement (.corePllLockLoss die) := every _
theorem chipletPllLockLoss (n : Nat) : Statement (.chipletPllLockLoss n) := every _
theorem chipletPllRelock (n : Nat) : Statement (.chipletPllRelock n) := every _
theorem auxRefclkLoss : Statement (.auxRefclkLoss) := every _
theorem auxRefclkReturn : Statement (.auxRefclkReturn) := every _
theorem formationMessage (m : FormMsg) : Statement (.formationMessage m) := every _
theorem pairSyncComplete (set : Nat) (copy : Machine.SetCopy) : Statement (.pairSyncComplete set copy) := every _
theorem boundaryMessage (instant : Nat) (partner : Option (Nat × BitVec 384)) : Statement (.boundaryMessage instant partner) := every _
theorem forwardedRequest (id : Nat) (r : FwdReq) : Statement (.forwardedRequest id r) := every _
theorem heartbeatSend : Statement (.heartbeatSend) := every _
theorem heartbeatReceived (hb : Heartbeat) : Statement (.heartbeatReceived hb) := every _
theorem heartbeatMiss : Statement (.heartbeatMiss) := every _
theorem twinAliveToggle : Statement (.twinAliveToggle) := every _
theorem twinAliveStop : Statement (.twinAliveStop) := every _
theorem twinAliveResume : Statement (.twinAliveResume) := every _
theorem lossDecisionWaitEnd : Statement (.lossDecisionWaitEnd) := every _
theorem takeoverReqRead (p : Path) : Statement (.takeoverReqRead p) := every _
theorem takeoverRespWrite (p : Path) (data : Word) : Statement (.takeoverRespWrite p data) := every _
theorem takeoverReady : Statement (.takeoverReady) := every _
theorem takeoverEnd : Statement (.takeoverEnd) := every _
theorem islTakeoverNotice (port pbr : Nat) : Statement (.islTakeoverNotice port pbr) := every _
theorem pinClear (p : Path) : Statement (.pinClear p) := every _
theorem moveGo (p : Path) : Statement (.moveGo p) := every _
theorem setMoveExecute : Statement (.setMoveExecute) := every _
theorem setMoveReceived (set : Nat) : Statement (.setMoveReceived set) := every _
theorem dissolve (p : Path) : Statement (.dissolve p) := every _
theorem errorRecordArrives (k : Nat) : Statement (.errorRecordArrives k) := every _
theorem handlingWindowExpiry (k : Nat) : Statement (.handlingWindowExpiry k) := every _
theorem ringConsWrite (p : Path) (ring : Nat) (value : Nat) : Statement (.ringConsWrite p ring value) := every _
theorem vlogConsWrite (p : Path) (value : Nat) : Statement (.vlogConsWrite p value) := every _
theorem lockWaitTimeout : Statement (.lockWaitTimeout) := every _
theorem ringLockRelease (stw : Nat) : Statement (.ringLockRelease stw) := every _
theorem stewardRecordWrite (stw k : Nat) : Statement (.stewardRecordWrite stw k) := every _
theorem escReqRead (p : Path) : Statement (.escReqRead p) := every _
theorem escRespWrite (p : Path) (data : Word) : Statement (.escRespWrite p data) := every _
theorem escTimeout (tag : Nat) : Statement (.escTimeout tag) := every _
theorem isoIsolate (p : Path) (unit inst : Nat) : Statement (.isoIsolate p unit inst) := every _
theorem isoRejoin (p : Path) (unit inst : Nat) : Statement (.isoRejoin p unit inst) := every _
theorem stewardWatchdogPet (n : Nat) : Statement (.stewardWatchdogPet n) := every _
theorem stewardWatchdogExpiry (n : Nat) : Statement (.stewardWatchdogExpiry n) := every _
theorem slotFrameStart : Statement (.slotFrameStart) := every _
theorem slotChainReady : Statement (.slotChainReady) := every _
theorem slotFrameComplete (words : List (BitVec 32)) (marker : BitVec 32) : Statement (.slotFrameComplete words marker) := every _
theorem slotFrameStallTimeout : Statement (.slotFrameStallTimeout) := every _
theorem slotRetryTimer (slot : Nat) : Statement (.slotRetryTimer slot) := every _
theorem slotPowerFailCheck (slot : Nat) : Statement (.slotPowerFailCheck slot) := every _
theorem slotShortTimeout (slot : Nat) : Statement (.slotShortTimeout slot) := every _
theorem slotPerstRelease (slot : Nat) : Statement (.slotPerstRelease slot) := every _
theorem slotClear (p : Path) (slot : Nat) : Statement (.slotClear p slot) := every _
theorem slotFetClear (p : Path) (slot : Nat) : Statement (.slotFetClear p slot) := every _
theorem slotCmdGo (p : Path) (slot : Nat) (data : Word) : Statement (.slotCmdGo p slot data) := every _
theorem hpReqRead (p : Path) : Statement (.hpReqRead p) := every _
theorem slotControlWrite (slot : Nat) (on : Bool) (attn pwr : Nat) : Statement (.slotControlWrite slot on attn pwr) := every _
theorem countFreeze (p : Path) (on : Bool) : Statement (.countFreeze p on) := every _
theorem countClear (p : Path) : Statement (.countClear p) := every _
theorem snapshotBankReady : Statement (.snapshotBankReady) := every _
theorem counterPageRead (port : Nat) (req : BarReq) : Statement (.counterPageRead port req) := every _
theorem read32 (p : Path) (tag off : Nat) : Statement (.read32 p tag off) := every _
theorem read64 (p : Path) (tag off : Nat) : Statement (.read64 p tag off) := every _
theorem write32 (p : Path) (tag off : Nat) (data : BitVec 32) : Statement (.write32 p tag off data) := every _
theorem write64 (p : Path) (tag off : Nat) (data : Word) : Statement (.write64 p tag off data) := every _
theorem readBlock (p : Path) (tag off count : Nat) : Statement (.readBlock p tag off count) := every _
theorem bar2Access (port : Nat) (req : BarReq) : Statement (.bar2Access port req) := every _
theorem extest (scan : Nat) : Statement (.extest scan) := every _
theorem idcode : Statement (.idcode) := every _
theorem samplePreload : Statement (.samplePreload) := every _
theorem clamp : Statement (.clamp) := every _
theorem highz : Statement (.highz) := every _
theorem testEnter : Statement (.testEnter) := every _
theorem testExit : Statement (.testExit) := every _
theorem csrAccess (write : Bool) (off : Nat) (data : Word) : Statement (.csrAccess write off data) := every _
theorem bypass : Statement (.bypass) := every _
theorem bistGo (sel : Nat) : Statement (.bistGo sel) := every _
theorem bistComplete (pass : Nat) : Statement (.bistComplete pass) := every _
theorem keyProgram (slot : Nat) : Statement (.keyProgram slot) := every _
theorem keyRevoke (slot : Nat) : Statement (.keyRevoke slot) := every _
theorem keyProgramComplete : Statement (.keyProgramComplete) := every _
theorem thermalSample (samples : List (Nat × Option Int)) : Statement (.thermalSample samples) := every _
theorem gpioEdge (n : Nat) : Statement (.gpioEdge n) := every _
theorem partnerRetrain (port rate width lanes : Nat) : Statement (.partnerRetrain port rate width lanes) := every _
theorem disableDuringTrainingTimeout (port : Nat) : Statement (.disableDuringTrainingTimeout port) := every _
theorem planeRecoverySafeEnd (p : Nat) : Statement (.planeRecoverySafeEnd p) := every _
theorem queueInstructionAnswer (e : Nat) : Statement (.queueInstructionAnswer e) := every _

end Sys2Proof.Laws.Wf
end

