-- ==== Sys2Proof/Tests/Slice0.lean ====
section
/-! SUPPORT. The model's own tests: ill-formed commands, words of engine instructions written out from the encoding tables, and states
that meet the hypotheses of the statements. -/
namespace Sys2Proof.Tests
open Sys2Proof Sys2Proof.Machine

set_option Elab.async false

/-! ## Small states -/

/-- A job whose window map has a bench-free NORMAL slot 0, a producer slot 1 and a stream slot 2. -/
def wJob : Job :=
  { askedJob 0 0 with
    step := .running, program := 1, version := 1, compOk := true,
    slots := [{ typ := 1, write := true, base := 0x100000, len := 4096, tick := false },
      { typ := 3, write := true, base := 0, len := 0, tick := false },
      { typ := 3, write := false, base := 0, len := 0, tick := false }] }

/-- A version whose code is the words given. -/
def wVersion (ws : List Nat) : Version :=
  { program := 1, version := 1, current := true, withdraw := false, code := ws.map (BitVec.ofNat 32), entry := 0, evec := 0 }

/-- A device in SOLO whose engine 0 runs that code from code address 0 with the registers given. -/
def wCode (ws : List Nat) (a : Arch) : State :=
  { State.reset with
    alm := { State.reset.alm with mode := .solo }, tabs := { State.reset.tabs with versions := [wVersion ws] },
    mill := { State.reset.mill with
      engs := [(0, { newEng with st := 2, arch := a, job := some wJob })], caches := [(0, [(1, 1, 0)])] } }

/-- The same for one instruction. -/
def wEng (op : EOp) (a : Arch) : State := wCode [engEncode op, 0xDC000000, 0xDC000000, 0xDC000000, 0xDC000000, 0xDC000000] a

/-- General registers. -/
def wArch (g : List (Nat × Word)) : Arch := { newArch with g }

/-- A device in a mode, with nothing else. -/
def wIn (m : Mode) : State := { State.reset with alm := { newAlm with mode := m } }

/-- A device in SOLO with a port 0 of a role, its link up (×16, 64 GT/s), host 0's, BAR 2 and MCTP served. -/
def wPort (role : Nat) : State :=
  { wIn .solo with
    links := [(0, { newLink with bound := true })],
    regs := [(Reg.portCtl 0, mkFld 11 9 6 ||| mkFld 3 3 1 ||| 1#64),
      (Reg.linkStatus 0, mkFld 15 13 5 ||| mkFld 12 10 4 ||| mkFld 9 9 1 ||| mkFld 3 0 6),
      (Reg.portCfg 0, mkFld 46 46 1 ||| mkFld 31 31 1 ||| mkFld 23 21 6 ||| mkFld 10 8 4 ||| mkFld 2 0 role)] }

/-! ## Engine instructions -/

/-- Slots 1 and 2 of the job's window map. -/
def wProd : MapSlot := { typ := 3, write := true, base := 0, len := 0, tick := false }
def wCons : MapSlot := { typ := 3, write := false, base := 0, len := 0, tick := false }

/-- An engine ready for a queue instruction, its job's queue 0 configured with producer binding 0, and 16 bytes to push. -/
def wQueue (op : EOp) : State :=
  let s := wEng op (wArch [(1, 16#64), (2, 0x40#64)])
  { s with tabs := { s.tabs with
      qCount := 1,
      queues := [(0, [mkFld 63 63 1 ||| mkFld 60 60 1 ||| mkFld 27 0 100, 0#64]), (1, [mkFld 63 62 3, 0#64])] } }

/-- Words written out bit by bit from the encoding tables of 10, one or more a family: what they decode to. -/
theorem test_engine_words :
    engDecode 0xE00001D8 = some (.valu .xor 3 0 0 0 0) ∧ engDecode 0xA4020003 = some (.loop 2 3) ∧
    engDecode 0x70210000 = some (.vld 1 1 0) ∧ engDecode 0x04210040 = some (.imm .addi 1 1 64) ∧
    engDecode 0xE0000830 = some (.valu .add 6 0 0 1 0) ∧ engDecode 0xE4200030 = some (.vred .add 6 1 0 0 0) ∧
    engDecode 0xDC000000 = some (.done 0) := by decide +kernel

/-- The operands for which R342 states values: NaN, infinities, a negative number. -/
theorem wit_FpuValues :
    (unpack (fmtOf 0) 0x7FC00000).isNan = true ∧ (unpack (fmtOf 0) 0x7F800001).isNan = true ∧
    (unpack (fmtOf 1) 0x7FF8000000000000).isNan = true ∧ (unpack (fmtOf 2) 0x7FC0).isNan = true ∧
    unpack (fmtOf 1) 0x7FF0000000000000 = .inf false ∧ unpack (fmtOf 1) 0xFFF0000000000000 = .inf true ∧
    (unpack (fmtOf 1) 0xBFF0000000000000 = .fin true (2 ^ 52) (-52)) ∧ (unpack (fmtOf 1) 0x3FF0000000000000).isNan = false := by
  decide +kernel

/-! ## The control space -/

/-- The path of steward 0. -/
def wStw : Path := .steward 0

/-- Posts in every mailbox. -/
def wPosts : State :=
  { wIn .solo with
    xl := { newXl with fillPosts := [(1, [5#64, 6#64])], dcPosts := [5#64, 6#64] },
    home := { newHome with evictPosts := [(1, [5#64, 6#64])] }, mill := { newMill with posts := [(1, [5#64, 6#64])] },
    ras := { newRas with escPosts := [5#64, 6#64] }, qu := { newQUnit with notices := [5#64, 6#64] },
    chain := { newChain with hpPosts := [5#64, 6#64] }, pair := { newPair with present := true, tkPost := some 5#64 } }

/-- CLK_EVENTS with two events set, EVT_MSG_STATUS with messages dropped. -/
def wFields : State := { wIn .solo with regs := [(Reg.evtMsgStatus, 0x700000000#64), (Reg.clkEvents, 7#64)] }

/-- A management HOST port that is up, with the counters frozen. -/
def wBar : State := { wPort 1 with cnt := { newCnt with frozen := true } }

/-- A pair's member. -/
def wMember : State := { wIn .paired with pair := { newPair with present := true, state := .formed } }

/-- The register at an offset. -/
def regOf (off : Nat) : RegDef := (regAt off).getD (reg1 "" 0 0#64 [])

/-! ## Power and modes -/

/-- AUX with PWR_EN_OUT asserted. -/
def wAuxOn : State := { wIn .aux with pwr := { newPwr with pwrEn := true, step := .u1, pgDeadline := some 200000000 } }

/-- A mode with PWR_EN_OUT asserted and a step of power-up. -/
def wPow (m : Mode) (st : PwrStep) : State := { wIn m with pwr := { newPwr with pwrEn := true, pwrGood := true, step := st } }

/-- The same with an off request by OFF_GO that waits for the step's end. -/
def wByGo (m : Mode) : State := { wIn m with pwr := { newPwr with pwrEn := true, offPending := .byGo } }

/-- DRAIN with a tracker in use. -/
def wDrainBusy : State :=
  { wPow .drain .none with bridge := { newBridge with waiting := [(0, .legWire 0 0 true 0)] } }

/-- LOAD at a step. -/
def wLoad (l : LoadStep) (trained : Bool) : State :=
  { wIn .load with alm := { newAlm with mode := .load, load := l, hbmTrained := trained }, pwr := { newPwr with pwrEn := true } }

/-- SHADOW_STATUS in a state, the buffer of 1 MiB. -/
def wShadow (st : Nat) : State := { wIn .solo with regs := [(Reg.shadowStatus, BitVec.ofNat 64 (st + 2 ^ 16))] }

/-- An exchange at a step. -/
def wSwap (m : Mode) (x : SwapStep) (fw lib : Bool) : State :=
  { wIn m with alm := { newAlm with mode := m, swap := x, swapFw := fw, swapLib := lib } }

/-- TRAIN with a port that has neither come up nor failed. -/
def wTrainPort : State := { wIn .train with links := [(0, newLink)] }

/-! ## Clocks, counters, temperature, the test port -/

/-- A scheduled freeze that two domains have still to act on. -/
def wInstant : Instant := { at_ := 5, use := .freeze true, begun := false, left := [1, 2] }
def wInstants : State := { wIn .solo with clk := { newClk with instants := [wInstant], locked := 0x3FFFF#18 } }

/-- The PLL of chiplet 0 locked, its domain running. -/
def wPll : State := { wIn .solo with clk := { newClk with locked := 0x3FFFF#18, running := 0x3FFFF#18 } }

/-- A back bank that is being filled. -/
def wBack : State := { wIn .solo with cnt := { newCnt with back := some ([(0x1000, 5)], 7, 8, true) } }

/-- A host whose counters may be read, and one whose may not. -/
def wPage (on : Bool) : State :=
  { wPort 1 with cnt := { newCnt with frozen := true }, tabs := { noTables with counterAccess := if on then 1#64 else 0#64 } }

/-- A sensor with a sample of 110 °C. -/
def wHot : Sensor := { prev := some 440, bad := 0, failed := false }
def wSensor (id : Nat) : State := { wIn .solo with therm := { newThermal with sensors := [(id, wHot)] } }

/-- TEST with the tests of BIST_SEL 5 running. -/
def wBist : State := { wIn .test with jtag := { newJtag with bistBusy := some 5 } }

/-- TEST with a digest in KEY_DIGEST_0, key slot 1 programmed. -/
def wKeys : State :=
  { wIn .test with
    regs := [(Reg.keyDigest 0, 9#64)],
    alm := { newAlm with mode := .test, keys := [newKey, { digest := some 1#384, revoked := false }, newKey, newKey] } }
def wKeyBusy : State := { wKeys with jtag := { newJtag with keyBusy := some (0, some 9#384) } }

/-! ## Link ports -/

/-- A port 0 of a role that is enabled, its link down, its link state as given; `rest`: its other registers. -/
def wDown (role : Nat) (l : Link) (en : Bool) (rest : Tbl Word) : State :=
  { wIn .solo with
    links := [(0, l)], clk := { newClk with locked := 0x3FFFF#18 },
    regs := (Reg.portCfg 0, mkFld 46 46 1 ||| mkFld 31 31 1 ||| mkFld 23 21 6 ||| mkFld 20 18 1 ||| mkFld 10 8 4 ||| mkFld 2 0 role) ::
      (Reg.portCtl 0, mkFld 11 9 6 ||| mkFld 3 3 1 ||| mkFld 0 0 (b2n en)) :: rest }

/-- LINK_STATUS of a link that is up at 64 GT/s, ×16. -/
def wUp : Tbl Word := [(Reg.linkStatus 0, mkFld 15 13 5 ||| mkFld 12 10 4 ||| mkFld 9 9 1 ||| mkFld 3 0 6)]

/-- An attempt in progress, after two that failed; with an equalisation post. -/
def wTry : Link := { newLink with attempting := true, fails := 2 }
def wEqTry : Link := { wTry with eqUntil := some 8000000, eqRate := 2, eqMargins := [0, 200] }
def wWaits : Link := { newLink with waitUntil := some 10000000 }
def wOff : Link := { wTry with trainOffUntil := some 50000000 }
def wDrains : Link := { newLink with drainUntil := some 1000000 }

/-- An open post with tag 1 for presets 0 and 1; function 9 assisted. -/
def wPost : Tbl Word := [(Reg.eqReq 0, mkFld 63 63 1 ||| mkFld 62 55 1 ||| mkFld 42 32 3)]
def wAssist9 : State := { wDown 2 wTry true [] with regs := (Reg.splitStatus, mkFld 8 8 1) :: (wDown 2 wTry true []).regs }

/-- What a link reports. -/
def wReport (rate : Nat) : LinkReport :=
  { rate, width := 4, lanes := 65535, reversed := false, retimers := 0, bypassUsed := false, protoActive := true,
    partner := .cxl true false [(0, 2 ^ 28)], tag10 := true, ideActive := false, atomics := 7 }

/-- A port whose IDE keys are programmed. -/
def wIdeUp : State := wDown 2 newLink false (wUp ++ [(Reg.ideStatus 0, 1#64)])

/-- A state that meets the hypotheses of the frame of an equalisation. -/
theorem wit_UnitFrames_equalisation : (wDown 2 wTry true []).linkIsUp 0 = false ∧
    (((wDown 2 wTry true []).link? 0).map Link.lost).getD false = false ∧
    ∃ t, exec (.eqMeasureComplete 0 2 [] 5) (wDown 2 wTry true []) = .next t := ⟨by decide +kernel, by decide +kernel, _, rfl⟩

/-! ## Address translation -/

/-- One FABRIC backing of extents 0-3 at port 5 and one of HBM, extents 4-7; a window of host 0 with one MIGRATING extent 0 to 1, one
ABSENT and one PRESENT in HBM; `x`: the translation state. -/
def wWin : Win :=
  { gen := 0, hbase := 4, host := 0, rw := true, extCount := 3, extFirst := 0, dynamic := true, iw := 0, ig := 0, tick := false,
    shared := false, mirror := false, home := 0, devDma := true, engine := false, bswap := 0, dcRegion := 0, rbase := 0, tickId := 0 }
def wTabs (newPool : Nat) : Tables :=
  { noTables with
    backings := [(0, { typ := 2, pbase := 0, plen := 4, ld := 0, dbase := 0, port := 5, pbr := 0 }),
      (1, { typ := 0, pbase := 4, plen := 4, ld := 0, dbase := 0, port := 0, pbr := 0 })],
    windows := [(0, wWin)],
    extents := [(0, { st := .migrating, gen := 0, pool := 0, newPool, window := 0 }),
      (1, { st := .absent, gen := 0, pool := 0, newPool := 0, window := 0 }),
      (2, { st := .present, gen := 0, pool := 4, newPool := 0, window := 0 })] }
def wXl (newPool : Nat) (x : Xl) : State := { wIn .solo with tabs := wTabs newPool, xl := x }
/-- The same with functions 1 and 2 assisted. -/
def wXlA (x : Xl) : State := { wXl 1 x with regs := [(Reg.splitStatus, 3#64)] }

def wWalk : Walk := { die := 0, win := 0, slot := 0, waiters := [.eng 1 2] }
def wFill : Fill := { die := 0, tag := 7, win := 0, slot := 0, gen := 0, waiters := [.eng 1 2], deadline := 100 }
def wMig : Mig := { st := 2, ext := 0, gens := [], lines := 0 }
def wScrubs : Xl :=
  { newXl with scrubs := [{ ext := 4, gens := [], running := true }, { ext := 5, gens := [3], running := false }], migs := [(0, { wMig with st := 1, gens := [3] })] }
/-- A byte and a poisoned line in extent 4 and beyond it. -/
def wScrub : State :=
  let s := wXl 1 wScrubs
  let b := (extentHbm s 4).getD 0
  { s with home := { newHome with mem := [(b, 1#8), (b + 2 ^ 28, 2#8)], poisoned := [b / 64, (b + 2 ^ 28) / 64] } }
def wScrubBase : Nat := (extentHbm wScrub 4).getD 0
def wLive : State := { wXl 1 wScrubs with bridge := { newBridge with trks := [(0, { newTrk (.host 0 0) 0 .general .specRd 0 0 with gen := some 3 })] } }
def wRel : DcRel := { win := 0, slot := 2, deadline := 100, post := none, waits := false }
def wFillData (gen deny : Nat) : Word := mkFld 63 63 1 ||| mkFld 62 62 deny ||| mkFld 59 56 gen ||| mkFld 55 48 7
def wExt0 : Ext := { st := .migrating, gen := 0, pool := 0, newPool := 1, window := 0 }
def wExt6 : Ext := { wExt0 with newPool := 6 }
def wQueued : State := wXl 1 { newXl with queue := [(0, 0, 0, .eng 1 2), (0, 0, 1, .eng 1 3), (0, 0, 0, .trk 5)] }

/-- Channel 0 has issued the read of a job. -/
def wJobRead (j : ChJob) : Nat × Nat × ChAcc := (0, 0, ownRead j 0 2 77)
def wReads (j : ChJob) (s : State) : State := { s with home.chans := [(0, { newChan with reading := [ownRead j 0 2 77] })] }

/-! ## The bridge -/

/-- HOST port 0 and LEGACY-DEVICE port 1 (legacy index 2) of host 0, both up; windows of `wTabs`; `l`: the legacy part of port 1;
`owned`: port 1 has a virtual bridge; `b`: the bridge's state. -/
def wPair (owned : Bool) (k : Link) (l : Leg) (b : Bridge) : State :=
  { wIn .solo with
    tabs := wTabs 1, links := [(0, { newLink with bound := true }), (1, k)], bridge := { b with legs := [(1, l)] }, clk := { newClk with locked := 0x3FFFF#18 },
    regs := [(Reg.portCtl 0, 1#64), (Reg.portCtl 1, 1#64), (Reg.portCfg 0, mkFld 10 8 4 ||| mkFld 2 0 1),
      (Reg.portCfg 1, mkFld 55 48 2 ||| mkFld 46 46 (b2n owned) ||| mkFld 10 8 4 ||| mkFld 2 0 3),
      (Reg.linkStatus 0, mkFld 15 13 5 ||| mkFld 12 10 4 ||| mkFld 9 9 1), (Reg.linkStatus 1, mkFld 15 13 5 ||| mkFld 12 10 4 ||| mkFld 9 9 1)] }
def wBound : Link := { newLink with bound := true }
def wContained : Link := { wBound with contained := true }
def wLeg (b : Bridge) : State := wPair true wBound newLeg b

/-- A read of host 0 at an address. -/
def wMemRd (addr : Nat) : MemReq := { op := .rd .noOp, addr, tag := 9, data := 0#512, mask := 0#64, poison := false }
/-- So many ports of chiplet 0 advertise credits that every tracker is reserved. -/
def wFull : State :=
  { wLeg { newBridge with rwd := [(0, 2048), (1, 2048), (2, 2048), (3, 2048)] } with
    links := [(0, wBound), (1, wBound)],
    regs := [(Reg.portCfg 0, mkFld 2 0 1), (Reg.portCfg 1, mkFld 2 0 1), (Reg.linkStatus 0, mkFld 12 10 7 ||| mkFld 9 9 1),
      (Reg.linkStatus 1, mkFld 12 10 7 ||| mkFld 9 9 1)] }
def wIo (k : IoKind) : IoReq :=
  { kind := k, addr := 0x100, dws := 1, fbe := 15, lbe := 0, data := [1#8, 2#8, 3#8, 4#8], reqId := 8, tag := 3, ep := false, plain := true }
def wIoTlp : Tlp := .mwr 0x100 15 0 [1#8, 2#8, 3#8, 4#8] 8 false 0

/-- A host's read in a state of its tracker; an answer for it; a unit with that answer. -/
def wTrk (st : TrkSt) (op : LineOp) : Trk :=
  { newTrk (.host 0 9) 0 .general op 0x40 77 with st, dpa := 0x1000, pool := 5, issuedAt := 100, timer := 50, heldAt := 200 }
def wTrks (st : TrkSt) (op : LineOp) : State := wLeg { newBridge with trks := [(3, wTrk st op)] }
def wAns : Answer := { okAnswer with data := 7#512, grant := .excl }
def wUnit : RUnit := mkUnit 0 2 14 1 77 1 (some 0) (.rsp (.trk 3) wAns)
def wArrived (s : State) : State := { s with rings := { s.rings with arrived := [wUnit] } }
/-- An ISL port 0 with a failed write's tag 4 noted. -/
def wIsl : State := { wPort 4 with bridge := { newBridge with islDone := [(4, (0, 0x40))] } }

/-- What the partner sends. -/
def wWrite (addr : Nat) : LegWrite :=
  { addr, fbe := 15, lbe := 0, data := [1#8, 2#8, 3#8, 4#8], reqId := 256, ido := false, ro := false, ep := false, plain := true }
def wRead (addr : Nat) : LegRead :=
  { addr, dws := 1, fbe := 15, lbe := 0, reqId := 256, tag := 5, ido := false, plain := true, listed := true }
def wOp : AtomOp := { kind := .fetchAdd, size := 4, a := 1, b := 0 }
/-- The window of host 0 without DEV_DMA. -/
def wNoDma : State :=
  { wLeg newBridge with tabs := { wTabs 1 with windows := [(0, { wWin with devDma := false })] } }
def wItem (body : IBody) (trks : List Nat) : Item :=
  { port := 1, stream := 0, cls := .w, body, first := 1, last := 1, toHost := true, trks, got := [], sent := 0, fails := [], closed := false,
    released := false, flushing := false, deadline := 9 }
def wAcked : Trk := { wTrk .respond (.write 0#512 fullMask true false .noOp) with src := .leg 0 0, ans := some okAnswer }
def wOut : Trk := { wTrk .issued (.read .noOp) with src := .leg 0 0, target := .hostLink 0, tag := some 4 }
def wCpl : CplIn :=
  { status := .sc, cplId := 0, tag := 4, byteCount := 4, lower := 0, data := [9#8, 8#8, 7#8, 6#8], ep := false, ido := false, last := true }
def wHostWait : Leg := { newLeg with hostWait := some 30 }
def wFm : State :=
  { wPair false wBound newLeg newBridge with
    regs := (Reg.fmRoute, mkFld 63 63 1 ||| mkFld 57 56 1) :: (wPair false wBound newLeg newBridge).regs }
def wEvRec : EvRec := { sev := .info, dpa := none, code := 1 }

/-- Port 1 with a message to send; with a tag in use or in quarantine; with a signal and a deassertion that wait. -/
def wEgr : Egr :=
  { kind := .posted, body := .tlp wIoTlp, deadline := 9, from_ := none, tag := none, line := 0, read := none, since := 0, group := 0, item := none }
def wSends : Leg := { newLeg with egress := [wEgr] }
def wTag : TagEnt := { who := .trk 3, second := false, start := some 100, timer := 40, owed := 4, partial_ := false }
def wTags : Leg := { newLeg with tags := [(4, wTag)], quar := [(6, 500)], ctoRun := 255 }
def wIoTrk : Trk := { wTrk .issued (.read .noOp) with src := .io 0 8 3, target := .legacy 1, tlp := some (.mrd 0x100 1 15 0 8 3), owed := 4 }
def wLost : Leg := { newLeg with signal := some 2, deassert := some (2, 3), intxOut := 3, dpcEn := 1, dpcInt := true, dpcReason := 6 }
def wNoLimit : State :=
  let s := wPair true wBound wTags { newBridge with trks := [(3, wIoTrk)] }
  s.wf (Reg.bxeCtl 2) 31 24 0

/-! ## The home agent -/

/-- An access of host 0 to line 5 of a window of one HBM extent (4); a home with one entry, snoop or answer. -/
def wAcc (op : LineOp) (shared : Bool) : LAcc :=
  { who := .trk 3, host := 0, cached := true, op, addr := 0, pool := 2 ^ 24 + 5, dpa := 0x140, win := 0, shared, mirror := false, rw := true,
    deadline := 77, slice := none, contrib := none, second := false }
def wHome (h : Home) : State := { wXl 1 newXl with home := h, bridge := { newBridge with trks := [(3, wTrk .issued (.read .noOp))] } }
def wArrives (a : LAcc) (h : Home) : State :=
  { wHome h with rings := { newRings with arrived := [mkUnit 3 14 2 3 77 1 (some 0) (.mem a)] } }
def wMem (a : LAcc) : RUnit := mkUnit 3 14 2 3 77 1 (some 0) (.mem a)
def wLine : Nat := 2 ^ 24 + 5
def wEnt (op : LineOp) (shared : Bool) (st : HSt) : HEnt := { acc := wAcc op shared, st, plane := 3, ans := none }
def wHeld (op : LineOp) (shared : Bool) (st : HSt) : Home := { newHome with entries := [(wLine, wEnt op shared st)] }
def wWr : LineOp := .write 9#512 fullMask true true .i
/-- Host 1 (0) holds the line. -/
def wSf (h : Nat) : Sf := { presence := hostBit h, excl := true, mirrored := false, way := 0 }
def wSnp : Snp :=
  { tag := 6, line := wLine, host := 0, kind := .inv, why := .access, start := 100, timer := 50, port := some 0, deadline := 77 }
def wSnooped (h : Home) : Home := { h with snoops := [wSnp], sf := [(wLine, wSf 0)] }
def wSet (h : Home) : State :=
  let s := wHome h
  { s with home := { h with sf := [(wLine, wSf 1)], cached := [(lineDie s wLine, sfSet wLine)] } }
def wCoh (st : CohSt) : State :=
  wHome { newHome with cohs := [(0, { newCoh with st, goneAt := some 100 })], sf := [(wLine, wSf 0), (wLine + 1, { wSf 0 with presence := 3#64 })] }
def wEvict : Evict := { die := 0, tag := 6, set := 5, why := .partner, deadline := 100 }
def wMirror (h : Home) : State := { wHome h with pair := { newPair with present := true, state := .formed } }
def wMirWait : MirWait := { id := 6, line := wLine, set := 0, acc := wAcc wWr false, plane := 3, ans := okAnswer, entry := true }

/-- An access at a channel; a line in its write buffer; channel 0. -/
def wChAcc (who : Who) : ChAcc :=
  { acc := { wAcc (.read .noOp) false with who }, hline := poolBaseMib noTables * 2 ^ 14 + 5, stop := 2, plane := 3, since := 0, entry := false,
    write := false, background := false, priv := none }
def wWEnt : WEnt := { hline := 5, deadline := 77, stop := 2, since := 0, host := some 0, priv := none, background := false }
def wChan (c : Chan) : State := wHome { newHome with chans := [(0, c)] }
def wRetire : State := { wChan { newChan with st := 1, copied := 2 } with tabs := { wTabs 1 with reserve := 1 } }
def wGranule : Nat := (freeGranule wRetire 200 ((carveOf wRetire.tabs 7).1 * 4096)).getD 0

/-! ## The tick unit and the rings -/

/-- A tick unit that runs, with host 0's contributor 2 and the state given. -/
def wTick (k : Tick) : State :=
  let s := wHome newHome
  { s with tick := { k with running := true, contribs := [(2, { engine := false, host := 0, budget := 1 })] } }
def wTwin (k : Tick) : State := { wTick k with pair := { newPair with present := true, state := .formed } }
def wBellOn : State := wTick { newTick with bellCtl := 0x401#64 }
def wTickRd : LAcc := { wAcc (.read .noOp) false with slice := none }
def wFullWr : LAcc := wAcc (.write 9#512 fullMask true true .i) false
/-- A full-line record; the tick that is committed holds it. -/
def wRec : Rec := { newRec 2 wLine 0 none with mask := fullMask, data := 9#512 }
def wOver : State := wTick { newTick with inbox := [wFullWr], open_ := [{ wRec with line := 7 }] }
def wCommit : State := wTick { newTick with committing := true, num := 6, published := 4, closed := [wRec], tags := [(wLine, (3, 4))] }
/-- Units of the rings. -/
def wRings (r : Rings) : State := { wHome newHome with rings := r }
def wEngUnit : RUnit := mkUnit 3 2 14 1 77 1 (some 0) (.rsp (.eng 1 2) okAnswer)
def wTrkUnit : RUnit := mkUnit 3 2 14 1 77 1 (some 0) (.rsp (.trk 3) okAnswer)

/-! ## Queues -/

/-- Queues 0 (page 0 of host 0, limit 4, no notices), 1 (mirrored, page 1), 2 (a job queue of cluster 0, dispatched), 3 (page 3, stale
notices to queue 0); producer 0 sends to queue 0 by page 0 of host 0. `u`: the queue unit. -/
def wQTabs : Tables :=
  { wTabs 1 with
    qCount := 4, dispatch := [2],
    queues := [(0, [mkFld 63 63 1 ||| mkFld 27 0 4, mkFld 63 48 5 ||| mkFld 47 32 7]),
      (1, [mkFld 63 62 3 ||| mkFld 27 0 4, mkFld 31 16 1]),
      (2, [mkFld 63 63 1 ||| mkFld 60 60 1 ||| mkFld 27 0 4, mkFld 15 0 1]),
      (3, [mkFld 63 63 1 ||| mkFld 53 53 1 ||| mkFld 27 0 4, mkFld 63 48 5 ||| mkFld 31 16 3]),
      (4, [mkFld 63 63 1, 0#64])] }
def wQu (u : QUnit) : State := { wPort 1 with tabs := wQTabs, qu := u }
/-- Queue 0 as given, and queue `n`. -/
def wQ (x : Queue) : State := wQu { newQUnit with queues := [(0, x)] }
def wQn (n : Nat) (x : Queue) : QUnit := { newQUnit with queues := [(n, x)] }
/-- A commit word with SEQ, PRIO and LENGTH; items. -/
def wCw (seq len : Nat) : Word := mkFld 63 32 seq ||| mkFld 31 30 1 ||| mkFld 14 0 len
def wItm (c : Nat) : QItem := { gap := false, cells := [c], commit := wCw 3 8, prod := 0, data := [5#64], poison := [] }
def wGap : QItem := gapItem 0 1#64 (dropWord 2 0) (dropWord 2 0)
/-- Two items in list 1, so many of them passed and marked. -/
def wLst (rd mkd : Nat) : QList := { items := [wItm 300000, wItm 300001], rd, mkd }
def wGaps (rd : Nat) : QList := { items := [wGap], rd, mkd := 0 }
def wQl (l : QList) : Queue := { newQueue with lists := [(1, l)] }
/-- Producer 0 with an item of one word; with NEXT_SEQ 3 and LAST_RESULT 1. -/
def wOpn : OpenItem :=
  { words := [(0, 5#64)], poisoned := [], cells := [(0, 300005)], ctx := true, noRoom := false, badWrite := false, deadline := 900 }
def wCm (o : OpenItem) (x : Queue) : State :=
  wQu { newQUnit with queues := [(0, x)], opens := [(0, o)], prods := [(0, (3, 1))], freed := [300009] }
def wCells : State :=
  let s := wCm { wOpn with cells := [(0, 300005), (1, 300006)] } (wQl (wLst 0 0))
  { s with qu := { s.qu with busy := [(0, { act := .cells, op := .commit 0 (wCw 3 7) none, dest := .host 0 8 9 0 8 77 })] } }
/-- A member of a formed pair that is home of set 0; that is its mirror. -/
def wPairQ (home : Bool) (u : QUnit) : State :=
  { wQu u with pair := { newPair with present := true, state := .formed, member := if home then 0 else 1, holder := [0, 1] } }
def wReset (u : QUnit) : State := wQu u
/-- Engine 1 has asked for an item of queue 2. -/
def wAsked (x : Queue) : State :=
  let s := wQu (wQn 2 x)
  { s with mill := { newMill with selections := [(1, 2), (3, 2)], engs := [(1, { newEng with job := some (askedJob 2 6) })] } }
def wDisp : State := { wQu (wQn 2 (wQl (wLst 0 0))) with regs := (wPort 1).regs ++ [(Reg.millCtl, mkFld 14 8 3)] }

/-! ## Jobs and engine events -/

/-- Engine 0 in a state of its own; the queues of `wQTabs`, a version of program 1, the registers of the mill. -/
def wMill (g : Eng) : State :=
  { wQu newQUnit with
    tabs := { wQTabs with versions := [wVersion [0xDC000000, 0xDC000000]], dispatch := [2] }, mill := { newMill with engs := [(0, g)] } }
/-- The job of `wJob` at a step, its record in line 0x4000 of slot 0; an engine that holds it. -/
def wJobAt (st : JobStep) : Job := { wJob with step := st, queue := 2, seq := 3, entry := 64, stack := 0x1000#64, evec := 0x2000#64, startAt := 100 }
def wHas (st : JobStep) : Eng := { newEng with st := 2, job := some (wJobAt st) }
def wStarting (st : JobStep) : Eng := { newEng with st := 1, job := some (wJobAt st) }
def wAcc0 (w : Option (Line × BitVec 64)) : FarAcc :=
  { st := .sent, addr := 0x100000, write := w, deadline := 77, since := 5, gen := none, dropped := false }
/-- Engine 0 with far access `id` answered. -/
def wGot (g : Eng) (id : Nat) (k : Option ErrKind) (d : Line) : State :=
  { wMill { g with acc := [(id, wAcc0 none)] } with rings := { newRings with engAns := [(.eng 0 id, { okAnswer with kind := k, data := d })] } }
/-- A descriptor of program 1 with one NORMAL slot that holds the record and a stream slot of queue 2's kind. -/
def wDescr (prog : Nat) : List Word :=
  [mkFld 63 52 prog ||| mkFld 31 27 1, mkFld 62 48 10, 0#64, mkFld 50 32 0x1000, 0#64, 0#64, 0#64, 0#64,
    1#64, 2#64, 3#64, 4#64, 5#64, 6#64, 7#64, 8#64, mkFld 63 61 3 ||| 0x100000#64, mkFld 51 0 4096]
def wDCw : Word := wCw 3 144
def wSel : Eng := { newEng with job := some { wJobAt .selecting with ask := 6 } }
def wSelJob : Job := { wJobAt .selecting with ask := 6 }
def wItemHere (prog : Nat) (ps : Bool) : State :=
  let s := wMill wSel
  { s with mill := { s.mill with answers := [(6, .item 1#64 2#64 (wDescr prog) wDCw 0 false ps)] } }
def wAssist8 (s : State) : State := { s with regs := s.regs ++ [(Reg.splitStatus, 0x80#64)] }
def wWindow : DispWin := { half := 0, tag := 9, eng := 0, deadline := 900 }
def wDeciding : State :=
  let s := wMill { newEng with job := some (wJobAt .deciding) }
  { s with mill := { s.mill with windows := [wWindow] } }
/-- Registers of a program in the middle of its code; a far load of it; a store. -/
def wMid : Arch := { newArch with pc := 0x40, evec := 0x2000#64, g := [(1, 7#64), (31, 0x1000#64)] }
def wRun : Eng := { wHas .running with arch := wMid }
def wFlight : Flight :=
  { num := 0, id := 4, kind := some .w, rd := 5, eaddr := 0x0100000000000008, fwdLine := 0#512, overMask := 0#64, device := false, before := wMid }
def wSb : SbEnt :=
  { id := 17, line := 0x100000, eline := 0x0100000000000000, data := 9#512, mask := 0xF0#64, issued := false, merges := true, device := false, at_ := 900 }
def wHalted : Eng := { newEng with st := 3, arch := wMid, shadow := { noShadow with info := mkFld 63 63 1 } }

/-! ## Twin pairs -/

/-- A member with TWIN ports 0 and 1 up and the pair state given, in a mode. -/
def wTwins (m : Mode) (p : Pair) : State :=
  { wIn m with
    pair := { p with present := true, pairId := 5 }, links := [(0, wBound), (1, wBound)], tabs := { wTabs 1 with queues := [] }, clk := { newClk with dtb := 5200 },
    regs := [(Reg.portCtl 0, 1#64), (Reg.portCtl 1, 1#64), (Reg.portCfg 0, mkFld 10 8 4 ||| mkFld 2 0 5), (Reg.portCfg 1, mkFld 10 8 4 ||| mkFld 2 0 5),
      (Reg.linkStatus 0, mkFld 15 13 5 ||| mkFld 12 10 4 ||| mkFld 9 9 1), (Reg.linkStatus 1, mkFld 15 13 5 ||| mkFld 12 10 4 ||| mkFld 9 9 1)] }
def wForm (id mem : Nat) (d : BitVec 384) (claims stale : Nat) : FormMsg :=
  { pairId := id, member := mem, digest := d, tickNum := 9, tickPublished := 7, claims, stale }
def wMem1 : Pair := { newPair with present := true, pairId := 5, member := 1, state := .formed, holder := [0, 1] }
/-- The same with a mirrored window of set 0, whose pool line is `wLine`. -/
def wMirSet (p : Pair) : State :=
  let s := wTwins .solo p
  { s with tabs := { s.tabs with windows := [(0, { wWin with mirror := true })] } }
def wHostUp (p : Pair) : State := { wPort 1 with pair := p }
def wIslPort (b : Bridge) : State :=
  { wPort 4 with pair := { newPair with twins := [(3, 6)] }, bridge := b }
def wIslTrk : Trk := { wTrk .issued (.read .noOp) with target := .isl 1 3 }

/-! ## Error records -/

/-- A device in SOLO with the error logger as given, HOST port 0 of host 0, 20 ms handling windows. -/
def wRas (r : Ras) : State := { wPort 1 with ras := r, regs := (wPort 1).regs ++ [(Reg.escCtl, 0x07D007D007D007D0#64)] }
def wRecOf (u : UnitKind) (i cls : Nat) (v : Sev) : ErrRec := { mkRec (wPort 1) cls v u i 0 with dtb := 5 }
def wPortRec (v : Sev) : ErrRec := wRecOf .port 0 0x26 v
def wCluster : ErrRec := wRecOf .cluster 3 0x70 .fatalUnit
def wNotice : ErrRec := wRecOf .ras 0 0xB1 .corrected
def wInRas (r : ErrRec) : Ras := { newRas with inbox := [r] }
def wFullRing : Ring := { emptyRing with prod := 300, cons := 44 }
def wEsc : EscWin := { tag := 7, er := wCluster, deadline := 900 }

/-! ## Slots -/

/-- A device in SOLO with slot 0 of a chain of one. -/
def wChainOf (sl : Slot) (c : Chain) : State := { wPort 1 with chain := { c with nSlots := 1, slots := [(0, sl)] } }
/-- A slot of port 7: hot-plug, AUTO_ON, PORT valid as bits say; I_LSB 4 mA, rated 1 A, trip at 5 A. -/
def wSlotOf (hp auto port : Bool) : Slot :=
  { newSlot (mkFld 62 62 (b2n hp) ||| mkFld 61 61 (b2n auto) ||| mkFld 60 60 (b2n port) ||| mkFld 56 48 7 ||| mkFld 9 0 4)
      (mkFld 63 32 900 ||| mkFld 31 16 500 ||| mkFld 15 0 100) with absent := false, absentRun := 0 }
def wSlOff : Slot := { wSlotOf true false false with state := .off, presentRun := 1000 }
def wOnSlot : Slot := { wSlotOf false false false with state := .on, en := true, presentRun := 1000, enApplied := true, enAt := 100 }
/-- An in word: PRESENT and IOUT. -/
def wInW (present : Bool) (iout : Nat) : BitVec 32 := withCheck (BitVec.ofNat 32 (b2n present * 2 ^ 27 + iout))

/-! ## Ill-formed commands: one for each check -/

/-- Operands out of the range of what they name. -/
theorem test_illformed_operands :
    ([.portEnable (.bar2 0) 512, .portEnable (.bar2 512) 0, .portEnable (.mctpVdm 512) 0, .portEnable (.steward 4) 0,
      .registerWrite .jtag (2 ^ 32) 8 0#64, .clearingRead .jtag (2 ^ 32) 8, .translationWalkStart 2, .walkComplete 0 4096 0 .clean,
      .walkComplete 0 0 524288 .clean, .fillTimeout 0 256, .planeRecoveryResync 24, .bxeForceContain .jtag 256, .legacyIntxMessage 0 ⟨4, 0⟩ true,
      .homeAccessStart (2 ^ 46), .goneTimeout 64, .partnerEvictRequest (2 ^ 24), .channelDead 128, .generationDrained 16,
      .extentScrubComplete 524288, .migrationCopyDone 16 [], .eqMeasureComplete 0 7 [] 0, .partnerDownshift 0 0 5 0 false,
      .commitCellsAccepted 262144, .dispatchSelect 16, .engAbort .jtag 128] : List Instr).all (fun c => !c.wf) = true ∧
    ([.sharedInstant 18 [], .chipletPllLockLoss 8, .chipletPllRelock 8, .islTakeoverNotice 0 4096, .setMoveReceived 2,
      .ringConsWrite .jtag 0 0, .ringConsWrite .jtag 6 0, .ringConsWrite .jtag 1 (2 ^ 32), .vlogConsWrite .jtag (2 ^ 32),
      .stewardWatchdogPet 4, .isoIsolate .jtag 256 0, .isoRejoin .jtag 0 (2 ^ 18), .slotPowerFailCheck 128,
      .slotControlWrite 0 false 4 0, .slotControlWrite 0 false 0 4, .read32 .jtag 256 0, .write64 .jtag 0 (2 ^ 32) 0#64,
      .readBlock .jtag 0 0 256, .csrAccess false (2 ^ 23) 0#64, .bistGo 64, .bistComplete 64, .keyProgram 4,
      .keyRevoke 4, .gpioEdge 16, .partnerRetrain 0 7 0 0] : List Instr).all (fun c => !c.wf) = true := by
  refine ⟨?_, ?_⟩ <;> decide +kernel

/-- Fields of engine instructions out of the range of their encoding, and operand types that an instruction does not take. -/
theorem test_illformed_engine :
    ([.engAdd 128 0 0 0, .engAdd 0 32 0 0, .engSub 0 0 32 0, .engMul 0 0 0 32, .engAddi 0 0 0 65536, .engShiSll 0 0 0 256 0,
      .engShiSrl 0 0 0 0 64, .engLui 0 0 65536, .engFadd 0 3 0 0 0, .engFcvtX 0 0 3 0 0 0, .engLd 0 0 0 65536 false, .engSd 0 32 0 0,
      .engVld 0 16 0 0 false, .engVst 0 16 0 0, .engVstm 0 0 0 7 0, .engVstm 0 0 0 0 8, .engBeq 0 0 0 32768 0, .engBne 0 0 0 0 2,
      .engJ 0 (2 ^ 26), .engJal 0 (2 ^ 26), .engJr 0 0 0 65536, .engLoop 0 0 65536, .engLoopi 0 1024 0, .engQpush 0 0 0 4096 0,
      .engQpop 0 0 0 0 16, .engQrelMark 0 1024 0 0, .engWaitH 0 0 256, .engTrap 0 1024 0, .engRfe 0 (2 ^ 26), .engSetm 0 32 0 0,
      .engMfs 0 0 0 65536, .engMts 0 32 0 0, .engOrdA 0 (2 ^ 24), .engDone 0 (2 ^ 26), .engVadd 0 7 0 0 0 0, .engVsll 0 4 0 0 0 0,
      .engVredAdd 0 0 0 0 16 0, .engVcmpLtu 0 4 0 0 0 0, .engVbcast 0 0 16 0 0 0, .engVext 0 0 0 0 32 0, .engVins 0 0 0 32 0 0,
      .engMfp 0 7 0 0 0 0, .engMtp 0 0 0 0 0 8] : List Instr).all (fun c => !c.wf) = true := by decide +kernel

/-- The largest operands are well formed. -/
theorem test_wellformed_bounds :
    ([.portEnable (.bar2 511) 511, .registerWrite .jtag (2 ^ 32 - 1) 8 0#64, .extentScrubComplete 524287, .leaseExpiry 262143,
      .engAdd 127 31 31 31, .engAddi 127 31 31 65535, .engFcvtX 0 2 2 31 31 31, .engVadd 0 6 15 15 15 7, .engQpush 0 31 31 4095 15,
      .ringConsWrite .jtag 5 (2 ^ 32 - 1), .gpioEdge 15] : List Instr).all Instr.wf = true := by decide +kernel

/-! ## Reset, and the block's idle step -/

/-- DEV_MODE reads AUX, RESET_CAUSE AUX_POWER (18, reset values); auxiliary power reset leaves the tables in canonical form. -/
theorem test_reset_mode : State.reset.mode.code = 1 ∧ regValue State.reset Reg.resetCause = 0x0000000100010001#64 ∧
    State.reset.canonical = true := by decide +kernel

/-- A state in canonical form with memory and registers listed, on which a step completes. -/
theorem wit_CanonicalKept : ∃ s t, s.canonical = true ∧ s.home.mem ≠ [] ∧ s.regs ≠ [] ∧ step s = .next t :=
  ⟨{ State.reset with regs := [(Reg.almCtl, 1#64)], home := { newHome with mem := [(3, 1#8), (64, 2#8)] }, pending := [.vlogConsWrite .jtag 0] },
    _, by decide +kernel, by decide, by decide, rfl⟩

/-- Commands of the framed lists that complete with a change. -/
theorem wit_UnitFrames : ∃ s t, exec .auxRefclkReturn s = .next t ∧ t ≠ s :=
  ⟨{ wIn .solo with clk := { newClk with auxOsc := true } }, _, rfl, by decide +kernel⟩

theorem wit_BridgeFrames : ∃ s t, exec (.trackerTimeout 3) s = .next t ∧ t ≠ s :=
  ⟨wTrks .issued (.read .noOp), _, rfl, by decide +kernel⟩

/-! ## States and operands of the witnesses -/

def wSystemInstructions2 := wEng (.rfe 0) { wArch [(31, 0x3FFC0#64)] with status := 1#64 }
def wAuxiliaryPower0 : State := { wIn .off with pwr := { newPwr with auxGood := false } }
def wCounterSteps3 : BarReq := { off := 0x888, dws := 2, allBe := true, data := none }
def wKeySlots1 : KeySlot := { digest := some 1#384, revoked := false }
def wWalksAndFills1 := wReads (.walk 0 0 0) (wXl 1 { newXl with walks := [wWalk] })
def wWalksAndFills3 := wReads (.walk 0 0 0) (wXlA { newXl with walks := [wWalk] })
def wWalksAndFills4 := wXl 1 { newXl with fills := [wFill] }
def wPoolChanges3 := wXl 1 { newXl with migs := [(0, wMig)] }
def wPoolChanges4 := wXl 6 { newXl with migs := [(0, wMig)] }
def wDynamicCapacity1 := wXl 1 { newXl with dcOffer := [(0, 1), (0, 2), (0, 0)], dcAdd := [{ win := 0, items := [(3, 7)] }] }
def wDynamicCapacity3 := wXl 1 { newXl with dcRel := [wRel] }
def wDynamicCapacity5 := wXlA { newXl with dcRel := [wRel] }
def wPartnerRequests8 := wLeg { newBridge with trks := [(3, wAcked)], items := [(0, wItem (.write true) [3])] }
def wPartnerRequests9 := wLeg { newBridge with trks := [(3, wOut)], items := [(0, wItem (.read (wRead 0)) [3])] }
def wPartnerAnswers1 := wPair true wBound wTags { newBridge with trks := [(3, wIoTrk)] }
def wPartnerAnswers2 := wPair true wBound wTags { newBridge with trks := [(3, wTrk .issued (.read .noOp))] }
def wHomeAccesses5 := wReads (.setRead 0 7) (wHome { newHome with setReads := [(0, 7)] })
def wHomeAndChannels2 := wHome { newHome with evicts := [wEvict] }
def wHomeAndChannels5 := wMirror { wHeld wWr false .mirror with mirWaits := [wMirWait] }
def wHomeAndChannels8 := wChan { newChan with readQ := [wChAcc (.trk 3)] }
def wHomeAndChannels9 := wChan { newChan with wbuf := [wWEnt] }
def wHomeAndChannels10 := wChan { newChan with reading := [wChAcc (.trk 3)] }
def wHomeAndChannels11 := wChan { newChan with reading := [wChAcc .own] }
def wTickUnit2 := wTick { newTick with bellOutUntil := some 200 }
def wTickUnit3 := wTick { newTick with inbox := [wFullWr] }
def wTickUnit5 := wTick { newTick with inbox := [wTickRd] }
def wTickUnit6 := wTick { newTick with open_ := [wRec] }
def wTickUnit8 := wTick { newTick with published := 2 ^ 31, walkAt := 1, tags := [(4, (7, 5)), (6, (1, 9))] }
def wTickUnit10 := wTick { newTick with num := 5, published := 3 }
def wRingUnits0 := wRings { newRings with flight := [wEngUnit] }
def wRingUnits1 := wRings { newRings with flight := [wTrkUnit] }
def wRingUnits4 := wRings { newRings with planes := [(3, .stopped)], arrived := [{ wTrkUnit with credit := 1 }], own := [(3, 1, 2, 14), (3, 2, 2, 14)], back := [(1, 3, 2, 2, 14)] }
def wRingUnits5 := wRings { newRings with planes := [(3, .safe)] }
def wRingUnits6 := wRings { newRings with back := [(1, 3, 2, 2, 14)], own := [(3, 2, 2, 14)] }
def wRingUnits7 := wRings { newRings with wait := [wTrkUnit] }
def wRingUnits9 := wRings { newRings with next := some [(0, 4)] }
def wRingUnits10 := wRings { newRings with dirty := true }
def wQueueItems1 := wQu { newQUnit with freed := [300009, 300010] }
def wQueueItems8 : OpenItem := { wOpn with badWrite := true }
def wQueueItems8a := wCm { wOpn with badWrite := true } newQueue
def wQueueItems9 : OpenItem := { wOpn with noRoom := true, cells := [] }
def wQueueItems9a := wCm { wOpn with noRoom := true, cells := [] } { wQl (wGaps 0) with gapState := 1 }
def wQueueItems10 := wCm wOpn (wQl { wLst 0 0 with items := List.replicate 4 (wItm 300001) })
def wQueueItems11 := wCm wOpn { wQl { wLst 0 0 with items := List.replicate 4 (wItm 300001) } with gapState := 2 }
def wQueueItems13 : OpenItem := { wOpn with cells := [(0, 300005), (1, 300006)] }
def wQueueConsumers0 := wQ { wQl (wLst 0 0) with stale := true, lease := some 2 }
def wQueueConsumers1 := wQ { wQl (wLst 1 0) with cur := some 1 }
def wQueueConsumers3 := wQ { wQl (wGaps 0) with gapState := 1 }
def wQueueConsumers6 := wQ { wQl (wLst 1 1) with lease := some 2, lapsed := true }
def wQueueConsumers7 := wQ { wQl (wGaps 1) with gapState := 2, dropsHeld := 5, gapPrio := 3 }
def wQueueConsumers8 := wQ { wQl (wLst 2 1) with lease := some 900 }
def wQueueConsumers9 := wQ { wQl (wLst 0 0) with staleAt := some 900 }
def wQueueConsumers10 := wQu { wQn 3 { wQl (wLst 0 0) with staleAt := some 900 } with freed := [300005] }
def wQueueConsumers11 : State := { wQu (wQn 3 { wQl (wLst 0 0) with staleAt := some 900 }) with regs := (wPort 1).regs ++ [(Reg.splitStatus, 0x40#64)] }
def wQueueConsumers12 : QBusy := { act := .reset, op := .reset, dest := .none }
def wQueueConsumers12a := wQu { newQUnit with busy := [(0, { act := .reset, op := .reset, dest := .none })] }
def wQueueConsumers14 : State := { wPairQ false newQUnit with pair := { newPair with present := true, state := .partnerLost, member := 1, holder := [0, 1] } }
def wQueueHomesAndRounds0 := wPairQ true (wQn 1 { wQl (wLst 0 0) with cur := some 1 })
def wQueueHomesAndRounds3 := wPairQ false { wQn 1 (wQl (wLst 0 0)) with freed := [300005, 300006] }
def wQueueHomesAndRounds4 : State := { wQ (wQl (wLst 1 0)) with regs := (wPort 1).regs }
def wQueueHomesAndRounds5 : State := { wQu { newQUnit with busy := [(0, { act := .reset, op := .reset, dest := .none })] } with regs := (wPort 1).regs ++ [(Reg.qReset, setBit 0#64 63)] }
def wQueueHomesAndRounds6 : Round := { limit := 3, count := 1, ended := 0, rewind := false, refreshAt := 900 }
def wQueueHomesAndRounds6a := wQu { wQn 2 { wQl (wLst 1 0) with lease := some 5 } with rounds := [(2, { limit := 3, count := 1, ended := 0, rewind := false, refreshAt := 900 })] }
def wEngineEvents4 : Round := { limit := 3, count := 2, ended := 0, rewind := false, refreshAt := 900 }
def wEngineEvents4a : State := { wItemHere 1 false with mill := { (wMill wSel).mill with answers := [(6, .item 1#64 2#64 (wDescr 1) wDCw 0 true false)] }, qu := { newQUnit with rounds := [(2, { limit := 3, count := 2, ended := 0, rewind := false, refreshAt := 900 })] } }
def wEngineEvents11 : Job := { wJobAt .start with args := [1#64, 2#64, 3#64, 4#64, 5#64, 6#64, 7#64, 8#64], input := [9#64], inputLen := 5, benchIn := 16 }
def wEngineEvents11a := wGot { wStarting .start with job := some { wJobAt .start with args := [1#64, 2#64, 3#64, 4#64, 5#64, 6#64, 7#64, 8#64], input := [9#64], inputLen := 5, benchIn := 16 } } accRunning none 0#512
def wEngineEvents13 : Job := { wJobAt .valid with halts := true }
def wEngineEvents13a := wGot { wHas .valid with job := some { wJobAt .valid with halts := true }, arch := wMid } accValid none 0#512
def wEngineEvents14 : State := { wGot (wHas .valid) accValid none 0#512 with qu := { wQn 2 { newQueue with lists := [(0, wLst 1 0)] } with rounds := [(2, { limit := 3, count := 1, ended := 0, rewind := false, refreshAt := 900 })] } }
def wEngineEvents16 : Job := { wJobAt .running with grace := some 500 }
def wEngineEvents16a := wMill { wRun with job := some { wJobAt .running with grace := some 500 } }
def wEngineEvents20 := wMill { wHalted with shadow := { noShadow with info := mkFld 63 62 3 } }
def wEngineEvents21 := wMill { wRun with wait := .fetch 1 }
def wEngineEvents22 := wGot { wRun with flights := [wFlight] } 4 none (BitVec.ofNat 512 (0x80000001 * 2 ^ 64))
def wEngineEvents23 := wGot { wRun with flights := [wFlight] } 4 (some .violation) 0#512
def wEngineEvents24 := wMill { wRun with sb := [wSb] }
def wEngineEvents24a : SbEnt := { wSb with mask := fullMask }
def wEngineEvents24b := wMill { wRun with sb := [{ wSb with mask := fullMask }] }
def wEngineEvents25 : SbEnt := { wSb with issued := true }
def wEngineEvents25a := wGot { wRun with sb := [{ wSb with issued := true }] } 17 none 0#512
def wEngineEvents26 := wGot { wRun with sb := [{ wSb with issued := true }] } 17 (some .offline) 0#512
def wEngineEvents27 := wMill { wRun with wait := .sleep 900 }
def wEngineEvents28 : State := { wMill { wRun with wait := .queue 6 (some 5) none 1 } with mill := { newMill with engs := [(0, { wRun with wait := .queue 6 (some 5) none 1 })], answers := [(6, .value 9#64)] } }
def wEngineEvents29 : State := { wMill wRun with mill := { newMill with engs := [(0, { wRun with wait := .queue 6 (some 5) (some 0x40) 2 })], answers := [(6, .item 1#64 2#64 [5#64, 6#64] (wCw 3 16) 0 false false)] } }
def wEngineEvents30 : State := { wMill wRun with mill := { newMill with engs := [(0, { wRun with wait := .queue 6 (some 5) none 2 })], answers := [(6, .error .violation)] } }
def wPairEvents0 := wTwins .solo { wMem1 with state := .waiting }
def wPairEvents0a := wTwins .solo { wMem1 with state := .linkLost }
def wPairEvents0b := wTwins .solo { wMem1 with state := .waiting, claimed := [false, true] }
def wPairEvents1 := wTwins .solo { wMem1 with state := .waiting, holder := [2, 2], formCause := 3 }
def wPairEvents2 := wTwins .solo { wMem1 with state := .waiting, holder := [2, 2] }
def wPairEvents3 : SetCopy := { lines := [], sf := [], slot1 := [], tags := [], base := [], staged := [], queues := [], prods := [] }
def wPairEvents3a := wTwins .solo { wMem1 with state := .syncing, syncSet := some 1, holder := [1, 1], peerStale := [true, true] }
def wPairEvents3b := wTwins .solo { wMem1 with member := 0, state := .syncing, syncSet := some 0, holder := [0, 0], peerStale := [true, true] }
def wPairEvents4 := wMirSet { wMem1 with state := .syncing, syncSet := some 0, holder := [0, 0], copy := [.syncing, .current] }
def wPairEvents5 : State := { wTwins .paired wMem1 with tick := { newTick with running := true, open_ := [wRec] } }
def wPairEvents6 : State := { wTwins .paired { wMem1 with takeTick := some (8, 6) } with tick := { newTick with running := true, open_ := [wRec] } }
def wPairEvents8 : State := { wFull with pair := wMem1 }
def wPairEvents10 : Heartbeat := { dtb := 900, roundTrip := 40, mode := 6, hostLinks := 5 }
def wPairEvents11 := wTwins .paired { wMem1 with missRun := 2 }
def wPairEvents12 := wTwins .paired { wMem1 with missRun := 3, aliveIn := true }
def wPairEvents13 := wTwins .paired { wMem1 with missRun := 3, copy := [.stale, .current] }
def wPairEvents15 := wTwins .halt { wMem1 with aliveOut := true }
def wPairEvents16 := wTwins .paired { wMem1 with aliveIn := true }
def wPairEvents17 := wTwins .paired { wMem1 with aliveIn := true, waitUntil := some 900 }
def wPairEvents18 : State := { wTwins .paired { wMem1 with aliveIn := true, waitUntil := some 900 } with regs := (wTwins .paired wMem1).regs ++ [(Reg.splitStatus, 0x200#64)] }
def wPairEvents20 := wTwins .paired { wMem1 with waitUntil := some 9000 }
def wPairEvents21 : State := { wHostUp { wMem1 with state := .partnerLost, tkOpen := some (7, 1), tkPost := some 1#64 } with alm := { newAlm with mode := .paired }, tabs := noTables }
def wPairEvents23 := wHostUp { wMem1 with tkOpen := some (8, 1) }
def wPairEvents24 := wHostUp { wMem1 with state := .partnerLost, tkSets := 1, tkDecided := 5 }
def wPairEvents25 := wTwins .takeover { wMem1 with state := .partnerLost, tkSets := 1, tkReady := some 5, tkUntil := some 9000 }
def wPairEvents26 := wIslPort { newBridge with trks := [(3, wIslTrk)] }
def wPairEvents27 : State := { wHostUp { wMem1 with pinSuspect := true, aliveIn := true } with links := [(0, wBound), (1, wBound)], regs := (wPort 1).regs ++ [(Reg.portCfg 1, mkFld 10 8 4 ||| mkFld 2 0 5), (Reg.linkStatus 1, mkFld 9 9 1)] }
def wPairEvents28 : State := { wHostUp wMem1 with regs := (wPort 1).regs ++ [(Reg.pairCtl, 0x100#64)] }
def wPairEvents29 := wHostUp { wMem1 with state := .linkLost }
def wPairEvents30 : State := { wTwins .paired { wMem1 with moveSet := some (1, 4), holder := [1, 1], copy := [.stale, .stale] } with tick := { newTick with published := 4 } }
def wPairEvents31 := wTwins .paired { wMem1 with holder := [0, 0], peerStale := [true, true] }
def wPairEvents33 : State := { wTwins .paired { wMem1 with member := 0, dissolving := some 4 } with tick := { newTick with committing := true, published := 3, closed := [], num := 5 } }
def wRasEvents1 : HWindow := { unit := .port, inst := 0, sev := .deferred, seq := 4, start := 0, deadline := 0, pos := none }
def wRasEvents1a := wRas { wInRas (wPortRec .corrected) with windows := [{ unit := .port, inst := 0, sev := .deferred, seq := 4, start := 0, deadline := 0, pos := none }] }
def wRasEvents1b : HWindow := { unit := .port, inst := 0, sev := .corrected, seq := 0, start := 0, deadline := 0, pos := none }
def wRasEvents1c := wRas { wInRas (wPortRec .deferred) with windows := [{ unit := .port, inst := 0, sev := .corrected, seq := 0, start := 0, deadline := 0, pos := none }] }
def wRasEvents3 := wRas { wInRas wNotice with rings := [(1, wFullRing)] }
def wRasEvents4 := wRas { wInRas (wPortRec .corrected) with locks := [(1, 2)] }
def wRasEvents7 : State := { wRas (wInRas wCluster) with regs := (wRas newRas).regs ++ [(Reg.splitStatus, 0x10#64)] }
def wRasEvents8 : HWindow := { unit := .port, inst := 0, sev := .corrected, seq := 0, start := 0, deadline := 900, pos := none }
def wRasEvents8a := wRas { newRas with windows := [{ unit := .host, inst := 0, sev := .corrected, seq := 0, start := 0, deadline := 1900, pos := none }, { unit := .port, inst := 0, sev := .corrected, seq := 0, start := 0, deadline := 900, pos := none }] }
def wRasEvents9 := wRas { newRas with rings := [(1, wFullRing)] }
def wRasEvents11 := wRas { newRas with vprod := 9, vcons := 4 }
def wRasEvents12 : LockWait := { er := wNotice, since := 100 }
def wRasEvents12a := wRas { newRas with waiting := [{ er := wNotice, since := 100 }] }
def wRasEvents13 := wRas { newRas with waiting := [{ er := wNotice, since := 100 }], slotUsed := 65535 }
def wRasEvents14 := wRas { newRas with locks := [(1, 2)], slotUsed := 1, slots := [(0, wNotice)] }
def wRasEvents15 := wRas { newRas with stwInbox := [wNotice] }
def wRasEvents16 := wRas { newRas with escOpen := [wEsc] }
def wRasEvents22 : State := { wRas { newRas with isoClusters := [15] } with alm := { newAlm with mode := .degraded, degCauses := 2#4 }, mill := { newMill with engs := [(120, { newEng with st := 3 })] } }
def wRasEvents23 := wRas { newRas with wdog := [(2, 900)] }
def wRasEvents24 := wRas { newRas with wdog := [(2, 900)], restarts := [(2, 255)] }
def wSlotEvents0 : State := { wPort 1 with chain := { newChain with nSlots := 1, frames := 0xFFFFFF }, clk := { newClk with dtb := 100001 } }
def wSlotEvents1 : Slot := { wSlOff with shifted := outWord 0 wOnSlot }
def wSlotEvents1a := wChainOf { wSlOff with shifted := outWord 0 wOnSlot } { newChain with applyNext := true }
def wSlotEvents2 : Slot := { wOnSlot with en := false, tripped := true, shifted := outWord 0 wSlOff }
def wSlotEvents2a := wChainOf { wOnSlot with en := false, tripped := true, shifted := outWord 0 wSlOff } { newChain with applyNext := true }
def wSlotEvents3 : Slot := { wOnSlot with en := false, tripped := true, lockAfter := true, shifted := outWord 0 wSlOff }
def wSlotEvents3a := wChainOf { wOnSlot with en := false, tripped := true, lockAfter := true, shifted := outWord 0 wSlOff } { newChain with applyNext := true }
def wSlotEvents4 := wChainOf wOnSlot { newChain with waitSince := some 5 }
def wSlotEvents4a : Slot := { wOnSlot with offNext := true, perstSent := true }
def wSlotEvents4b := wChainOf { wOnSlot with offNext := true, perstSent := true } { newChain with waitSince := some 5 }
def wSlotEvents5 : State := { wPort 1 with chain := { newChain with shifting := true } }
def wSlotEvents6 := wChainOf wSlOff { newChain with shifting := true }
def wSlotEvents7 := wChainOf wOnSlot { newChain with shifting := true }
def wSlotEvents9 : Slot := { wSlOff with absentRun := 9 }
def wSlotEvents9a := wChainOf { wSlOff with absentRun := 9 } { newChain with shifting := true }
def wSlotEvents10 : Slot := { wSlotOf false true false with state := .debounce, presentRun := 999 }
def wSlotEvents10a := wChainOf { wSlotOf false true false with state := .debounce, presentRun := 999 } { newChain with shifting := true }
def wSlotEvents11 : State := { wPort 1 with chain := { newChain with waitSince := some 5 } }
def wSlotEvents12 : Slot := { wSlOff with state := .retryWait, want := true, retryFrom := some 5, retryNeed := 500, retries := 2 }
def wSlotEvents12a := wChainOf { wSlOff with state := .retryWait, want := true, retryFrom := some 5, retryNeed := 500, retries := 2 } newChain
def wSlotEvents13 : Slot := { wOnSlot with failDeadline := some 50 }
def wSlotEvents13a := wChainOf { wOnSlot with failDeadline := some 50 } newChain
def wSlotEvents14 : Slot := { wSlOff with shortFrom := some 50 }
def wSlotEvents14a := wChainOf { wSlOff with shortFrom := some 50 } newChain
def wSlotEvents15 : Slot := { wSlotOf true false true with perstDeadline := some 50 }
def wSlotEvents15a := wChainOf { wSlotOf true false true with perstDeadline := some 50 } newChain
def wSlotEvents16 : Slot := { wSlOff with state := .lockedOff, retries := 3, tripCause := 6 }
def wSlotEvents16a := wChainOf { wSlOff with state := .lockedOff, retries := 3, tripCause := 6 } newChain
def wSlotEvents17 : Slot := { wSlOff with state := .fetShort, cutoff := true }
def wSlotEvents17a := wChainOf { wSlOff with state := .fetShort, cutoff := true } newChain
def wSlotEvents18 : State := { wChainOf wSlOff newChain with regs := (wPort 1).regs ++ [(Reg.splitStatus, 8#64)] }
def wSlotEvents21 : Slot := { wOnSlot with cfg := wSlOff.cfg }
def wSlotEvents21a := wChainOf { wOnSlot with cfg := wSlOff.cfg } newChain

/-! ## States that meet the hypotheses of the statements: one theorem a statement, one part a clause -/

theorem wit_AluResults :
    (engReady 0 (EOp.alu AluOp.add 1 2 3) (wEng (EOp.alu AluOp.add 1 2 3) newArch) = true) ∧
    (engReady 0 (EOp.alu AluOp.sub 1 2 3) (wEng (EOp.alu AluOp.sub 1 2 3) newArch) = true) ∧
    (engReady 0 (EOp.alu AluOp.and 1 2 3) (wEng (EOp.alu AluOp.and 1 2 3) newArch) = true) ∧
    (engReady 0 (EOp.alu AluOp.or 1 2 3) (wEng (EOp.alu AluOp.or 1 2 3) newArch) = true) ∧
    (engReady 0 (EOp.alu AluOp.xor 1 2 3) (wEng (EOp.alu AluOp.xor 1 2 3) newArch) = true) ∧
    (engReady 0 (EOp.alu AluOp.sll 1 2 3) (wEng (EOp.alu AluOp.sll 1 2 3) newArch) = true) ∧
    (engReady 0 (EOp.alu AluOp.srl 1 2 3) (wEng (EOp.alu AluOp.srl 1 2 3) newArch) = true) ∧
    (engReady 0 (EOp.alu AluOp.sra 1 2 3) (wEng (EOp.alu AluOp.sra 1 2 3) newArch) = true) ∧
    (engReady 0 (EOp.alu AluOp.slt 1 2 3) (wEng (EOp.alu AluOp.slt 1 2 3) newArch) = true) ∧
    (engReady 0 (EOp.alu AluOp.sltu 1 2 3) (wEng (EOp.alu AluOp.sltu 1 2 3) newArch) = true) ∧
    (engReady 0 (EOp.alu AluOp.min 1 2 3) (wEng (EOp.alu AluOp.min 1 2 3) newArch) = true) ∧
    (engReady 0 (EOp.alu AluOp.max 1 2 3) (wEng (EOp.alu AluOp.max 1 2 3) newArch) = true) ∧
    (engReady 0 (EOp.alu AluOp.minu 1 2 3) (wEng (EOp.alu AluOp.minu 1 2 3) newArch) = true) ∧
    (engReady 0 (EOp.alu AluOp.maxu 1 2 3) (wEng (EOp.alu AluOp.maxu 1 2 3) newArch) = true) ∧
    (engReady 0 (EOp.alu AluOp.mul 1 2 3) (wEng (EOp.alu AluOp.mul 1 2 3) newArch) = true) ∧
    (engReady 0 (EOp.alu AluOp.mulh 1 2 3) (wEng (EOp.alu AluOp.mulh 1 2 3) newArch) = true) ∧
    (engReady 0 (EOp.alu AluOp.mulhu 1 2 3) (wEng (EOp.alu AluOp.mulhu 1 2 3) newArch) = true) ∧
    (engReady 0 (EOp.alu AluOp.div 1 2 3) (wEng (EOp.alu AluOp.div 1 2 3) newArch) = true) ∧
    (engReady 0 (EOp.alu AluOp.divu 1 2 3) (wEng (EOp.alu AluOp.divu 1 2 3) newArch) = true) ∧
    (engReady 0 (EOp.alu AluOp.rem 1 2 3) (wEng (EOp.alu AluOp.rem 1 2 3) newArch) = true) ∧
    (engReady 0 (EOp.alu AluOp.remu 1 2 3) (wEng (EOp.alu AluOp.remu 1 2 3) newArch) = true) ∧
    (engReady 0 (EOp.alu AluOp.clz 1 2 3) (wEng (EOp.alu AluOp.clz 1 2 3) newArch) = true) ∧
    (engReady 0 (EOp.alu AluOp.ctz 1 2 3) (wEng (EOp.alu AluOp.ctz 1 2 3) newArch) = true) ∧
    (engReady 0 (EOp.alu AluOp.popc 1 2 3) (wEng (EOp.alu AluOp.popc 1 2 3) newArch) = true) ∧
    (engReady 0 (EOp.alu AluOp.brev8 1 2 3) (wEng (EOp.alu AluOp.brev8 1 2 3) newArch) = true) ∧
    (engReady 0 (EOp.imm ImmOp.addi 1 2 65535) (wEng (EOp.imm ImmOp.addi 1 2 65535) newArch) = true) ∧
    (engReady 0 (EOp.imm ImmOp.andi 1 2 65535) (wEng (EOp.imm ImmOp.andi 1 2 65535) newArch) = true) ∧
    (engReady 0 (EOp.imm ImmOp.ori 1 2 65535) (wEng (EOp.imm ImmOp.ori 1 2 65535) newArch) = true) ∧
    (engReady 0 (EOp.imm ImmOp.xori 1 2 65535) (wEng (EOp.imm ImmOp.xori 1 2 65535) newArch) = true) ∧
    (engReady 0 (EOp.imm ImmOp.slti 1 2 65535) (wEng (EOp.imm ImmOp.slti 1 2 65535) newArch) = true) ∧
    (engReady 0 (EOp.imm ImmOp.sltiu 1 2 65535) (wEng (EOp.imm ImmOp.sltiu 1 2 65535) newArch) = true) ∧
    (engReady 0 (EOp.shi ShOp.sll 1 2 0 63) (wEng (EOp.shi ShOp.sll 1 2 0 63) newArch) = true) ∧
    (engReady 0 (EOp.shi ShOp.srl 1 2 0 63) (wEng (EOp.shi ShOp.srl 1 2 0 63) newArch) = true) ∧
    (engReady 0 (EOp.shi ShOp.sra 1 2 0 63) (wEng (EOp.shi ShOp.sra 1 2 0 63) newArch) = true) ∧
    (engReady 0 (EOp.lui 31 65535) (wEng (EOp.lui 31 65535) newArch) = true) := by
  refine ⟨?_, ?_, ?_, ?_, ?_, ?_, ?_, ?_, ?_, ?_, ?_, ?_, ?_, ?_, ?_, ?_, ?_, ?_, ?_, ?_, ?_, ?_, ?_, ?_, ?_, ?_, ?_, ?_, ?_, ?_, ?_, ?_, ?_, ?_, ?_⟩ <;> decide +kernel

theorem wit_FpuResults :
    (engReady 0 (EOp.fpu FpuOp.add 1 0 4 5 6) (wEng (EOp.fpu FpuOp.add 1 0 4 5 6) newArch) = true) ∧
    (engReady 0 (EOp.fpu FpuOp.sub 1 0 4 5 6) (wEng (EOp.fpu FpuOp.sub 1 0 4 5 6) newArch) = true) ∧
    (engReady 0 (EOp.fpu FpuOp.mul 1 0 4 5 6) (wEng (EOp.fpu FpuOp.mul 1 0 4 5 6) newArch) = true) ∧
    (engReady 0 (EOp.fpu FpuOp.div 1 0 4 5 6) (wEng (EOp.fpu FpuOp.div 1 0 4 5 6) newArch) = true) ∧
    (engReady 0 (EOp.fpu FpuOp.min 1 0 4 5 6) (wEng (EOp.fpu FpuOp.min 1 0 4 5 6) newArch) = true) ∧
    (engReady 0 (EOp.fpu FpuOp.max 1 0 4 5 6) (wEng (EOp.fpu FpuOp.max 1 0 4 5 6) newArch) = true) ∧
    (engReady 0 (EOp.fpu FpuOp.sqrt 1 0 4 5 6) (wEng (EOp.fpu FpuOp.sqrt 1 0 4 5 6) newArch) = true) ∧
    (engReady 0 (EOp.fpu FpuOp.eq 1 0 4 5 6) (wEng (EOp.fpu FpuOp.eq 1 0 4 5 6) newArch) = true) ∧
    (engReady 0 (EOp.fpu FpuOp.lt 1 0 4 5 6) (wEng (EOp.fpu FpuOp.lt 1 0 4 5 6) newArch) = true) ∧
    (engReady 0 (EOp.fpu FpuOp.le 1 0 4 5 6) (wEng (EOp.fpu FpuOp.le 1 0 4 5 6) newArch) = true) ∧
    (engReady 0 (EOp.fpu FpuOp.cvtI 1 0 4 5 6) (wEng (EOp.fpu FpuOp.cvtI 1 0 4 5 6) newArch) = true) ∧
    (engReady 0 (EOp.fpu FpuOp.cvtF 1 0 4 5 6) (wEng (EOp.fpu FpuOp.cvtF 1 0 4 5 6) newArch) = true) ∧
    (engReady 0 (EOp.fpu FpuOp.cvtX 1 2 4 5 6) (wEng (EOp.fpu FpuOp.cvtX 1 2 4 5 6) newArch) = true) := by
  refine ⟨?_, ?_, ?_, ?_, ?_, ?_, ?_, ?_, ?_, ?_, ?_, ?_, ?_⟩ <;> decide +kernel

theorem wit_LoadResults :
    (engReady 0 (EOp.load LoadK.b 1 2 1) (wEng (EOp.load LoadK.b 1 2 1) (wArch [(2, 262142#64)])) = true ∧
       BitVec.toNat (((wEng (EOp.load LoadK.b 1 2 1) (wArch [(2, 262142#64)])).eng 0).arch.gr 2 + sext16 1) % 1 = 0 ∧
         BitVec.toNat (((wEng (EOp.load LoadK.b 1 2 1) (wArch [(2, 262142#64)])).eng 0).arch.gr 2 + sext16 1) < 262144) ∧
    (engReady 0 (EOp.load LoadK.bu 1 2 1) (wEng (EOp.load LoadK.bu 1 2 1) (wArch [(2, 262142#64)])) = true ∧
       BitVec.toNat (((wEng (EOp.load LoadK.bu 1 2 1) (wArch [(2, 262142#64)])).eng 0).arch.gr 2 + sext16 1) % 1 = 0 ∧
         BitVec.toNat (((wEng (EOp.load LoadK.bu 1 2 1) (wArch [(2, 262142#64)])).eng 0).arch.gr 2 + sext16 1) < 262144) ∧
    (engReady 0 (EOp.load LoadK.h 1 2 2) (wEng (EOp.load LoadK.h 1 2 2) (wArch [(2, 262140#64)])) = true ∧
       BitVec.toNat (((wEng (EOp.load LoadK.h 1 2 2) (wArch [(2, 262140#64)])).eng 0).arch.gr 2 + sext16 2) % 2 = 0 ∧
         BitVec.toNat (((wEng (EOp.load LoadK.h 1 2 2) (wArch [(2, 262140#64)])).eng 0).arch.gr 2 + sext16 2) < 262144) ∧
    (engReady 0 (EOp.load LoadK.hu 1 2 2) (wEng (EOp.load LoadK.hu 1 2 2) (wArch [(2, 262140#64)])) = true ∧
       BitVec.toNat (((wEng (EOp.load LoadK.hu 1 2 2) (wArch [(2, 262140#64)])).eng 0).arch.gr 2 + sext16 2) % 2 = 0 ∧
         BitVec.toNat (((wEng (EOp.load LoadK.hu 1 2 2) (wArch [(2, 262140#64)])).eng 0).arch.gr 2 + sext16 2) < 262144) ∧
    (engReady 0 (EOp.load LoadK.w 1 2 4) (wEng (EOp.load LoadK.w 1 2 4) (wArch [(2, 262136#64)])) = true ∧
       BitVec.toNat (((wEng (EOp.load LoadK.w 1 2 4) (wArch [(2, 262136#64)])).eng 0).arch.gr 2 + sext16 4) % 4 = 0 ∧
         BitVec.toNat (((wEng (EOp.load LoadK.w 1 2 4) (wArch [(2, 262136#64)])).eng 0).arch.gr 2 + sext16 4) < 262144) ∧
    (engReady 0 (EOp.load LoadK.wu 1 2 4) (wEng (EOp.load LoadK.wu 1 2 4) (wArch [(2, 262136#64)])) = true ∧
       BitVec.toNat (((wEng (EOp.load LoadK.wu 1 2 4) (wArch [(2, 262136#64)])).eng 0).arch.gr 2 + sext16 4) % 4 = 0 ∧
         BitVec.toNat (((wEng (EOp.load LoadK.wu 1 2 4) (wArch [(2, 262136#64)])).eng 0).arch.gr 2 + sext16 4) < 262144) ∧
    (engReady 0 (EOp.load LoadK.d 1 2 8) (wEng (EOp.load LoadK.d 1 2 8) (wArch [(2, 262128#64)])) = true ∧
       BitVec.toNat (((wEng (EOp.load LoadK.d 1 2 8) (wArch [(2, 262128#64)])).eng 0).arch.gr 2 + sext16 8) % 8 = 0 ∧
         BitVec.toNat (((wEng (EOp.load LoadK.d 1 2 8) (wArch [(2, 262128#64)])).eng 0).arch.gr 2 + sext16 8) < 262144) ∧
    (engReady 0 (EOp.vld 1 2 1) (wEng (EOp.vld 1 2 1) (wArch [(2, 262016#64)])) = true ∧
       BitVec.toNat (((wEng (EOp.vld 1 2 1) (wArch [(2, 262016#64)])).eng 0).arch.gr 2 + sext16 1 * 64#64) % 64 = 0 ∧
         BitVec.toNat (((wEng (EOp.vld 1 2 1) (wArch [(2, 262016#64)])).eng 0).arch.gr 2 + sext16 1 * 64#64) < 262144) := by
  refine ⟨?_, ?_, ?_, ?_, ?_, ?_, ?_, ?_⟩ <;> decide +kernel

theorem wit_StoreResults :
    (engReady 0 (EOp.store 0 1 2 1) (wEng (EOp.store 0 1 2 1) (wArch [(2, 262142#64)])) = true ∧
       BitVec.toNat (((wEng (EOp.store 0 1 2 1) (wArch [(2, 262142#64)])).eng 0).arch.gr 2 + sext16 1) % 1 = 0 ∧
         BitVec.toNat (((wEng (EOp.store 0 1 2 1) (wArch [(2, 262142#64)])).eng 0).arch.gr 2 + sext16 1) < 262144) ∧
    (engReady 0 (EOp.store 1 1 2 2) (wEng (EOp.store 1 1 2 2) (wArch [(2, 262140#64)])) = true ∧
       BitVec.toNat (((wEng (EOp.store 1 1 2 2) (wArch [(2, 262140#64)])).eng 0).arch.gr 2 + sext16 2) % 2 = 0 ∧
         BitVec.toNat (((wEng (EOp.store 1 1 2 2) (wArch [(2, 262140#64)])).eng 0).arch.gr 2 + sext16 2) < 262144) ∧
    (engReady 0 (EOp.store 2 1 2 4) (wEng (EOp.store 2 1 2 4) (wArch [(2, 262136#64)])) = true ∧
       BitVec.toNat (((wEng (EOp.store 2 1 2 4) (wArch [(2, 262136#64)])).eng 0).arch.gr 2 + sext16 4) % 4 = 0 ∧
         BitVec.toNat (((wEng (EOp.store 2 1 2 4) (wArch [(2, 262136#64)])).eng 0).arch.gr 2 + sext16 4) < 262144) ∧
    (engReady 0 (EOp.store 3 1 2 8) (wEng (EOp.store 3 1 2 8) (wArch [(2, 262128#64)])) = true ∧
       BitVec.toNat (((wEng (EOp.store 3 1 2 8) (wArch [(2, 262128#64)])).eng 0).arch.gr 2 + sext16 8) % 8 = 0 ∧
         BitVec.toNat (((wEng (EOp.store 3 1 2 8) (wArch [(2, 262128#64)])).eng 0).arch.gr 2 + sext16 8) < 262144) ∧
    (engReady 0 (EOp.vst 1 2 1) (wEng (EOp.vst 1 2 1) (wArch [(2, 262016#64)])) = true ∧
       BitVec.toNat (((wEng (EOp.vst 1 2 1) (wArch [(2, 262016#64)])).eng 0).arch.gr 2 + sext16 1 * 64#64) % 64 = 0 ∧
         BitVec.toNat (((wEng (EOp.vst 1 2 1) (wArch [(2, 262016#64)])).eng 0).arch.gr 2 + sext16 1 * 64#64) < 262144) ∧
    (engReady 0 (EOp.vstm 1 2 6 1) (wEng (EOp.vstm 1 2 6 1) (wArch [(2, 262080#64)])) = true ∧
       BitVec.toNat (((wEng (EOp.vstm 1 2 6 1) (wArch [(2, 262080#64)])).eng 0).arch.gr 2) % 64 = 0 ∧
         BitVec.toNat (((wEng (EOp.vstm 1 2 6 1) (wArch [(2, 262080#64)])).eng 0).arch.gr 2) < 262144) := by
  refine ⟨?_, ?_, ?_, ?_, ?_, ?_⟩ <;> decide +kernel

theorem wit_BranchResults :
    (engReady 0 (EOp.br BrOp.eq 1 2 5 1) (wEng (EOp.br BrOp.eq 1 2 5 1) newArch) = true ∧
       branchStop ((wEng (EOp.br BrOp.eq 1 2 5 1) newArch).eng 0).arch = none) ∧
    (engReady 0 (EOp.br BrOp.ne 1 2 5 1) (wEng (EOp.br BrOp.ne 1 2 5 1) newArch) = true ∧
       branchStop ((wEng (EOp.br BrOp.ne 1 2 5 1) newArch).eng 0).arch = none) ∧
    (engReady 0 (EOp.br BrOp.lt 1 2 5 1) (wEng (EOp.br BrOp.lt 1 2 5 1) newArch) = true ∧
       branchStop ((wEng (EOp.br BrOp.lt 1 2 5 1) newArch).eng 0).arch = none) ∧
    (engReady 0 (EOp.br BrOp.ge 1 2 5 1) (wEng (EOp.br BrOp.ge 1 2 5 1) newArch) = true ∧
       branchStop ((wEng (EOp.br BrOp.ge 1 2 5 1) newArch).eng 0).arch = none) ∧
    (engReady 0 (EOp.br BrOp.ltu 1 2 5 1) (wEng (EOp.br BrOp.ltu 1 2 5 1) newArch) = true ∧
       branchStop ((wEng (EOp.br BrOp.ltu 1 2 5 1) newArch).eng 0).arch = none) ∧
    (engReady 0 (EOp.br BrOp.geu 1 2 5 1) (wEng (EOp.br BrOp.geu 1 2 5 1) newArch) = true ∧
       branchStop ((wEng (EOp.br BrOp.geu 1 2 5 1) newArch).eng 0).arch = none) ∧
    (engReady 0 (EOp.jump 3) (wEng (EOp.jump 3) newArch) = true ∧ branchStop ((wEng (EOp.jump 3) newArch).eng 0).arch = none) ∧
    (engReady 0 (EOp.jal 3) (wEng (EOp.jal 3) newArch) = true ∧ branchStop ((wEng (EOp.jal 3) newArch).eng 0).arch = none) ∧
    (engReady 0 (EOp.jr 1 2 0) (wEng (EOp.jr 1 2 0) newArch) = true ∧
       branchStop ((wEng (EOp.jr 1 2 0) newArch).eng 0).arch = none ∧
         (1 = 0 ∨ 1 ≠ 2) ∧ BitVec.toNat (((wEng (EOp.jr 1 2 0) newArch).eng 0).arch.gr 2) % 2 ^ 18 % 4 = 0) ∧
    (engReady 0 (EOp.loop 2 3) (wEng (EOp.loop 2 3) (wArch [(2, 268435455#64)])) = true ∧
       loopFits (wEng (EOp.loop 2 3) (wArch [(2, 268435455#64)])) 0 3 = true ∧
         BitVec.toNat (((wEng (EOp.loop 2 3) (wArch [(2, 268435455#64)])).eng 0).arch.gr 2) < 2 ^ 28) ∧
    (engReady 0 (EOp.loopi 1023 3) (wEng (EOp.loopi 1023 3) newArch) = true ∧
       loopFits (wEng (EOp.loopi 1023 3) newArch) 0 3 = true) := by
  refine ⟨?_, ?_, ?_, ?_, ?_, ?_, ?_, ?_, ?_, ?_, ?_⟩ <;> decide +kernel

theorem wit_QueueInstructions :
    (engReady 0 (EOp.qpush 1 2 0 1) (wQueue (EOp.qpush 1 2 0 1)) = true ∧
       ((wQueue (EOp.qpush 1 2 0 1)).eng 0).job = some wJob ∧
         queueSlot wJob 1 true = some wProd ∧
           Option.map (fun c => c.queue) (pcfg? (wQueue (EOp.qpush 1 2 0 1)) wProd.base) = some 0 ∧
             BitVec.toNat (((wQueue (EOp.qpush 1 2 0 1)).eng 0).arch.gr 2) % 8 = 0 ∧
               BitVec.toNat (((wQueue (EOp.qpush 1 2 0 1)).eng 0).arch.gr 2) +
                     8 * ((commitLen (((wQueue (EOp.qpush 1 2 0 1)).eng 0).arch.gr 1) + 7) / 8) ≤
                   262144 ∧
                 0 < commitLen (((wQueue (EOp.qpush 1 2 0 1)).eng 0).arch.gr 1) ∧
                   commitLen (((wQueue (EOp.qpush 1 2 0 1)).eng 0).arch.gr 1) ≤ 16384) ∧
    (engReady 0 (EOp.qpop 1 2 0 2) (wQueue (EOp.qpop 1 2 0 2)) = true ∧
       ((wQueue (EOp.qpop 1 2 0 2)).eng 0).job = some wJob ∧
         queueSlot wJob 2 false = some wCons ∧
           BitVec.toNat (((wQueue (EOp.qpop 1 2 0 2)).eng 0).arch.gr 2) % 8 = 0 ∧
             BitVec.toNat (((wQueue (EOp.qpop 1 2 0 2)).eng 0).arch.gr 2) + 16400 ≤ 262144) ∧
    (engReady 0 (EOp.qrel RelOp.release 0 0 2) (wQueue (EOp.qrel RelOp.release 0 0 2)) = true ∧
       ((wQueue (EOp.qrel RelOp.release 0 0 2)).eng 0).job = some wJob ∧ queueSlot wJob 2 false = some wCons) ∧
    (engReady 0 (EOp.qrel RelOp.mark 0 0 2) (wQueue (EOp.qrel RelOp.mark 0 0 2)) = true ∧
       ((wQueue (EOp.qrel RelOp.mark 0 0 2)).eng 0).job = some wJob ∧ queueSlot wJob 2 false = some wCons) ∧
    (engReady 0 (EOp.qrel RelOp.rewind 0 0 2) (wQueue (EOp.qrel RelOp.rewind 0 0 2)) = true ∧
       ((wQueue (EOp.qrel RelOp.rewind 0 0 2)).eng 0).job = some wJob ∧ queueSlot wJob 2 false = some wCons) := by
  refine ⟨?_, ?_, ?_, ?_, ?_⟩ <;> decide +kernel

theorem wit_SystemInstructions :
    (engReady 0 (EOp.waitH 0 5) (wEng (EOp.waitH 0 5) newArch) = true) ∧
    (engReady 0 (EOp.trap 0 5) (wEng (EOp.trap 0 5) (wArch [(31, 262144#64)])) = true ∧
       ((wEng (EOp.trap 0 5) (wArch [(31, 262144#64)])).eng 0).arch.hnd = false ∧
         BitVec.toNat ((stepPc ((wEng (EOp.trap 0 5) (wArch [(31, 262144#64)])).eng 0).arch).gr 31) % 64 = 0 ∧
           64 ≤ BitVec.toNat ((stepPc ((wEng (EOp.trap 0 5) (wArch [(31, 262144#64)])).eng 0).arch).gr 31) ∧
             BitVec.toNat ((stepPc ((wEng (EOp.trap 0 5) (wArch [(31, 262144#64)])).eng 0).arch).gr 31) ≤ 262144) ∧
    (engReady 0 (EOp.rfe 0) wSystemInstructions2 = true ∧
       (wSystemInstructions2.eng 0).arch.hnd = true ∧
         (wSystemInstructions2.eng 0).arch.slot = none ∧
           BitVec.toNat ((wSystemInstructions2.eng 0).arch.gr 31) % 64 = 0 ∧
             64 ≤ BitVec.toNat ((wSystemInstructions2.eng 0).arch.gr 31) ∧
               BitVec.toNat ((wSystemInstructions2.eng 0).arch.gr 31) ≤ 262080) ∧
    (engReady 0 (EOp.setm 0 2 0) (wEng (EOp.setm 0 2 0) (wArch [(2, 7#64)])) = true ∧
       BitVec.toNat (((wEng (EOp.setm 0 2 0) (wArch [(2, 7#64)])).eng 0).arch.gr 2) < 8) ∧
    (7 < 8 ∧ engReady 0 (EOp.mfs 1 0 7) (wEng (EOp.mfs 1 0 7) newArch) = true) ∧
    (engReady 0 (EOp.mts 0 2 0) (wEng (EOp.mts 0 2 0) newArch) = true) ∧
    (engReady 0 (EOp.mts 0 2 1) (wEng (EOp.mts 0 2 1) newArch) = true) ∧
    (engReady 0 (EOp.mts 0 2 2) (wEng (EOp.mts 0 2 2) newArch) = true) ∧
    (engReady 0 (EOp.mts 0 2 5) (wEng (EOp.mts 0 2 5) newArch) = true) ∧
    (engReady 0 (EOp.mts 0 2 6) (wEng (EOp.mts 0 2 6) newArch) = true) ∧
    (engReady 0 (EOp.mts 0 2 7) (wEng (EOp.mts 0 2 7) newArch) = true) ∧
    (engReady 0 (EOp.ord OrdOp.l 0) (wEng (EOp.ord OrdOp.l 0) newArch) = true) ∧
    (engReady 0 (EOp.ord OrdOp.s 0) (wEng (EOp.ord OrdOp.s 0) newArch) = true) ∧
    (engReady 0 (EOp.ord OrdOp.a 0) (wEng (EOp.ord OrdOp.a 0) newArch) = true) := by
  refine ⟨?_, ?_, ?_, ?_, ?_, ?_, ?_, ?_, ?_, ?_, ?_, ?_, ?_, ?_⟩ <;> decide +kernel

theorem wit_DoneEndsJob :
    (engReady 0 (EOp.done 0) (wEng (EOp.done 0) newArch) = true ∧
       ((wEng (EOp.done 0) newArch).eng 0).job = some wJob ∧
         wJob.compOk = true ∧ tget ((wEng (EOp.done 0) newArch).eng 0).acc accRunning = none) := by
  decide +kernel

theorem wit_ValuResults :
    (engReady 0 (EOp.valu VOp.add 2 3 1 2 1) (wEng (EOp.valu VOp.add 2 3 1 2 1) newArch) = true) ∧
    (engReady 0 (EOp.valu VOp.sub 2 3 1 2 1) (wEng (EOp.valu VOp.sub 2 3 1 2 1) newArch) = true) ∧
    (engReady 0 (EOp.valu VOp.mul 2 3 1 2 1) (wEng (EOp.valu VOp.mul 2 3 1 2 1) newArch) = true) ∧
    (engReady 0 (EOp.valu VOp.min 2 3 1 2 1) (wEng (EOp.valu VOp.min 2 3 1 2 1) newArch) = true) ∧
    (engReady 0 (EOp.valu VOp.max 2 3 1 2 1) (wEng (EOp.valu VOp.max 2 3 1 2 1) newArch) = true) ∧
    (engReady 0 (EOp.valu VOp.and 2 3 1 2 1) (wEng (EOp.valu VOp.and 2 3 1 2 1) newArch) = true) ∧
    (engReady 0 (EOp.valu VOp.or 2 3 1 2 1) (wEng (EOp.valu VOp.or 2 3 1 2 1) newArch) = true) ∧
    (engReady 0 (EOp.valu VOp.xor 2 3 1 2 1) (wEng (EOp.valu VOp.xor 2 3 1 2 1) newArch) = true) ∧
    (engReady 0 (EOp.valu VOp.sll 1 3 1 2 1) (wEng (EOp.valu VOp.sll 1 3 1 2 1) newArch) = true) ∧
    (engReady 0 (EOp.valu VOp.srl 1 3 1 2 1) (wEng (EOp.valu VOp.srl 1 3 1 2 1) newArch) = true) ∧
    (engReady 0 (EOp.valu VOp.sra 1 3 1 2 1) (wEng (EOp.valu VOp.sra 1 3 1 2 1) newArch) = true) ∧
    (engReady 0 (EOp.valu VOp.fma 2 3 1 2 1) (wEng (EOp.valu VOp.fma 2 3 1 2 1) newArch) = true) ∧
    (engReady 0 (EOp.valu VOp.abs 2 3 1 2 1) (wEng (EOp.valu VOp.abs 2 3 1 2 1) newArch) = true) ∧
    (engReady 0 (EOp.valu VOp.neg 2 3 1 2 1) (wEng (EOp.valu VOp.neg 2 3 1 2 1) newArch) = true) ∧
    (engReady 0 (EOp.valu VOp.div 5 3 1 2 1) (wEng (EOp.valu VOp.div 5 3 1 2 1) newArch) = true) ∧
    (engReady 0 (EOp.valu VOp.sel 2 3 1 2 1) (wEng (EOp.valu VOp.sel 2 3 1 2 1) newArch) = true) := by
  refine ⟨?_, ?_, ?_, ?_, ?_, ?_, ?_, ?_, ?_, ?_, ?_, ?_, ?_, ?_, ?_, ?_⟩ <;> decide +kernel

theorem wit_VredVcmpResults :
    (engReady 0 (EOp.vred ROp.add 2 3 1 0 1) (wEng (EOp.vred ROp.add 2 3 1 0 1) newArch) = true) ∧
    (engReady 0 (EOp.vred ROp.min 2 3 1 0 1) (wEng (EOp.vred ROp.min 2 3 1 0 1) newArch) = true) ∧
    (engReady 0 (EOp.vred ROp.max 2 3 1 0 1) (wEng (EOp.vred ROp.max 2 3 1 0 1) newArch) = true) ∧
    (engReady 0 (EOp.vred ROp.and 2 3 1 0 1) (wEng (EOp.vred ROp.and 2 3 1 0 1) newArch) = true) ∧
    (engReady 0 (EOp.vred ROp.or 2 3 1 0 1) (wEng (EOp.vred ROp.or 2 3 1 0 1) newArch) = true) ∧
    (engReady 0 (EOp.vred ROp.xor 2 3 1 0 1) (wEng (EOp.vred ROp.xor 2 3 1 0 1) newArch) = true) ∧
    (engReady 0 (EOp.vcmp COp.eq 2 3 1 2 1) (wEng (EOp.vcmp COp.eq 2 3 1 2 1) newArch) = true) ∧
    (engReady 0 (EOp.vcmp COp.ne 2 3 1 2 1) (wEng (EOp.vcmp COp.ne 2 3 1 2 1) newArch) = true) ∧
    (engReady 0 (EOp.vcmp COp.lt 2 3 1 2 1) (wEng (EOp.vcmp COp.lt 2 3 1 2 1) newArch) = true) ∧
    (engReady 0 (EOp.vcmp COp.le 2 3 1 2 1) (wEng (EOp.vcmp COp.le 2 3 1 2 1) newArch) = true) ∧
    (engReady 0 (EOp.vcmp COp.ltu 2 3 1 2 1) (wEng (EOp.vcmp COp.ltu 2 3 1 2 1) newArch) = true) ∧
    (engReady 0 (EOp.vcmp COp.leu 2 3 1 2 1) (wEng (EOp.vcmp COp.leu 2 3 1 2 1) newArch) = true) ∧
    (engReady 0 (EOp.vbcast 2 3 1 0 1) (wEng (EOp.vbcast 2 3 1 0 1) newArch) = true) ∧
    (engReady 0 (EOp.vins 2 3 1 2 1) (wEng (EOp.vins 2 3 1 2 1) newArch) = true) ∧
    (engReady 0 (EOp.vext 2 3 1 2 1) (wEng (EOp.vext 2 3 1 2 1) newArch) = true) ∧
    (engReady 0 (EOp.mfp 2 3 1 0 1) (wEng (EOp.mfp 2 3 1 0 1) newArch) = true) ∧
    (engReady 0 (EOp.mtp 2 3 1 0 1) (wEng (EOp.mtp 2 3 1 0 1) newArch) = true) := by
  refine ⟨?_, ?_, ?_, ?_, ?_, ?_, ?_, ?_, ?_, ?_, ?_, ?_, ?_, ?_, ?_, ?_, ?_⟩ <;> decide +kernel

theorem wit_RegisterWrites :
    (accessServed (plainAcc wStw (Reg.scratch 0) 8 (some 5#64)) (wIn Mode.solo)) ∧
    (1 < 2 ∧ accessServed (plainAcc wStw (Reg.fillResp 1) 8 (some 5#64)) (wIn Mode.solo)) ∧
    (1 < 2 ∧ accessServed (plainAcc wStw (Reg.evictResp 1) 8 (some 5#64)) (wIn Mode.solo)) ∧
    (accessServed (plainAcc wStw Reg.dcTmoResp 8 (some 5#64)) (wIn Mode.solo)) ∧
    (0 < 512 ∧ accessServed (plainAcc wStw (Reg.eqResp 0) 8 (some 5#64)) (wPort 1)) ∧
    (0 < 2 ∧ accessServed (plainAcc wStw (Reg.dispatchResp 0) 8 (some 5#64)) (wIn Mode.solo)) ∧
    (accessServed (plainAcc wStw Reg.takeoverResp 8 (some 5#64)) (wIn Mode.solo)) ∧
    (accessServed (plainAcc wStw Reg.escResp 8 (some 5#64)) (wIn Mode.solo)) ∧
    (0 < 512 ∧ accessServed (plainAcc wStw (Reg.portCtl 0) 8 (some (keepSet (Reg.portCtl 0) (1#64) (wPort 1)))) (wPort 1)) ∧
    (0 < 512 ∧ accessServed (plainAcc wStw (Reg.portCtl 0) 8 (some ((wPort 1).rd (Reg.portCtl 0) &&& ~~~3#64))) (wPort 1)) ∧
    (0 < 512 ∧ accessServed (plainAcc wStw (Reg.portCtl 0) 8 (some (keepSet (Reg.portCtl 0) (2#64) (wPort 1)))) (wPort 1)) ∧
    (0 < 256 ∧ accessServed (plainAcc wStw (Reg.bxeCtl 0) 8 (some (keepSet (Reg.bxeCtl 0) (4#64) (wPort 3)))) (wPort 3)) ∧
    (0 < 256 ∧ accessServed (plainAcc wStw (Reg.bxeCtl 0) 8 (some (keepSet (Reg.bxeCtl 0) (8#64) (wPort 3)))) (wPort 3)) ∧
    (0 < 64 ∧ accessServed (plainAcc wStw (Reg.hostCoh 0) 8 (some (keepSet (Reg.hostCoh 0) (1#64) (wPort 3)))) (wPort 3)) ∧
    (127 < 128 ∧
       accessServed (plainAcc wStw (Reg.chStatus 127) 8 (some (keepSet (Reg.chStatus 127) (1#64 <<< 48) (wPort 3)))) (wPort 3)) ∧
    (accessServed (plainAcc wStw Reg.qReset 8 (some (4#64 ||| 1#64 <<< 63))) (wPort 3)) ∧
    (4 < 128 ∧ accessServed (plainAcc wStw (Reg.engCtl 4) 8 (some (keepSet (Reg.engCtl 4) (4#64) (wPort 3)))) (wPort 3)) ∧
    (4 < 128 ∧ accessServed (plainAcc wStw (Reg.shCtl 4) 8 (some (keepSet (Reg.shCtl 4) (1#64) (wPort 3)))) (wPort 3)) ∧
    (accessServed (plainAcc wStw Reg.pwrCtl 8 (some (keepSet Reg.pwrCtl (1#64) (wPort 3)))) (wPort 3)) ∧
    (accessServed (plainAcc wStw Reg.shadowCtl 8 (some (keepSet Reg.shadowCtl (1#64) (wPort 3)))) (wPort 3)) ∧
    (accessServed (plainAcc wStw Reg.shadowData 8 (some 9#64)) (wPort 3)) ∧
    (accessServed (plainAcc wStw Reg.shadowCtl 8 (some (keepSet Reg.shadowCtl (2#64) (wPort 3)))) (wPort 3)) ∧
    (accessServed (plainAcc wStw Reg.shadowCtl 8 (some (keepSet Reg.shadowCtl (4#64) (wPort 3)))) (wPort 3)) ∧
    (accessServed (plainAcc wStw Reg.splitReq 8 (some (9#64 ||| 1#64 <<< 63))) (wPort 3)) ∧
    (accessServed (plainAcc wStw Reg.swapCtl 8 (some (keepSet Reg.swapCtl (1#64) (wPort 3)))) (wPort 3)) ∧
    (accessServed (plainAcc wStw Reg.pairCtl 8 (some (keepSet Reg.pairCtl (2#64) (wPort 3)))) (wPort 3)) ∧
    (accessServed (plainAcc wStw Reg.pairCtl 8 (some (keepSet Reg.pairCtl (4#64) (wPort 3)))) (wPort 3)) ∧
    (accessServed (plainAcc wStw Reg.pairCtl 8 (some (keepSet Reg.pairCtl (8#64) (wPort 3)))) (wPort 3)) ∧
    (1 ≤ 5 ∧ 5 ≤ 5 ∧ accessServed (plainAcc wStw (Reg.ringCons 5) 8 (some 7#64)) (wPort 3)) ∧
    (accessServed (plainAcc wStw Reg.vlogCons 8 (some 7#64)) (wPort 3)) ∧
    (accessServed (plainAcc wStw Reg.isoCtl 8 (some (mkFld 63 63 1 ||| mkFld 55 48 1 ||| mkFld 17 0 7))) (wPort 3)) ∧
    (accessServed (plainAcc wStw Reg.isoCtl 8 (some (mkFld 63 62 3 ||| mkFld 55 48 1 ||| mkFld 17 0 7))) (wPort 3)) ∧
    (1 < 128 ∧ accessServed (plainAcc wStw (Reg.slotCtl 1) 8 (some (keepSet (Reg.slotCtl 1) (1#64 <<< 16) (wPort 3)))) (wPort 3)) ∧
    (1 < 128 ∧ accessServed (plainAcc wStw (Reg.slotCtl 1) 8 (some (keepSet (Reg.slotCtl 1) (1#64 <<< 17) (wPort 3)))) (wPort 3)) ∧
    (1 < 128 ∧ accessServed (plainAcc wStw (Reg.slotCmd 1) 8 (some (5#64 ||| 1#64 <<< 63))) (wPort 3)) ∧
    (accessServed
       (plainAcc wStw Reg.countCtl 8 (some ((wPort 3).rd Reg.countCtl &&& ~~~5#64 ||| if true = true then 1#64 else 0#64)))
       (wPort 3)) ∧
    (accessServed
       (plainAcc wStw Reg.countCtl 8 (some ((wPort 3).rd Reg.countCtl &&& ~~~5#64 ||| if false = true then 1#64 else 0#64)))
       (wPort 3)) ∧
    (accessServed (plainAcc wStw Reg.countCtl 8 (some (keepSet Reg.countCtl (4#64) (wPort 3)))) (wPort 3)) := by
  refine ⟨?_, ?_, ?_, ?_, ?_, ?_, ?_, ?_, ?_, ?_, ?_, ?_, ?_, ?_, ?_, ?_, ?_, ?_, ?_, ?_, ?_, ?_, ?_, ?_, ?_, ?_, ?_, ?_, ?_, ?_, ?_, ?_, ?_, ?_, ?_, ?_, ?_, ?_⟩ <;> decide +kernel

theorem wit_RegisterReads :
    (accessServed (plainAcc wStw Reg.scStatus 4 none) (wIn Mode.solo)) ∧
    (1 < 2 ∧ accessServed (plainAcc wStw (Reg.fillReq 1) 8 none) (wIn Mode.solo)) ∧
    (1 < 2 ∧ accessServed (plainAcc wStw (Reg.evictReq 1) 8 none) (wIn Mode.solo)) ∧
    (accessServed (plainAcc wStw Reg.dcTmoReq 8 none) (wIn Mode.solo)) ∧
    (accessServed (plainAcc wStw Reg.noticeReq 8 none) (wIn Mode.solo)) ∧
    (1 < 2 ∧ accessServed (plainAcc wStw (Reg.dispatchReq 1) 8 none) (wIn Mode.solo)) ∧
    (accessServed (plainAcc wStw Reg.takeoverReq 8 none) (wIn Mode.solo)) ∧
    (accessServed (plainAcc wStw Reg.escReq 8 none) (wIn Mode.solo)) ∧
    (accessServed (plainAcc wStw Reg.hpReq 8 none) (wIn Mode.solo)) := by
  refine ⟨?_, ?_, ?_, ?_, ?_, ?_, ?_, ?_, ?_⟩ <;> decide +kernel

theorem wit_MailboxReads :
    (1 < 2 ∧ accessServed (plainAcc wStw (Reg.fillReq 1) 8 none) wPosts ∧ tgetD wPosts.xl.fillPosts 1 [] = [5#64, 6#64]) ∧
    (1 < 2 ∧ accessServed (plainAcc wStw (Reg.evictReq 1) 8 none) wPosts ∧ tgetD wPosts.home.evictPosts 1 [] = [5#64, 6#64]) ∧
    (1 < 2 ∧ accessServed (plainAcc wStw (Reg.dispatchReq 1) 8 none) wPosts ∧ tgetD wPosts.mill.posts 1 [] = [5#64, 6#64]) ∧
    (accessServed (plainAcc wStw Reg.escReq 8 none) wPosts ∧ wPosts.ras.escPosts = [5#64, 6#64]) ∧
    (accessServed (plainAcc wStw Reg.noticeReq 8 none) wPosts ∧ wPosts.qu.notices = [5#64, 6#64]) ∧
    (accessServed (plainAcc wStw Reg.hpReq 8 none) wPosts ∧ wPosts.chain.hpPosts = [5#64, 6#64]) ∧
    (accessServed (plainAcc wStw Reg.takeoverReq 8 none) wPosts ∧ wPosts.pair.present = true ∧ wPosts.pair.tkPost = some 5#64) ∧
    (accessServed (plainAcc wStw Reg.dcTmoReq 8 none) wPosts ∧
       wPosts.xl.dcPosts = [5#64, 6#64] ∧ ∀ (x : DcRel), x ∈ wPosts.xl.dcRel → x.waits = false) ∧
    (accessServed (plainAcc wStw Reg.escReq 8 none) (wIn Mode.solo) ∧ (wIn Mode.solo).ras.escPosts = []) := by
  refine ⟨?_, ?_, ?_, ?_, ?_, ?_, ?_, ?_, ?_⟩ <;> decide +kernel

theorem wit_FieldWrites :
    (Reg.clkEvents < 2097152 ∧
       Reg.clkEvents % 8 = 0 ∧ regAt Reg.clkEvents = some (regOf Reg.clkEvents) ∧ writeServed wStw Reg.clkEvents (5#64) wFields) ∧
    (Reg.fmRoute < 2097152 ∧
       Reg.fmRoute % 8 = 0 ∧
         regAt Reg.fmRoute = some (regOf Reg.fmRoute) ∧ writeServed wStw Reg.fmRoute (18446744073709551615#64) (wIn Mode.solo)) := by
  refine ⟨?_, ?_⟩ <;> decide +kernel

theorem wit_FieldReads :
    (Reg.evtMsgStatus < 2097152 ∧
       Reg.evtMsgStatus % 8 = 0 ∧
         Reg.evtMsgStatus ≠ Reg.followStatus ∧
           regAt Reg.evtMsgStatus = some (regOf Reg.evtMsgStatus) ∧ accessServed (plainAcc wStw Reg.evtMsgStatus 8 none) wFields) := by
  decide +kernel

theorem wit_RefusedAccesses :
    (notBar wStw = true ∧
       pathThere (wIn Mode.solo) wStw = true ∧
         ((wIn Mode.solo).inGap && gapHolds wStw) = false ∧ csrCode (wIn Mode.solo) (plainAcc wStw 66 4 (some 5#64)) ≠ 0) ∧
    (notBar wStw = true ∧
       pathThere (wIn Mode.solo) wStw = true ∧
         ((wIn Mode.solo).inGap && gapHolds wStw) = false ∧ csrCode (wIn Mode.solo) (plainAcc wStw 66 4 none) ≠ 0) ∧
    (wStw ≠ Path.jtag ∧
       62914560 ≤ 67108856 ∧
         67108856 < 67108864 ∧
           67108856 % 8 = 0 ∧
             portManaged (wIn Mode.solo) wStw = true ∧
               pathThere (wIn Mode.solo) wStw = true ∧ ((wIn Mode.solo).inGap && gapHolds wStw) = false) := by
  refine ⟨?_, ?_, ?_⟩ <;> decide +kernel

theorem wit_AccessWidths :
    (csrCode (wIn Mode.solo) (plainAcc wStw 68 4 none) = 0) ∧
    (csrCode (wIn Mode.solo) (plainAcc wStw 68 4 (some 5#64)) = 0 ∧
       testHidden (plainAcc wStw 68 4 (some 5#64)) = false ∧
         (plainAcc wStw 68 4 (some 5#64)).data = some 5#64 ∧
           (plainAcc wStw 68 4 (some 5#64)).bytes = 4 ∧
             regPresent (wIn Mode.solo) ((plainAcc wStw 68 4 (some 5#64)).off / 8 * 8) = true ∧
               regAt ((plainAcc wStw 68 4 (some 5#64)).off / 8 * 8) = some (regOf 64)) ∧
    (csrCode (wIn Mode.halt) (plainAcc wStw 64 8 (some 5#64)) = 0 ∧
       testHidden (plainAcc wStw 64 8 (some 5#64)) = false ∧
         (plainAcc wStw 64 8 (some 5#64)).data = some 5#64 ∧ (wIn Mode.halt).mode = Mode.halt) := by
  refine ⟨?_, ?_, ?_⟩ <;> decide +kernel

theorem wit_MctpRequests :
    (isMctp Path.mctpI3c = true ∧ accessServed (plainAcc Path.mctpI3c (Reg.scratch 0) 4 none) (wIn Mode.solo)) ∧
    (isMctp Path.mctpI3c = true ∧ accessServed (plainAcc Path.mctpI3c (Reg.scratch 0) 8 none) (wIn Mode.solo)) ∧
    (isMctp Path.mctpI3c = true ∧
       accessServed (plainAcc Path.mctpI3c (Reg.scratch 0) 4 (some (BitVec.setWidth 64 5#32))) (wIn Mode.solo)) ∧
    (isMctp Path.mctpI3c = true ∧ accessServed (plainAcc Path.mctpI3c (Reg.scratch 0) 8 (some 5#64)) (wIn Mode.solo)) ∧
    (isMctp Path.mctpI3c = true ∧
       pathThere (wIn Mode.aux) Path.mctpI3c = true ∧
         (wIn Mode.aux).inGap = false ∧ csrCode (wIn Mode.aux) (plainAcc Path.mctpI3c (Reg.scratch 0) 8 (some 5#64)) ≠ 0) ∧
    (isMctp Path.mctpI3c = true ∧
       accessServed (plainAcc Path.mctpI3c (Reg.scratch 0) 8 none) (wIn Mode.solo) ∧
         accessServed (plainAcc Path.mctpI3c (Reg.scratch 0 + 8) 8 none) (csrRead (Reg.scratch 0) 8 (wIn Mode.solo)).snd) ∧
    (isMctp Path.mctpI3c = true ∧
       pathThere (wIn Mode.solo) Path.mctpI3c = true ∧ (wIn Mode.solo).inGap = false ∧ (33 = 0 ∨ 32 < 33)) := by
  refine ⟨?_, ?_, ?_, ?_, ?_, ?_, ?_⟩ <;> decide +kernel

theorem wit_Bar2AndJtag :
    (hostPortUp wBar 0 = true ∧
       wBar.inGap = false ∧
         wBar.cnt.frozen = true ∧ csrCode wBar (barRead 0 (Reg.scratch 0)) = 0 ∧ testHidden (barRead 0 (Reg.scratch 0)) = false) ∧
    ((wIn Mode.test).mode = Mode.test ∧
       Reg.scratch 0 / 8 < 2 ^ 23 ∧ csrCode (wIn Mode.test) (plainAcc Path.jtag (8 * (Reg.scratch 0 / 8)) 8 (some 5#64)) = 0) ∧
    ((wIn Mode.test).mode = Mode.test ∧
       Reg.scratch 0 / 8 < 2 ^ 23 ∧ csrCode (wIn Mode.test) (plainAcc Path.jtag (8 * (Reg.scratch 0 / 8)) 8 none) = 0) := by
  refine ⟨?_, ?_, ?_⟩ <;> decide +kernel

theorem wit_AuxiliaryPower :
    (wAuxiliaryPower0.pwr.auxGood = false) := by
  decide +kernel

theorem wit_PowerPins :
    (wAuxOn.pwr.auxGood = true ∧
       wAuxOn.mode = Mode.aux ∧
         wAuxOn.pwr.pwrEn = true ∧
           wAuxOn.pwr.sysRst = false ∧ wAuxOn.pwr.holdCause = 0 ∧ wAuxOn.pwr.offPending = OffReq.none ∧ wAuxOn.pwr.offReq = false) ∧
    ((wIn Mode.halt).pwr.auxGood = true ∧ (wIn Mode.halt).mode ≠ Mode.aux) ∧
    ((wIn Mode.solo).pwr.auxGood = true ∧ (wIn Mode.solo).mode.loadToHalt = true) ∧
    ((wIn Mode.load).pwr.auxGood = true ∧ (wIn Mode.load).mode.loadToHalt = true) ∧
    ((wIn Mode.solo).mode = Mode.aux → (wIn Mode.solo).pwr.pwrGood = false) ∧
    ((wIn Mode.aux).mode = Mode.aux → (wIn Mode.aux).pwr.pwrGood = false) ∧
    ((wIn Mode.aux).pwr.auxGood = true ∧
       (wIn Mode.aux).mode = Mode.aux ∧
         (wIn Mode.aux).pwr.pwrEn = false ∧
           (wIn Mode.aux).pwr.offReq = false ∧
             (wIn Mode.aux).pwr.holdCause = 0 ∧ (wIn Mode.aux).pwr.offPending = OffReq.none ∧ (wIn Mode.aux).pwr.pwrGood = false) := by
  refine ⟨?_, ?_, ?_, ?_, ?_, ?_, ?_⟩ <;> decide +kernel

theorem wit_OffRequests :
    (wAuxOn.pwr.pgDeadline = some 200000000) ∧
    (wAuxOn.pwr.auxGood = true ∧
       (wAuxOn.mode = Mode.aux ∨ wAuxOn.mode = Mode.load ∨ wAuxOn.mode = Mode.train) ∧
         wAuxOn.pwr.step ≠ PwrStep.none ∧ wAuxOn.pwr.offPending = OffReq.none) ∧
    ((wPow Mode.halt PwrStep.none).pwr.auxGood = true ∧
       (wPow Mode.halt PwrStep.none).mode = Mode.halt ∧ (wPow Mode.halt PwrStep.none).pwr.pwrEn = true) ∧
    ((wIn Mode.takeover).pwr.auxGood = true ∧
       ((wIn Mode.takeover).mode = Mode.takeover ∨ (wIn Mode.takeover).mode = Mode.swap) ∧
         (wIn Mode.takeover).alm.drainPending = false) ∧
    ((wPow Mode.train PwrStep.u4).quiet ∧
       accessServed (plainAcc wStw Reg.pwrCtl 8 (some (keepSet Reg.pwrCtl (1#64) (wPow Mode.train PwrStep.u4))))
           (wPow Mode.train PwrStep.u4) ∧
         (wPow Mode.train PwrStep.u4).mode = Mode.train ∧
           (wPow Mode.train PwrStep.u4).pwr.step ≠ PwrStep.none ∧ (wPow Mode.train PwrStep.u4).pwr.offPending = OffReq.none) ∧
    ((wByGo Mode.aux).pwr.offPending ≠ OffReq.none ∧ (wByGo Mode.aux).pwr.step = PwrStep.none ∧ (wByGo Mode.aux).mode = Mode.aux) ∧
    ((wByGo Mode.train).pwr.offPending ≠ OffReq.none ∧
       (wByGo Mode.train).pwr.step = PwrStep.none ∧ ((wByGo Mode.train).mode = Mode.load ∨ (wByGo Mode.train).mode = Mode.train)) := by
  refine ⟨?_, ?_, ?_, ?_, ?_, ?_, ?_⟩ <;> decide +kernel

theorem wit_DrainAndOff :
    ((wIn Mode.drain).mode = Mode.drain ∧ drainDone (wIn Mode.drain) = true) ∧
    (wDrainBusy.mode = Mode.drain ∧ drainDone wDrainBusy = false ∧ wDrainBusy.pwr.pwrEn = true ∧ wDrainBusy.pair.moveSet = none) ∧
    ((wIn Mode.off).mode = Mode.off ∧ (wIn Mode.off).pwr.auxGood = true) := by
  refine ⟨?_, ?_, ?_⟩ <;> decide +kernel

theorem wit_LoadSteps :
    ((wLoad (LoadStep.reading false false) false).mode = Mode.load ∧
       (wLoad (LoadStep.reading false false) false).alm.load = LoadStep.reading false false) ∧
    ((wLoad (LoadStep.reading true false) false).mode = Mode.load ∧
       (wLoad (LoadStep.reading true false) false).alm.load = LoadStep.reading true false) ∧
    ((wLoad (LoadStep.reading true true) false).mode = Mode.load ∧
       (wLoad (LoadStep.reading true true) false).alm.load = LoadStep.reading true true) ∧
    ((wLoad (LoadStep.checking true false) false).mode = Mode.load ∧
       (wLoad (LoadStep.checking true false) false).alm.load = LoadStep.checking true false) ∧
    ((wLoad LoadStep.idle false).mode = Mode.load) ∧
    ((wLoad (LoadStep.building false) true).mode = Mode.load ∧
       (wLoad (LoadStep.building false) true).alm.load = LoadStep.building false ∧
         (wLoad (LoadStep.building false) true).alm.hbmTrained = true ∧
           (wLoad (LoadStep.building false) true).pwr.offPending = OffReq.none ∧
             (laidOver (wLoad (LoadStep.building false) true).alm.image noTables).patch = []) ∧
    ((wIn Mode.train).mode = Mode.train ∧ portsSettled (wIn Mode.train) = true ∧ (wIn Mode.train).pwr.offPending = OffReq.none) ∧
    (wTrainPort.mode = Mode.train ∧ portsSettled wTrainPort = false ∧ wTrainPort.pwr.offPending = OffReq.none) := by
  refine ⟨?_, ?_, ?_, ?_, ?_, ?_, ?_, ?_⟩ <;> decide +kernel

theorem wit_ShadowSets :
    (writeServed wStw Reg.shadowCtl (keepSet Reg.shadowCtl (1#64) (wShadow 0)) (wShadow 0) ∧
       (wShadow 0).mode.steady = true ∧ (wShadow 0).rf Reg.shadowStatus 2 0 = 0) ∧
    (writeServed wStw Reg.shadowData (5#64) (wShadow 1) ∧
       (wShadow 1).rf Reg.shadowStatus 2 0 = 1 ∧
         BitVec.toNat ((wShadow 1).rd Reg.shadowPtr) < (wShadow 1).rf Reg.shadowStatus 31 16 * 2 ^ 20 ∧
           BitVec.toNat ((wShadow 1).rd Reg.shadowPtr) < 2 ^ 26 - 8) ∧
    (writeServed wStw Reg.shadowCtl (keepSet Reg.shadowCtl (2#64) (wShadow 1)) (wShadow 1) ∧
       (wShadow 1).mode.steady = true ∧ (wShadow 1).rf Reg.shadowStatus 2 0 = 1) ∧
    (writeServed wStw Reg.shadowCtl (keepSet Reg.shadowCtl (4#64) (wShadow 3)) (wShadow 3) ∧
       (wShadow 3).rf Reg.shadowStatus 2 0 = 3) ∧
    ((wShadow 2).mode.carries = true ∧ (wShadow 2).rf Reg.shadowStatus 2 0 = 2 ∧ (wShadow 2).rb Reg.shadowCtl 2 = false) ∧
    (writeServed wStw Reg.splitReq (setBit (260#64) 63) (wIn Mode.solo) ∧
       (wIn Mode.solo).mode.steady = true ∧
         1 ≤ fld (260#64) 3 0 ∧
           fld (260#64) 3 0 ≤ 10 ∧
             (wIn Mode.solo).assist (fld (260#64) 3 0) ≠ bitAt (260#64) 8 ∧ (wIn Mode.solo).alm.splitPending = none) ∧
    (writeServed wStw Reg.splitReq (setBit (267#64) 63) (wIn Mode.solo) ∧
       (fld (267#64) 3 0 = 0 ∨ 10 < fld (267#64) 3 0) ∧ (wIn Mode.solo).alm.splitPending = none) ∧
    (writeServed wStw Reg.swapCtl (keepSet Reg.swapCtl (1#64) (wShadow 1)) (wShadow 1) ∧
       (wShadow 1).mode.steady = true ∧ (wShadow 1).rf Reg.shadowStatus 2 0 = 1) := by
  refine ⟨?_, ?_, ?_, ?_, ?_, ?_, ?_, ?_⟩ <;> decide +kernel

theorem wit_SwapSteps :
    ((wSwap Mode.solo SwapStep.checking false false).mode.steady = true ∧
       (wSwap Mode.solo SwapStep.checking false false).alm.swap = SwapStep.checking) ∧
    ((wSwap Mode.swap SwapStep.library true true).mode.carries = true ∧
       (wSwap Mode.swap SwapStep.library true true).alm.swap = SwapStep.library ∧
         (wSwap Mode.swap SwapStep.library true true).alm.swapLib = true ∧
           (wSwap Mode.swap SwapStep.library true true).alm.swapFw = true) ∧
    ((wSwap Mode.swap SwapStep.library true false).mode.carries = true ∧
       (wSwap Mode.swap SwapStep.library true false).alm.swap = SwapStep.library ∧
         (wSwap Mode.swap SwapStep.library true false).alm.swapLib = false ∧
           (wSwap Mode.swap SwapStep.library true false).alm.swapFw = true ∧
             (wSwap Mode.swap SwapStep.library true false).ras.locks = [] ∧
               (wSwap Mode.swap SwapStep.library true false).ras.waiting = []) ∧
    ((wSwap Mode.swap (SwapStep.gap 5 false) true false).mode.carries = true ∧
       (wSwap Mode.swap (SwapStep.gap 5 false) true false).alm.swap = SwapStep.gap 5 false) ∧
    ((wSwap Mode.swap (SwapStep.gap 5 true) true false).mode = Mode.swap ∧
       (wSwap Mode.swap (SwapStep.gap 5 true) true false).alm.swap = SwapStep.gap 5 true ∧
         (wSwap Mode.swap (SwapStep.gap 5 true) true false).alm.held = [] ∧
           (wSwap Mode.swap (SwapStep.gap 5 true) true false).gapHeld = [] ∧
             (wSwap Mode.swap (SwapStep.gap 5 true) true false).alm.drainPending = false) ∧
    ((wSwap Mode.swap (SwapStep.gap 5 true) true false).mode = Mode.swap ∧
       (wSwap Mode.swap (SwapStep.gap 5 true) true false).alm.swap = SwapStep.gap 5 true ∧
         (wSwap Mode.swap (SwapStep.gap 5 true) true false).alm.held = [] ∧
           (wSwap Mode.swap (SwapStep.gap 5 true) true false).gapHeld = []) := by
  refine ⟨?_, ?_, ?_, ?_, ?_, ?_⟩ <;> decide +kernel

theorem wit_ClockSteps :
    (wPll.pwr.auxGood = true) ∧
    (wInstants.clk.instants = [wInstant] ∧
       wInstant.left.contains 1 = true ∧ List.filter (fun x => decide (x ≠ 1)) wInstant.left ≠ [] ∧ wInstant.begun = false) ∧
    (wInstants.pwr.auxGood = true ∧
       17 < 18 ∧ wInstants.clk.locked.getLsbD 17 = true ∧ wInstants.clk.running.getLsbD 17 = false ∧ wInstants.mode.carries = true) ∧
    (wPll.pwr.auxGood = true ∧ wPll.clk.auxOsc = false) ∧
    (wPll.pwr.auxGood = true ∧ 15 < 16) := by
  refine ⟨?_, ?_, ?_, ?_, ?_⟩ <;> decide +kernel

theorem wit_PllFaults :
    (1 ≤ 1 ∧ wPll.mode.carries = true) ∧
    (7 < 8 ∧ wPll.mode.carries = true ∧ wPll.clk.locked.getLsbD (6 + 7) = true ∧ ∀ (p : Nat), p ∈ wPll.portList → p / 64 ≠ 7) ∧
    (7 < 8 ∧
       (wIn Mode.solo).mode.trains = true ∧
         (wIn Mode.solo).pwr.auxGood = true ∧
           (wIn Mode.solo).clk.locked.getLsbD (6 + 7) = false ∧ (wIn Mode.solo).clk.running.getLsbD (6 + 7) = false) := by
  refine ⟨?_, ?_, ?_⟩ <;> decide +kernel

theorem wit_CounterSteps :
    (writeServed wStw Reg.countCtl (wPll.rd Reg.countCtl &&& ~~~5#64 ||| if true = true then 1#64 else 0#64) wPll ∧
       wPll.rb Reg.countCtl 0 ≠ true ∧ wPll.rb Reg.countCtl 2 = false) ∧
    (writeServed wStw Reg.countCtl (keepSet Reg.countCtl (4#64) wPll) wPll ∧ wPll.rb Reg.countCtl 2 = false) ∧
    (wBack.cnt.back = some ([(4096, 5)], 7, 8, true)) ∧
    ((wPage true).role 0 = 1 ∧
       (wPage true).linkIsUp 0 = true ∧
         (wPage true).mode.carries = true ∧
           ideOk (wPage true) 0 = true ∧
             (wPage true).cnt.frozen = true ∧
               wCounterSteps3.data = none ∧
                 wCounterSteps3.dws = 2 ∧
                   wCounterSteps3.off % 8 = 0 ∧
                     wCounterSteps3.off < 4096 ∧ BitVec.getLsbD (wPage true).tabs.counterAccess (portHost (wPage true) 0) = true) ∧
    ((wPage false).role 0 = 1 ∧
       (wPage false).linkIsUp 0 = true ∧
         (wPage false).mode.carries = true ∧
           ideOk (wPage false) 0 = true ∧
             (wPage false).cnt.frozen = true ∧
               wCounterSteps3.data = none ∧ BitVec.getLsbD (wPage false).tabs.counterAccess (portHost (wPage false) 0) = false) := by
  refine ⟨?_, ?_, ?_, ?_, ?_⟩ <;> decide +kernel

theorem wit_ThermalSamples :
    ((wIn Mode.solo).mode.carries = true ∧ 1 ≤ 14 ∧ 14 ≤ 14 ∧ tget (wIn Mode.solo).therm.sensors 14 = none) ∧
    ((wSensor 6).mode.carries = true ∧
       3 ≤ 6 ∧ 6 ≤ 6 ∧ tget (wSensor 6).therm.sensors 6 = some wHot ∧ wHot.prev = some 440 ∧ 400 ≤ 440 ∧ 400 ≤ 400) ∧
    ((wSensor 2).mode.carries = true ∧
       (2 = 1 ∨ 2 = 2) ∧ tget (wSensor 2).therm.sensors 2 = some wHot ∧ wHot.prev = some 440 ∧ 400 ≤ 440 ∧ 400 ≤ 400) ∧
    ((wSensor 14).mode.carries = true ∧
       7 ≤ 14 ∧ 14 ≤ 14 ∧ tget (wSensor 14).therm.sensors 14 = some wHot ∧ wHot.prev = some 440 ∧ 440 ≤ 440 ∧ 440 ≤ 440) := by
  refine ⟨?_, ?_, ?_, ?_⟩ <;> decide +kernel

theorem wit_TestPort :
    ((wIn Mode.aux).pwr.auxGood = true ∧ (wIn Mode.aux).mode ≠ Mode.off) ∧
    ((wIn Mode.test).pwr.auxGood = true ∧ (wIn Mode.test).mode = Mode.test) ∧
    ((wIn Mode.solo).pwr.auxGood = true ∧ (wIn Mode.solo).mode ≠ Mode.test ∧ (wIn Mode.solo).mode ≠ Mode.off) ∧
    ((wIn Mode.aux).pwr.auxGood = true ∧ (wIn Mode.aux).mode = Mode.aux) ∧
    ((wIn Mode.solo).pwr.auxGood = true ∧ (wIn Mode.solo).mode ≠ Mode.aux ∧ (wIn Mode.solo).mode ≠ Mode.off) ∧
    ((wIn Mode.test).mode = Mode.test ∧ (wIn Mode.test).jtag.bistBusy = none ∧ 63 < 64) ∧
    (wBist.jtag.bistBusy = some 5 ∧ 5 < 64) := by
  refine ⟨?_, ?_, ?_, ?_, ?_, ?_, ?_⟩ <;> decide +kernel

theorem wit_KeySlots :
    (wKeys.mode = Mode.test ∧
       wKeys.jtag.keyBusy = none ∧
         0 < 4 ∧ wKeys.alm.keys[0]? = some newKey ∧ newKey.digest = none ∧ newKey.revoked = false ∧ keyDigestOf wKeys ≠ 0#384) ∧
    (wKeys.mode = Mode.test ∧
       wKeys.jtag.keyBusy = none ∧
         1 < 4 ∧ wKeys.alm.keys[1]? = some wKeySlots1 ∧ (wKeySlots1.digest ≠ none ∨ wKeySlots1.revoked = true)) ∧
    (wKeys.mode = Mode.test ∧ wKeys.jtag.keyBusy = none ∧ 3 < 4) ∧
    (wKeyBusy.jtag.keyBusy = some (0, some 9#384) ∧ wKeyBusy.alm.keys[0]? = some newKey) := by
  refine ⟨?_, ?_, ?_, ?_⟩ <;> decide +kernel

theorem wit_LinkTraining :
    ((wDown 2 newLink true []).link? 0 = some newLink ∧
       newLink.attempting = false ∧
         newLink.waitUntil = none ∧ (wDown 2 newLink true []).linkIsUp 0 = false ∧ mayTrain (wDown 2 newLink true []) 0 = true) ∧
    ((wDown 2 wTry true []).link? 0 = some wTry ∧
       wTry.attempting = true ∧ wTry.trainOffUntil = none ∧ (wDown 2 wTry true []).linkIsUp 0 = false) ∧
    ((wDown 2 wWaits true []).link? 0 = some wWaits ∧
       wWaits.waitUntil = some 10000000 ∧ (wDown 2 wWaits true []).linkIsUp 0 = false ∧ mayTrain (wDown 2 wWaits true []) 0 = true) ∧
    ((wDown 2 wOff true []).link? 0 = some wOff ∧ wOff.trainOffUntil = some 50000000) ∧
    (0 < 512 ∧
       (wDown 2 wOff false []).link? 0 = some wOff ∧
         writeServed wStw (Reg.portCtl 0) (keepSet (Reg.portCtl 0) (1#64) (wDown 2 wOff false [])) (wDown 2 wOff false []) ∧
           (wDown 2 wOff false []).noRelease ∧ (wDown 2 wOff false []).portEnabled 0 = false) ∧
    (0 < 512 ∧
       (wDown 2 newLink true wUp).link? 0 = some newLink ∧
         writeServed wStw (Reg.portCtl 0) ((wDown 2 newLink true wUp).rd (Reg.portCtl 0) &&& ~~~3#64) (wDown 2 newLink true wUp) ∧
           (wDown 2 newLink true wUp).noRelease ∧
             (wDown 2 newLink true wUp).portEnabled 0 = true ∧ (wDown 2 newLink true wUp).linkIsUp 0 = true) ∧
    (0 < 512 ∧
       (wDown 2 wTry true []).link? 0 = some wTry ∧
         writeServed wStw (Reg.portCtl 0) ((wDown 2 wTry true []).rd (Reg.portCtl 0) &&& ~~~3#64) (wDown 2 wTry true []) ∧
           (wDown 2 wTry true []).noRelease ∧
             (wDown 2 wTry true []).portEnabled 0 = true ∧ (wDown 2 wTry true []).linkIsUp 0 = false ∧ wTry.attempting = true) ∧
    (0 < 512 ∧
       (wDown 2 newLink true wUp).link? 0 = some newLink ∧
         writeServed wStw (Reg.portCtl 0) (keepSet (Reg.portCtl 0) (2#64) (wDown 2 newLink true wUp)) (wDown 2 newLink true wUp) ∧
           (wDown 2 newLink true wUp).portEnabled 0 = true ∧
             (wDown 2 newLink true wUp).linkIsUp 0 = true ∧
               newLink.attempting = false ∧ mayTrain (wDown 2 newLink true wUp) 0 = true) ∧
    (0 < 512 ∧
       (wDown 2 wTry true []).link? 0 = some wTry ∧
         writeServed wStw (Reg.portCtl 0) (keepSet (Reg.portCtl 0) (2#64) (wDown 2 wTry true [])) (wDown 2 wTry true []) ∧
           (wDown 2 wTry true []).noRelease ∧ (wDown 2 wTry true []).portEnabled 0 = true ∧ wTry.attempting = true) := by
  refine ⟨?_, ?_, ?_, ?_, ?_, ?_, ?_, ?_, ?_⟩ <;> decide +kernel

theorem wit_Equalisation :
    (1026 % 2 ^ 11 ≠ 0) ∧
    ((wDown 2 wTry true []).link? 0 = some wTry ∧
       wTry.attempting = true ∧
         wTry.eqUntil = none ∧
           eqReady wTry 2 ∧
             (wDown 2 wTry true []).assist 9 = false ∧
               (wDown 2 wTry true []).rb (Reg.eqCtl 0) 3 = false ∧
                 have ms := List.map (fun i => [200, 300, 300].getD i 0 % 65536) (List.range 11);
                 minMargin 2 ≤ ms.getD (bestPreset (presetMask (wDown 2 wTry true []) 0 2) ms) 0) ∧
    (wAssist9.link? 0 = some wTry ∧ wTry.attempting = true ∧ wTry.eqUntil = none ∧ eqReady wTry 2 ∧ wAssist9.assist 9 = true) ∧
    (0 < 512 ∧
       (wDown 2 wEqTry true wPost).link? 0 = some wEqTry ∧
         writeServed wStw (Reg.eqResp 0) (mkFld 63 63 1 ||| mkFld 55 48 1 ||| 1#64) (wDown 2 wEqTry true wPost) ∧
           bitAt (mkFld 63 63 1 ||| mkFld 55 48 1 ||| 1#64) 63 = true ∧
             wEqTry.eqUntil.isSome = true ∧
               wEqTry.trainOffUntil = none ∧
                 (wDown 2 wEqTry true wPost).noRelease ∧
                   fld (mkFld 63 63 1 ||| mkFld 55 48 1 ||| 1#64) 55 48 = (wDown 2 wEqTry true wPost).rf (Reg.eqReq 0) 62 55 ∧
                     fld (mkFld 63 63 1 ||| mkFld 55 48 1 ||| 1#64) 3 0 < 11 ∧
                       ((wDown 2 wEqTry true wPost).rf (Reg.eqReq 0) 42 32).testBit
                             (fld (mkFld 63 63 1 ||| mkFld 55 48 1 ||| 1#64) 3 0) =
                           true ∧
                         minMargin wEqTry.eqRate ≤ wEqTry.eqMargins.getD (fld (mkFld 63 63 1 ||| mkFld 55 48 1 ||| 1#64) 3 0) 0) ∧
    (0 < 512 ∧
       (wDown 2 wTry true wPost).link? 0 = some wTry ∧
         writeServed wStw (Reg.eqResp 0) (mkFld 63 63 1 ||| mkFld 55 48 1 ||| 1#64) (wDown 2 wTry true wPost) ∧
           bitAt (mkFld 63 63 1 ||| mkFld 55 48 1 ||| 1#64) 63 = true ∧ wTry.eqUntil = none ∧ (wDown 2 wTry true wPost).noRelease) ∧
    ((wDown 2 wEqTry true wPost).link? 0 = some wEqTry ∧ wEqTry.eqUntil = some 8000000) := by
  refine ⟨?_, ?_, ?_, ?_, ?_, ?_⟩ <;> decide +kernel

theorem wit_LinkUpAndDown :
    (0 < 512 ∧
       (wDown 2 wTry true []).mode.carries = true ∧
         (wDown 2 wTry true []).quiet ∧
           (wDown 2 wTry true []).noRelease ∧
             (wDown 2 wTry true []).link? 0 = some wTry ∧
               wTry.attempting = true ∧
                 wTry.trainOffUntil = none ∧
                   (wReport 5).protoActive = true ∧
                     mayTrain (wDown 2 wTry true []) 0 = true ∧
                       (wDown 2 wTry true []).rf (Reg.portCfg 0) 20 18 ≤ (wReport 5).rate ∧
                         (wDown 2 wTry true []).linkIsUp 0 = false ∧
                           ((wDown 2 wTry true []).role 0 = 2 ∨ (wDown 2 wTry true []).role 0 = 4) ∧
                             (wDown 2 wTry true []).rb (Reg.portCtl 0) 1 = false) ∧
    ((wDown 2 wTry true []).mode.carries = true ∧
       (wDown 2 wTry true []).link? 0 = some wTry ∧
         wTry.attempting = true ∧
           wTry.trainOffUntil = none ∧
             (wReport 0).protoActive = true ∧
               mayTrain (wDown 2 wTry true []) 0 = true ∧
                 (wReport 0).rate < (wDown 2 wTry true []).rf (Reg.portCfg 0) 20 18 ∧ (wDown 2 wTry true []).linkIsUp 0 = false) ∧
    ((wDown 4 newLink true wUp).mode.carries = true ∧
       (wDown 4 newLink true wUp).quiet ∧
         (wDown 4 newLink true wUp).bridge.trks = [] ∧
           (wDown 4 newLink true wUp).link? 0 = some newLink ∧
             (wDown 4 newLink true wUp).linkIsUp 0 = true ∧
               ((wDown 4 newLink true wUp).role 0 = 2 ∨ (wDown 4 newLink true wUp).role 0 = 4) ∧
                 mayTrain (wDown 4 newLink true wUp) 0 = true) ∧
    ((wDown 2 wDrains false wUp).mode.carries = true ∧
       (wDown 2 wDrains false wUp).quiet ∧
         (wDown 2 wDrains false wUp).bridge.trks = [] ∧
           (wDown 2 wDrains false wUp).link? 0 = some wDrains ∧
             wDrains.drainUntil = some 1000000 ∧
               (wDown 2 wDrains false wUp).linkIsUp 0 = true ∧
                 (wDown 2 wDrains false wUp).role 0 = 2 ∧
                   (wDown 2 wDrains false wUp).portEnabled 0 = false ∧
                     tgetD (wDown 2 wDrains false wUp).bridge.egress 0 [] = [] ∧
                       tget (wDown 2 wDrains false wUp).bridge.legs 0 = none) := by
  refine ⟨?_, ?_, ?_, ?_⟩ <;> decide +kernel

theorem wit_LinkInService :
    ((wDown 2 newLink true wUp).link? 0 = some newLink ∧
       (wDown 2 newLink true wUp).role 0 ≠ 3 ∧ (wDown 2 newLink true wUp).linkIsUp 0 = true ∧ 4 ≤ 4) ∧
    (wIdeUp.mode.carries = true ∧
       wIdeUp.quiet ∧
         wIdeUp.bridge.trks = [] ∧
           wIdeUp.link? 0 = some newLink ∧
             wIdeUp.linkIsUp 0 = true ∧ wIdeUp.role 0 = 2 ∧ wIdeUp.rb (Reg.ideStatus 0) 0 = true ∧ wIdeUp.portEnabled 0 = false) ∧
    ((wDown 2 newLink true wUp).mode.carries = true ∧
       (wDown 2 newLink true wUp).linkIsUp 0 = true ∧
         2 < (wDown 2 newLink true wUp).rf (Reg.linkStatus 0) 12 10 ∧
           15 < 2 ^ 2 ^ (wDown 2 newLink true wUp).rf (Reg.portCfg 0) 10 8 ∧
             15 < 65536 ∧
               (wDown 2 newLink true wUp).rf (Reg.portCfg 0) 20 18 ≤ (wDown 2 newLink true wUp).rf (Reg.linkStatus 0) 15 13) ∧
    ((wDown 2 newLink true wUp).mode.carries = true ∧
       (wDown 2 newLink true wUp).linkIsUp 0 = true ∧
         (wDown 2 newLink true wUp).rf (Reg.portCfg 0) 20 18 < (wDown 2 newLink true wUp).rf (Reg.linkStatus 0) 15 13) ∧
    ((wDown 2 newLink true wUp).mode.carries = true ∧
       (wDown 2 newLink true wUp).linkIsUp 0 = true ∧
         (wDown 2 newLink true wUp).rf (Reg.portCfg 0) 20 18 ≤ 3 ∧
           3 < (wDown 2 newLink true wUp).rf (Reg.linkStatus 0) 15 13 ∧ 3 < (wDown 2 newLink true wUp).rf (Reg.linkStatus 0) 12 10) ∧
    ((wDown 2 newLink true wUp).mode.carries = true ∧
       (wDown 2 newLink true wUp).linkIsUp 0 = true ∧
         (wDown 2 newLink true wUp).rf (Reg.portCfg 0) 20 18 ≤ 6 ∧
           6 ≤ rateLimit (wDown 2 newLink true wUp) 0 ∧ 4 ≤ (wDown 2 newLink true wUp).rf (Reg.portCfg 0) 10 8) := by
  refine ⟨?_, ?_, ?_, ?_, ?_, ?_⟩ <;> decide +kernel

theorem wit_WalksAndFills :
    ((List.filter (fun w => w.die == 0) wQueued.xl.walks).length < 256 ∧
       List.find? (fun q => q.fst == 0) wQueued.xl.queue = some (0, 0, 0, Who.eng 1 2) ∧
         (wQueued.xl.walks.any fun w => w.die == 0 && w.win == 0 && w.slot == 0) = false) ∧
    (wWalksAndFills1.bridge.waiting = [] ∧
       wWalksAndFills1.xl.walks = [wWalk] ∧
         wWalk.waiters = [Who.eng 1 2] ∧
           readingJob wWalksAndFills1 (ChJob.walk wWalk.die wWalk.win wWalk.slot) = some (wJobRead (ChJob.walk 0 0 0))) ∧
    (wWalksAndFills1.bridge.waiting = [] ∧
       wWalksAndFills1.assist 1 = false ∧
         wWalksAndFills1.xl.walks = [wWalk] ∧
           wWalk.waiters = [Who.eng 1 2] ∧
             Ecc.corrected ≠ Ecc.uncorrectable ∧
               readingJob wWalksAndFills1 (ChJob.walk wWalk.die wWalk.win wWalk.slot) = some (wJobRead (ChJob.walk 0 0 0))) ∧
    (wWalksAndFills3.bridge.waiting = [] ∧
       wWalksAndFills3.assist 1 = true ∧
         wWalksAndFills3.xl.walks = [wWalk] ∧
           wWalk.waiters = [Who.eng 1 2] ∧
             Ecc.clean ≠ Ecc.uncorrectable ∧
               readingJob wWalksAndFills3 (ChJob.walk wWalk.die wWalk.win wWalk.slot) = some (wJobRead (ChJob.walk 0 0 0)) ∧
                 freeFrom wWalksAndFills3.xl.fillTag
                       (List.map Fill.tag (List.filter (fun f => f.die == wWalk.die) wWalksAndFills3.xl.fills)) =
                     some 0 ∧
                   tget wWalksAndFills3.tabs.windows wWalk.win = some wWin ∧
                     tget wWalksAndFills3.tabs.extents (wWin.extFirst + wWalk.slot) = some wExt0) ∧
    (0 < 2 ∧
       writeServed wStw (Reg.fillResp 0) (wFillData 0 0) wWalksAndFills4 ∧
         bitAt (wFillData 0 0) 63 = true ∧
           bitAt (wFillData 0 0) 62 = false ∧
             wWalksAndFills4.xl.fills = [wFill] ∧
               wFill.die = 0 ∧
                 wFill.tag = fld (wFillData 0 0) 55 48 ∧
                   wFill.waiters = [Who.eng 1 2] ∧
                     tget wWalksAndFills4.tabs.windows wFill.win = some wWin ∧
                       tget wWalksAndFills4.tabs.extents (wWin.extFirst + wFill.slot) = some wExt0 ∧
                         wExt0.gen = fld (wFillData 0 0) 59 56) ∧
    (0 < 2 ∧
       writeServed wStw (Reg.fillResp 0) (wFillData 0 1) wWalksAndFills4 ∧
         bitAt (wFillData 0 1) 63 = true ∧
           bitAt (wFillData 0 1) 62 = true ∧
             wWalksAndFills4.xl.fills = [wFill] ∧
               wFill.die = 0 ∧
                 wFill.tag = fld (wFillData 0 1) 55 48 ∧
                   wFill.waiters = [Who.eng 1 2] ∧
                     tget wWalksAndFills4.tabs.windows wFill.win = some wWin ∧
                       tget wWalksAndFills4.tabs.extents (wWin.extFirst + wFill.slot) = some wExt0 ∧
                         wExt0.gen = fld (wFillData 0 1) 59 56) ∧
    (0 < 2 ∧
       writeServed wStw (Reg.fillResp 0) (wFillData 1 0) wWalksAndFills4 ∧
         bitAt (wFillData 1 0) 63 = true ∧
           wWalksAndFills4.xl.fills = [wFill] ∧
             wFill.die = 0 ∧
               wFill.tag = fld (wFillData 1 0) 55 48 ∧
                 tget wWalksAndFills4.tabs.windows wFill.win = some wWin ∧
                   tget wWalksAndFills4.tabs.extents (wWin.extFirst + wFill.slot) = some wExt0 ∧
                     wExt0.gen ≠ fld (wFillData 1 0) 59 56 ∧
                       (wWalksAndFills4.xl.walks.any fun w => w.die == 0 && w.win == wFill.win && w.slot == wFill.slot) = false ∧
                         (List.filter (fun w => w.die == 0) wWalksAndFills4.xl.walks).length < 256) ∧
    (1 < 2 ∧
       writeServed wStw (Reg.fillResp 1) (wFillData 1 0) wWalksAndFills4 ∧
         bitAt (wFillData 1 0) 63 = true ∧
           (wWalksAndFills4.xl.fills.any fun f => f.die == 1 && f.tag == fld (wFillData 1 0) 55 48) = false) ∧
    (wWalksAndFills4.bridge.waiting = [] ∧ wWalksAndFills4.xl.fills = [wFill] ∧ wFill.waiters = [Who.eng 1 2]) := by
  refine ⟨?_, ?_, ?_, ?_, ?_, ?_, ?_, ?_, ?_⟩ <;> decide +kernel

theorem wit_PoolChanges :
    ((wXl 1 wScrubs).mode.carries = true ∧ genLive (wXl 1 wScrubs) 3 = false) ∧
    (genLive wLive 3 = true) ∧
    (wScrub.mode.carries = true ∧
       (wScrub.xl.scrubs.any fun c => c.ext == 4 && c.running) = true ∧ extentHbm wScrub 4 = some wScrubBase) ∧
    (wPoolChanges3.mode.carries = true ∧
       tget wPoolChanges3.xl.migs 0 = some wMig ∧
         wMig.st = 2 ∧
           tget wPoolChanges3.tabs.extents wMig.ext = some wExt0 ∧
             extentHbm wPoolChanges3 wExt0.pool = none ∧
               extentHbm wPoolChanges3 wExt0.newPool = none ∧
                 extentPort wPoolChanges3 wExt0.newPool = some 5 ∧ wPoolChanges3.bridge.trks = []) ∧
    (wPoolChanges4.mode.carries = true ∧
       tget wPoolChanges4.xl.migs 0 = some wMig ∧
         wMig.st = 2 ∧
           tget wPoolChanges4.tabs.extents wMig.ext = some wExt6 ∧
             extentHbm wPoolChanges4 wExt6.pool = none ∧
               extentHbm wPoolChanges4 wExt6.newPool = some ((extentHbm (wXl 6 newXl) 6).getD 0) ∧
                 (extentHbm (wXl 6 newXl) 6).getD 0 % 64 = 0 ∧ 9 < 2 ^ 22 ∧ wPoolChanges4.bridge.trks = []) := by
  refine ⟨?_, ?_, ?_, ?_, ?_⟩ <;> decide +kernel

theorem wit_DynamicCapacity :
    ((wXl 1 newXl).mode.carries = true ∧
       dcWindow (wXl 1 newXl) 0 0 = some (0, wWin) ∧
         dcExtents (wXl 1 newXl) wWin (DcAdd.prescriptive [7]) = some [7] ∧
           [7] ≠ [] ∧
             (List.take [7].length (List.filter (slotAbsent (wXl 1 newXl) 0 wWin) (List.range wWin.extCount))).length = [7].length) ∧
    (wDynamicCapacity1.mode.carries = true ∧ dcWindow wDynamicCapacity1 0 0 = some (0, wWin)) ∧
    ((wXl 1 newXl).mode.carries = true ∧
       dcWindow (wXl 1 newXl) 0 0 = some (0, wWin) ∧
         dcPresent (wXl 1 newXl) 0 wWin 2 = true ∧ ((wXl 1 newXl).xl.dcRel.any fun r => r.win == 0 && r.slot == 2) = false) ∧
    (wDynamicCapacity3.mode.carries = true ∧
       wDynamicCapacity3.quiet ∧
         wDynamicCapacity3.home.waiting = [] ∧
           (wDynamicCapacity3.xl.dcRel.all fun r => !r.waits) = true ∧
             dcWindow wDynamicCapacity3 0 0 = some (0, wWin) ∧ dcPresent wDynamicCapacity3 0 wWin 2 = true) ∧
    (wDynamicCapacity3.mode.carries = true ∧
       wDynamicCapacity3.quiet ∧
         wDynamicCapacity3.home.waiting = [] ∧
           wDynamicCapacity3.xl.dcRel = [wRel] ∧ wRel.post = none ∧ wRel.waits = false ∧ wDynamicCapacity3.assist 2 = false) ∧
    (wDynamicCapacity5.mode.carries = true ∧
       wDynamicCapacity5.quiet ∧
         wDynamicCapacity5.home.waiting = [] ∧
           wDynamicCapacity5.xl.dcRel = [wRel] ∧
             wRel.post = none ∧ wRel.waits = false ∧ wDynamicCapacity5.assist 2 = true ∧ wDynamicCapacity5.xl.dcPosts.length < 256) := by
  refine ⟨?_, ?_, ?_, ?_, ?_, ?_⟩ <;> decide +kernel

theorem wit_HostRequests :
    ((wLeg newBridge).bridge.waiting = [] ∧
       memPort (wLeg newBridge) 0 = true ∧
         portTakes (wLeg newBridge) 0 = true ∧
           (wLeg newBridge).role 0 = 1 ∧
             0 < 512 ∧
               (∀ (bp : Nat), bp < 16 → bp / 2 = 0 / 64 → canAlloc (wLeg newBridge) bp Share.general 1 = true) ∧
                 preCheck (wLeg newBridge) (portHost (wLeg newBridge) 0) ((wMemRd 1610612736).addr / 64 * 64)
                       (opOf (wMemRd 1610612736)).isWrite =
                     Pre.go 0 wWin 2 0 none false ∧
                   tget (wLeg newBridge).home.cohs (portHost (wLeg newBridge) 0) = none ∧
                     (wLeg newBridge).xl.cache = [] ∧ (wLeg newBridge).xl.walks = [] ∧ (wLeg newBridge).xl.fills = []) ∧
    ((wLeg newBridge).bridge.waiting = [] ∧
       memPort (wLeg newBridge) 0 = true ∧
         portTakes (wLeg newBridge) 0 = true ∧
           (wLeg newBridge).role 0 = 1 ∧
             0 < 512 ∧
               (∀ (bp : Nat), bp < 16 → bp / 2 = 0 / 64 → canAlloc (wLeg newBridge) bp Share.general 1 = true) ∧
                 (wMemRd 0).op = MemOp.rd SnpType.noOp ∧
                   preCheck (wLeg newBridge) (portHost (wLeg newBridge) 0) ((wMemRd 0).addr / 64 * 64) false =
                       Pre.fail ErrKind.violation 1 none ∧
                     tget (wLeg newBridge).home.cohs (portHost (wLeg newBridge) 0) = none ∧ (wLeg newBridge).leg? 0 = none) ∧
    (wFull.bridge.waiting = [] ∧
       memPort wFull 0 = true ∧
         portTakes wFull 0 = true ∧
           0 < 512 ∧
             (List.all wFull.links fun e => decide (e.fst < 512)) = true ∧
               hasData (wMemRd 0) = false ∧ ∀ (bp : Nat), bp < 16 → bp / 2 = 0 / 64 → canAlloc wFull bp Share.general 1 = false) ∧
    ((wLeg newBridge).bridge.waiting = [] ∧
       (wLeg newBridge).role 0 = 1 ∧
         portTakes (wLeg newBridge) 0 = true ∧
           (wLeg newBridge).mode.carries = true ∧
             ideOk (wLeg newBridge) 0 = true ∧
               1 ≤ 1 ∧
                 1 ≤ 32 ∧
                   0 < 512 ∧
                     (∀ (bp : Nat), bp < 16 → bp / 2 = 0 / 64 → canAlloc (wLeg newBridge) bp Share.general 1 = true) ∧
                       vbPort (wLeg newBridge) (portHost (wLeg newBridge) 0) 1 = some 1 ∧
                         (wLeg newBridge).leg? 1 = some newLeg ∧
                           ((wIo IoKind.mwr).kind = IoKind.mwr ∨ (wIo IoKind.mwr).kind = IoKind.mrd) ∧
                             (wIo IoKind.mwr).ep = false ∧
                               ioTlp newLeg (wIo IoKind.mwr) = some wIoTlp ∧
                                 (wLeg newBridge).linkIsUp 1 = true ∧
                                   Option.map (fun k => (k.contained, k.bound)) (tget (wLeg newBridge).links 1) =
                                     some (false, true)) ∧
    ((wLeg newBridge).bridge.waiting = [] ∧
       (wLeg newBridge).noRelease ∧
         (wLeg newBridge).role 0 = 1 ∧
           portTakes (wLeg newBridge) 0 = true ∧
             (wLeg newBridge).mode.carries = true ∧
               1 ≤ 1 ∧
                 1 ≤ 32 ∧
                   0 < 512 ∧
                     (∀ (bp : Nat), bp < 16 → bp / 2 = 0 / 64 → canAlloc (wLeg newBridge) bp Share.general 1 = true) ∧
                       vbPort (wLeg newBridge) (portHost (wLeg newBridge) 0) 1 = some 1 ∧
                         (wLeg newBridge).leg? 1 = some newLeg ∧
                           (wLeg newBridge).leg? 0 = none ∧
                             (wIo (IoKind.bridge (VbWrite.serr true))).kind = IoKind.bridge (VbWrite.serr true)) ∧
    ((wTrks TrkSt.wait (LineOp.read SnpType.noOp)).mode.carries = true ∧
       (wTrks TrkSt.wait (LineOp.read SnpType.noOp)).bridge.waiting = [] ∧
         (wTrks TrkSt.wait (LineOp.read SnpType.noOp)).trk? 3 = some (wTrk TrkSt.wait (LineOp.read SnpType.noOp)) ∧
           (wTrk TrkSt.wait (LineOp.read SnpType.noOp)).st = TrkSt.wait ∧
             (wTrk TrkSt.wait (LineOp.read SnpType.noOp)).src = Src.host 0 9 ∧
               (wTrk TrkSt.wait (LineOp.read SnpType.noOp)).target = Target.hbm ∧
                 (wTrk TrkSt.wait (LineOp.read SnpType.noOp)).also = none ∧
                   (wTrk TrkSt.wait (LineOp.read SnpType.noOp)).ans = none ∧
                     (wTrk TrkSt.wait (LineOp.read SnpType.noOp)).tlp = none ∧
                       (wTrk TrkSt.wait (LineOp.read SnpType.noOp)).op.isRead = true) ∧
    ((wTrks TrkSt.wait LineOp.specRd).mode.carries = true ∧
       (wTrks TrkSt.wait LineOp.specRd).bridge.waiting = [] ∧
         (wTrks TrkSt.wait LineOp.specRd).trk? 3 = some (wTrk TrkSt.wait LineOp.specRd) ∧
           (wTrk TrkSt.wait LineOp.specRd).st = TrkSt.wait ∧
             (wTrk TrkSt.wait LineOp.specRd).src = Src.host 0 9 ∧
               (wTrk TrkSt.wait LineOp.specRd).target = Target.hbm ∧
                 (wTrk TrkSt.wait LineOp.specRd).also = none ∧
                   (wTrk TrkSt.wait LineOp.specRd).ans = none ∧
                     (wTrk TrkSt.wait LineOp.specRd).op = LineOp.specRd ∧ (wTrk TrkSt.wait LineOp.specRd).tlp = none) ∧
    ((wArrived (wTrks TrkSt.issued (LineOp.read SnpType.noOp))).mode.carries = true ∧
       (wArrived (wTrks TrkSt.issued (LineOp.read SnpType.noOp))).bridge.waiting = [] ∧
         (wArrived (wTrks TrkSt.issued (LineOp.read SnpType.noOp))).rings.arrived[0]? = some wUnit ∧
           wUnit.body = UBody.rsp (Who.trk 3) wAns ∧
             (wArrived (wTrks TrkSt.issued (LineOp.read SnpType.noOp))).trk? 3 =
                 some (wTrk TrkSt.issued (LineOp.read SnpType.noOp)) ∧
               (wTrk TrkSt.issued (LineOp.read SnpType.noOp)).st = TrkSt.issued ∧
                 (wTrk TrkSt.issued (LineOp.read SnpType.noOp)).orphan = false ∧
                   (wTrk TrkSt.issued (LineOp.read SnpType.noOp)).also = none ∧
                     (wTrk TrkSt.issued (LineOp.read SnpType.noOp)).src = Src.host 0 9 ∧
                       (wTrk TrkSt.issued (LineOp.read SnpType.noOp)).op = LineOp.read SnpType.noOp ∧
                         (wTrk TrkSt.issued (LineOp.read SnpType.noOp)).deadline % 65536 = wUnit.deadline % 65536 ∧
                           wAns.kind = none ∧
                             (wArrived (wTrks TrkSt.issued (LineOp.read SnpType.noOp))).leg? 0 = none ∧
                               (wArrived (wTrks TrkSt.issued (LineOp.read SnpType.noOp))).linkIsUp 0 = true) ∧
    ((wArrived (wLeg newBridge)).mode.carries = true ∧
       (wArrived (wLeg newBridge)).bridge.waiting = [] ∧
         (wArrived (wLeg newBridge)).rings.arrived[0]? = some wUnit ∧
           wUnit.body = UBody.rsp (Who.trk 3) wAns ∧ (wArrived (wLeg newBridge)).trk? 3 = none) ∧
    (wIsl.mode.carries = true ∧ tget wIsl.bridge.islDone 4 = some (0, 64) ∧ wIsl.role 0 = 4) ∧
    ((wTrks TrkSt.issued (LineOp.read SnpType.noOp)).mode.carries = true ∧
       (wTrks TrkSt.issued (LineOp.read SnpType.noOp)).bridge.waiting = [] ∧
         (wTrks TrkSt.issued (LineOp.read SnpType.noOp)).trk? 3 = some (wTrk TrkSt.issued (LineOp.read SnpType.noOp)) ∧
           (wTrk TrkSt.issued (LineOp.read SnpType.noOp)).st = TrkSt.issued ∧
             (wTrk TrkSt.issued (LineOp.read SnpType.noOp)).src = Src.host 0 9 ∧
               (wTrk TrkSt.issued (LineOp.read SnpType.noOp)).op = LineOp.read SnpType.noOp ∧
                 (wTrk TrkSt.issued (LineOp.read SnpType.noOp)).orphan = false ∧
                   (wTrk TrkSt.issued (LineOp.read SnpType.noOp)).target = Target.hbm ∧
                     0 < 512 ∧
                       (wTrks TrkSt.issued (LineOp.read SnpType.noOp)).leg? 0 = none ∧
                         (wTrks TrkSt.issued (LineOp.read SnpType.noOp)).linkIsUp 0 = true) ∧
    ((wTrks TrkSt.held (LineOp.read SnpType.noOp)).mode.carries = true ∧
       (wTrks TrkSt.held (LineOp.read SnpType.noOp)).bridge.waiting = [] ∧
         (wTrks TrkSt.held (LineOp.read SnpType.noOp)).trk? 3 = some (wTrk TrkSt.held (LineOp.read SnpType.noOp)) ∧
           (wTrk TrkSt.held (LineOp.read SnpType.noOp)).st = TrkSt.held) := by
  refine ⟨?_, ?_, ?_, ?_, ?_, ?_, ?_, ?_, ?_, ?_, ?_, ?_⟩ <;> decide +kernel

theorem wit_PartnerRequests :
    ((wLeg newBridge).bridge.waiting = [] ∧
       1 < 512 ∧
         legPort (wLeg newBridge) 1 = true ∧
           portTakes (wLeg newBridge) 1 = true ∧
             (wWrite 4096).data ≠ [] ∧
               (wWrite 4096).plain = true ∧
                 writeRoom (wLeg newBridge) 1 (wWrite 4096) = true ∧
                   wayOf (wLeg newBridge) 1 ((wWrite 4096).addr / 4 * 4) (wWrite 4096).data.length true = Way.host) ∧
    ((wLeg newBridge).bridge.waiting = [] ∧
       1 < 512 ∧
         legPort (wLeg newBridge) 1 = true ∧
           portTakes (wLeg newBridge) 1 = true ∧
             (wWrite 1610612804).data ≠ [] ∧
               (wWrite 1610612804).plain = true ∧
                 (wWrite 1610612804).ep = false ∧
                   writeRoom (wLeg newBridge) 1 (wWrite 1610612804) = true ∧
                     wayOf (wLeg newBridge) 1 ((wWrite 1610612804).addr / 4 * 4) (wWrite 1610612804).data.length true =
                         Way.window ∧
                       ((wWrite 1610612804).addr / 4 * 4 + (wWrite 1610612804).data.length - 1) / 64 =
                           (wWrite 1610612804).addr / 64 ∧
                         matchWindow (wLeg newBridge) (portOwner (wLeg newBridge) 1) ((wWrite 1610612804).addr / 4 * 4) =
                             some (0, wWin, none, 536870980) ∧
                           preCheck (wLeg newBridge) (portOwner (wLeg newBridge) 1) (64 * ((wWrite 1610612804).addr / 64)) true =
                               Pre.go 0 wWin 2 64 none false ∧
                             (wLeg newBridge).xl.cache = [] ∧ (wLeg newBridge).xl.walks = [] ∧ (wLeg newBridge).xl.fills = []) ∧
    ((wLeg newBridge).bridge.waiting = [] ∧
       1 < 512 ∧
         legPort (wLeg newBridge) 1 = true ∧
           portTakes (wLeg newBridge) 1 = true ∧
             0 < (wRead 0).dws ∧
               (wRead 0).dws ≤ 1024 ∧
                 (wRead 0).plain = true ∧
                   readRoom (wLeg newBridge) 1 (wRead 0) ((wRead 0).addr / 4 * 4 / 64)
                         (((wRead 0).addr / 4 * 4 + 4 * (wRead 0).dws - 1) / 64) =
                       true ∧
                     wayOf (wLeg newBridge) 1 ((wRead 0).addr / 4 * 4) (4 * (wRead 0).dws) false = Way.host) ∧
    (wNoDma.bridge.waiting = [] ∧
       1 < 512 ∧
         (List.all wNoDma.links fun e => decide (e.fst < 512)) = true ∧
           legPort wNoDma 1 = true ∧
             portTakes wNoDma 1 = true ∧
               wNoDma.leg? 1 = some newLeg ∧
                 0 < (wRead 1610612736).dws ∧
                   (wRead 1610612736).dws ≤ 1024 ∧
                     (wRead 1610612736).plain = true ∧
                       readRoom wNoDma 1 (wRead 1610612736) ((wRead 1610612736).addr / 4 * 4 / 64)
                             (((wRead 1610612736).addr / 4 * 4 + 4 * (wRead 1610612736).dws - 1) / 64) =
                           true ∧
                         wayOf wNoDma 1 ((wRead 1610612736).addr / 4 * 4) (4 * (wRead 1610612736).dws) false = Way.violation) ∧
    ((wLeg newBridge).bridge.waiting = [] ∧
       1 < 512 ∧
         (List.all (wLeg newBridge).links fun e => decide (e.fst < 512)) = true ∧
           legPort (wLeg newBridge) 1 = true ∧
             portTakes (wLeg newBridge) 1 = true ∧
               (wLeg newBridge).leg? 1 = some newLeg ∧
                 portOwned (wLeg newBridge) 1 = true ∧ (wRead 1610612736).plain = true ∧ (wLeg newBridge).bridge.items = []) ∧
    ((wLeg newBridge).bridge.waiting = [] ∧
       1 < 512 ∧
         legPort (wLeg newBridge) 1 = true ∧
           portTakes (wLeg newBridge) 1 = true ∧
             (wRead 0).plain = true ∧
               readRoom (wLeg newBridge) 1 (wRead 0) ((wRead 0).addr / 64) ((wRead 0).addr / 64) = true ∧
                 wayOf (wLeg newBridge) 1 (wRead 0).addr wOp.size false = Way.host) ∧
    ((wLeg newBridge).bridge.waiting = [] ∧
       1 < 512 ∧
         legPort (wLeg newBridge) 1 = true ∧
           portTakes (wLeg newBridge) 1 = true ∧
             (wLeg newBridge).leg? 1 = some newLeg ∧
               portOwned (wLeg newBridge) 1 = true ∧ 2 ≤ 3 ∧ (wLeg newBridge).bridge.items = []) ∧
    ((wLeg newBridge).bridge.waiting = [] ∧
       (wLeg newBridge).bridge.trks = [] ∧
         1 < 512 ∧
           legPort (wLeg newBridge) 1 = true ∧
             portTakes (wLeg newBridge) 1 = true ∧
               (wLeg newBridge).leg? 1 = some newLeg ∧
                 portOwned (wLeg newBridge) 1 = true ∧
                   (wLeg newBridge).noRelease ∧ (wLeg newBridge).bridge.items = [] ∧ newLeg.serr = false) ∧
    (wPartnerRequests8.mode.carries = true ∧
       wPartnerRequests8.bridge.waiting = [] ∧
         wPartnerRequests8.trk? 3 = some wAcked ∧
           wAcked.st = TrkSt.respond ∧
             wAcked.src = Src.leg 0 0 ∧
               wPartnerRequests8.bridge.items = [(0, wItem (IBody.write true) [3])] ∧
                 (wItem (IBody.write true) [3]).body = IBody.write true ∧
                   (wItem (IBody.write true) [3]).trks = [3] ∧ (wItem (IBody.write true) [3]).fails = []) ∧
    (wPartnerRequests9.mode.carries = true ∧
       wPartnerRequests9.bridge.waiting = [] ∧
         wPartnerRequests9.role 0 = 1 ∧
           wPartnerRequests9.linkIsUp 0 = true ∧
             wPartnerRequests9.bridge.trks = [(3, wOut)] ∧
               wOut.target = Target.hostLink 0 ∧
                 wOut.tag = some wCpl.tag ∧
                   wOut.st = TrkSt.issued ∧
                     wOut.src = Src.leg 0 0 ∧
                       wPartnerRequests9.bridge.items = [(0, wItem (IBody.read (wRead 0)) [3])] ∧
                         (wItem (IBody.read (wRead 0)) [3]).body = IBody.read (wRead 0) ∧
                           (wItem (IBody.read (wRead 0)) [3]).sent = 0 ∧
                             wPartnerRequests9.leg? (wItem (IBody.read (wRead 0)) [3]).port = some newLeg ∧
                               wPartnerRequests9.linkIsUp (wItem (IBody.read (wRead 0)) [3]).port = true ∧
                                 wCpl.status = CplStatus.sc ∧
                                   wCpl.last = true ∧
                                     wCpl.data ≠ [] ∧
                                       wCpl.data.length ≤ mpsOf wPartnerRequests9 (wItem (IBody.read (wRead 0)) [3]).port) ∧
    ((wPair true wBound wHostWait newBridge).mode.carries = true ∧
       (wPair true wBound wHostWait newBridge).bridge.waiting = [] ∧
         (wPair true wBound wHostWait newBridge).bridge.trks = [] ∧
           (wPair true wBound wHostWait newBridge).bridge.items = [] ∧
             (wPair true wBound wHostWait newBridge).noRelease ∧
               1 < 512 ∧
                 (wPair true wBound wHostWait newBridge).leg? 1 = some wHostWait ∧
                   wHostWait.hostWait = some 30 ∧
                     (wPair true wBound wHostWait newBridge).link? 1 = some wBound ∧ wBound.contained = false) ∧
    ((wPair false wBound newLeg newBridge).bridge.waiting = [] ∧
       legPort (wPair false wBound newLeg newBridge) 1 = true ∧
         (wPair false wBound newLeg newBridge).leg? 1 = some newLeg ∧
           portOwned (wPair false wBound newLeg newBridge) 1 = false ∧
             partnerBound (wPair false wBound newLeg newBridge) 1 = true ∧ (wPair false wBound newLeg newBridge).assist 3 = false) ∧
    (legPort wFm 1 = true ∧
       wFm.leg? 1 = some newLeg ∧
         portOwned wFm 1 = false ∧
           partnerBound wFm 1 = true ∧ wFm.assist 3 = false ∧ wFm.inGap = false ∧ wFm.fmUsable = true ∧ wEvRec.dpa = none) := by
  refine ⟨?_, ?_, ?_, ?_, ?_, ?_, ?_, ?_, ?_, ?_, ?_, ?_, ?_⟩ <;> decide +kernel

theorem wit_PartnerAnswers :
    ((wPair true wBound wSends newBridge).mode.carries = true ∧
       (wPair true wBound wSends newBridge).bridge.waiting = [] ∧
         (wPair true wBound wSends newBridge).leg? 1 = some wSends ∧
           (wPair true wBound wSends newBridge).linkIsUp 1 = true ∧
             wSends.egress = [wEgr] ∧
               wEgr.kind = EgrKind.posted ∧ wEgr.from_ = none ∧ wEgr.tag = none ∧ wEgr.body = EgrBody.tlp wIoTlp) ∧
    (wPartnerAnswers1.mode.carries = true ∧
       wPartnerAnswers1.bridge.waiting = [] ∧
         wPartnerAnswers1.bridge.items = [] ∧
           1 < 512 ∧
             0 < 512 ∧
               wPartnerAnswers1.leg? 1 = some wTags ∧
                 wPartnerAnswers1.role 1 = 3 ∧
                   wPartnerAnswers1.linkIsUp 1 = true ∧
                     tget wTags.tags wCpl.tag = some wTag ∧
                       wTag.who = Who.trk 3 ∧
                         wPartnerAnswers1.trk? 3 = some wIoTrk ∧
                           wIoTrk.src = Src.io 0 8 3 ∧
                             wIoTrk.orphan = false ∧
                               wCpl.last = true ∧
                                 wCpl.status = CplStatus.sc ∧
                                   wCpl.ep = false ∧ wPartnerAnswers1.linkIsUp 0 = true ∧ wPartnerAnswers1.leg? 0 = none) ∧
    (wPartnerAnswers2.mode.carries = true ∧
       wPartnerAnswers2.bridge.waiting = [] ∧
         wPartnerAnswers2.leg? 1 = some wTags ∧
           wPartnerAnswers2.role 1 = 3 ∧
             wPartnerAnswers2.linkIsUp 1 = true ∧
               tget wTags.tags 4 = some wTag ∧
                 wTag.who = Who.trk 3 ∧ wPartnerAnswers2.trk? 3 = some (wTrk TrkSt.issued (LineOp.read SnpType.noOp))) ∧
    ((wPair true wBound wTags newBridge).mode.carries = true ∧
       (wPair true wBound wTags newBridge).leg? 1 = some wTags ∧ tget wTags.quar 6 = some 500) ∧
    (wNoLimit.mode.carries = true ∧
       wNoLimit.bridge.waiting = [] ∧
         1 < 512 ∧
           wNoLimit.leg? 1 = some wTags ∧
             tget wTags.tags 4 = some wTag ∧ wTag.start = some 100 ∧ wNoLimit.rf (Reg.bxeCtl (legIndex wNoLimit 1)) 31 24 = 0) ∧
    ((wDown 2 newLink true wUp).mode.carries = true ∧
       (wDown 2 newLink true wUp).bridge.waiting = [] ∧
         (wDown 2 newLink true wUp).bridge.trks = [] ∧
           0 < 512 ∧
             (wDown 2 newLink true wUp).link? 0 = some newLink ∧
               (wDown 2 newLink true wUp).linkIsUp 0 = true ∧ (wDown 2 newLink true wUp).role 0 = 2) ∧
    ((wLeg newBridge).mode.carries = true ∧
       (wLeg newBridge).bridge.trks = [] ∧
         1 < 512 ∧
           indexPort (wLeg newBridge) (legIndex (wLeg newBridge) 1) = some 1 ∧
             writeServed wStw (Reg.bxeCtl (legIndex (wLeg newBridge) 1))
                 (keepSet (Reg.bxeCtl (legIndex (wLeg newBridge) 1)) (4#64) (wLeg newBridge)) (wLeg newBridge) ∧
               (wLeg newBridge).leg? 1 = some newLeg ∧
                 (wLeg newBridge).link? 1 = some wBound ∧ wBound.contained = false ∧ (wLeg newBridge).noRelease) ∧
    ((wPair false wContained newLeg newBridge).mode.carries = true ∧
       (wPair false wContained newLeg newBridge).bridge.trks = [] ∧
         (wPair false wContained newLeg newBridge).bridge.items = [] ∧
           1 < 512 ∧
             indexPort (wPair false wContained newLeg newBridge) (legIndex (wPair false wContained newLeg newBridge) 1) = some 1 ∧
               writeServed wStw (Reg.bxeCtl (legIndex (wPair false wContained newLeg newBridge) 1))
                   (keepSet (Reg.bxeCtl (legIndex (wPair false wContained newLeg newBridge) 1)) (8#64)
                     (wPair false wContained newLeg newBridge))
                   (wPair false wContained newLeg newBridge) ∧
                 (wPair false wContained newLeg newBridge).leg? 1 = some newLeg ∧
                   (wPair false wContained newLeg newBridge).link? 1 = some wContained ∧
                     wContained.contained = true ∧
                       answersOwed (wPair false wContained newLeg newBridge) 1 = false ∧
                         portOwned (wPair false wContained newLeg newBridge) 1 = false) ∧
    ((wPair true wContained newLeg newBridge).mode.carries = true ∧
       (wPair true wContained newLeg newBridge).bridge.waiting = [] ∧
         (wPair true wContained newLeg newBridge).bridge.trks = [] ∧
           (wPair true wContained newLeg newBridge).bridge.items = [] ∧
             1 < 512 ∧
               (wPair true wContained newLeg newBridge).leg? 1 = some newLeg ∧
                 (wPair true wContained newLeg newBridge).link? 1 = some wContained ∧
                   wContained.contained = true ∧
                     answersOwed (wPair true wContained newLeg newBridge) 1 = false ∧
                       portOwned (wPair true wContained newLeg newBridge) 1 = true) ∧
    ((wLeg newBridge).mode.carries = true ∧
       (wLeg newBridge).bridge.waiting = [] ∧
         (wLeg newBridge).bridge.trks = [] ∧
           1 < 512 ∧
             (wLeg newBridge).leg? 1 = some newLeg ∧
               (wLeg newBridge).link? 1 = some wBound ∧
                 wBound.contained = false ∧ (wLeg newBridge).noRelease ∧ portOwned (wLeg newBridge) 1 = true) ∧
    ((wPair true wContained wLost newBridge).mode.carries = true ∧
       (wPair true wContained wLost newBridge).leg? 1 = some wLost ∧
         wLost.signal = some 2 ∧
           (wPair true wContained wLost newBridge).bridge.items = [] ∧
             portOwned (wPair true wContained wLost newBridge) 1 = true ∧
               (wPair true wContained wLost newBridge).hostUpPort (portOwner (wPair true wContained wLost newBridge) 1) = some 0 ∧
                 wLost.dpcEn ≠ 0 ∧ wLost.dpcInt = true ∧ wLost.dpcErrCor = false) ∧
    ((wPair true wContained wLost newBridge).mode.carries = true ∧
       (wPair true wContained wLost newBridge).leg? 1 = some wLost ∧
         wLost.deassert = some (2, 3) ∧ (wPair true wContained wLost newBridge).bridge.items = []) := by
  refine ⟨?_, ?_, ?_, ?_, ?_, ?_, ?_, ?_, ?_, ?_, ?_, ?_⟩ <;> decide +kernel

theorem wit_HomeAccesses :
    ((wArrives (wAcc wWr true) newHome).mode.carries = true ∧
       arrivedAcc (wArrives (wAcc wWr true) newHome) 0 = some (wMem (wAcc wWr true), wAcc wWr true) ∧
         needsEntry (wAcc wWr true) = true ∧
           isWriteback (wArrives (wAcc wWr true) newHome) (wAcc wWr true) = false ∧
             tget (wArrives (wAcc wWr true) newHome).home.entries (wAcc wWr true).pool = none ∧
               sliceUsed (wArrives (wAcc wWr true) newHome) (wAcc wWr true).pool < 2048) ∧
    ((wArrives (wAcc wWr true) (wHeld wWr true HSt.entered)).mode.carries = true ∧
       arrivedAcc (wArrives (wAcc wWr true) (wHeld wWr true HSt.entered)) 0 = some (wMem (wAcc wWr true), wAcc wWr true) ∧
         needsEntry (wAcc wWr true) = true ∧
           isWriteback (wArrives (wAcc wWr true) (wHeld wWr true HSt.entered)) (wAcc wWr true) = false ∧
             (tget (wArrives (wAcc wWr true) (wHeld wWr true HSt.entered)).home.entries (wAcc wWr true).pool).isSome = true) ∧
    ((wHome (wHeld (LineOp.read SnpType.noOp) false HSt.entered)).mode.carries = true ∧
       (wHome (wHeld (LineOp.read SnpType.noOp) false HSt.entered)).home.entries =
           [(wLine, wEnt (LineOp.read SnpType.noOp) false HSt.entered)] ∧
         (wHome (wHeld (LineOp.read SnpType.noOp) false HSt.entered)).home.snoops = [] ∧
           (wHome (wHeld (LineOp.read SnpType.noOp) false HSt.entered)).home.waiting = [] ∧
             (wHome (wHeld (LineOp.read SnpType.noOp) false HSt.entered)).home.askedBy = [] ∧
               (wEnt (LineOp.read SnpType.noOp) false HSt.entered).st = HSt.entered ∧
                 poisonOwed (wHome (wHeld (LineOp.read SnpType.noOp) false HSt.entered)) wLine = false ∧
                   accWaits (wHome (wHeld (LineOp.read SnpType.noOp) false HSt.entered))
                         (wEnt (LineOp.read SnpType.noOp) false HSt.entered).acc =
                       false ∧
                     (wEnt (LineOp.read SnpType.noOp) false HSt.entered).acc.shared = false ∧
                       (wEnt (LineOp.read SnpType.noOp) false HSt.entered).acc.op = LineOp.read SnpType.noOp ∧
                         chRoom (wHome (wHeld (LineOp.read SnpType.noOp) false HSt.entered))
                             (hlineOf (wHome (wHeld (LineOp.read SnpType.noOp) false HSt.entered))
                               (wEnt (LineOp.read SnpType.noOp) false HSt.entered).acc.dpa)
                             false =
                           true) ∧
    ((wSet (wHeld wWr true HSt.entered)).mode.carries = true ∧
       (wSet (wHeld wWr true HSt.entered)).home.entries = [(wLine, wEnt wWr true HSt.entered)] ∧
         (wSet (wHeld wWr true HSt.entered)).home.snoops = [] ∧
           (wSet (wHeld wWr true HSt.entered)).home.waiting = [] ∧
             (wSet (wHeld wWr true HSt.entered)).home.askedBy = [] ∧
               (wEnt wWr true HSt.entered).st = HSt.entered ∧
                 poisonOwed (wSet (wHeld wWr true HSt.entered)) wLine = false ∧
                   accWaits (wSet (wHeld wWr true HSt.entered)) (wEnt wWr true HSt.entered).acc = false ∧
                     (wEnt wWr true HSt.entered).acc.pool = wLine ∧
                       (wEnt wWr true HSt.entered).acc.shared = true ∧
                         (wEnt wWr true HSt.entered).acc.cached = true ∧
                           (wEnt wWr true HSt.entered).acc.op = LineOp.write (9#512) fullMask true true MetaVal.i ∧
                             (wSet (wHeld wWr true HSt.entered)).home.cached.contains
                                   (lineDie (wSet (wHeld wWr true HSt.entered)) wLine, sfSet wLine) =
                                 true ∧
                               sfGet (wSet (wHeld wWr true HSt.entered)) wLine = some (wSf 1) ∧
                                 (wSf 1).excl = true ∧
                                   1 < 64 ∧
                                     1 ≠ (wEnt wWr true HSt.entered).acc.host ∧
                                       (wSf 1).presence = hostBit 1 ∧
                                         hostIsGone (wSet (wHeld wWr true HSt.entered)) 1 = false ∧
                                           hostIsGone (wSet (wHeld wWr true HSt.entered)) (wEnt wWr true HSt.entered).acc.host =
                                             false) ∧
    ((wHome (wHeld wWr true HSt.entered)).mode.carries = true ∧
       (wHome (wHeld wWr true HSt.entered)).home.entries = [(wLine, wEnt wWr true HSt.entered)] ∧
         (wHome (wHeld wWr true HSt.entered)).home.snoops = [] ∧
           (wHome (wHeld wWr true HSt.entered)).home.waiting = [] ∧
             (wHome (wHeld wWr true HSt.entered)).home.askedBy = [] ∧
               (wEnt wWr true HSt.entered).st = HSt.entered ∧
                 poisonOwed (wHome (wHeld wWr true HSt.entered)) wLine = false ∧
                   accWaits (wHome (wHeld wWr true HSt.entered)) (wEnt wWr true HSt.entered).acc = false ∧
                     (wEnt wWr true HSt.entered).acc.shared = true ∧
                       (wHome (wHeld wWr true HSt.entered)).home.cached.contains
                             (lineDie (wHome (wHeld wWr true HSt.entered)) wLine, sfSet wLine) =
                           false ∧
                         (wHome (wHeld wWr true HSt.entered)).home.setReads = []) ∧
    (wHomeAccesses5.mode.carries = true ∧
       wHomeAccesses5.quiet ∧
         wHomeAccesses5.home.waiting = [] ∧ readingJob wHomeAccesses5 (ChJob.setRead 0 7) = some (wJobRead (ChJob.setRead 0 7))) ∧
    (wHomeAccesses5.mode.carries = true ∧
       wHomeAccesses5.quiet ∧
         wHomeAccesses5.home.waiting = [] ∧
           readingJob wHomeAccesses5 (ChJob.setRead 0 7) = some (wJobRead (ChJob.setRead 0 7)) ∧
             (wJobRead (ChJob.setRead 0 7)).snd.snd.buffered = false ∧ regionOf wHomeAccesses5 (4 * 7) = 0) ∧
    ((wArrives (wAcc wWr true) (wSnooped newHome)).mode.carries = true ∧
       (wArrives (wAcc wWr true) (wSnooped newHome)).quiet ∧
         arrivedAcc (wArrives (wAcc wWr true) (wSnooped newHome)) 0 = some (wMem (wAcc wWr true), wAcc wWr true) ∧
           isWriteback (wArrives (wAcc wWr true) (wSnooped newHome)) (wAcc wWr true) = true ∧
             accWaits (wArrives (wAcc wWr true) (wSnooped newHome)) (wAcc wWr true) = false ∧
               (wAcc wWr true).mirror = false ∧
                 mirWin (wArrives (wAcc wWr true) (wSnooped newHome)) (wAcc wWr true).pool = none ∧
                   chRoom (wArrives (wAcc wWr true) (wSnooped newHome))
                         (hlineOf (wArrives (wAcc wWr true) (wSnooped newHome)) (wAcc wWr true).dpa) true =
                       true ∧
                     (wAcc wWr true).op = LineOp.write (9#512) fullMask true true MetaVal.i ∧
                       endedInError (wArrives (wAcc wWr true) (wSnooped newHome)) (wAcc wWr true).who = false) ∧
    ((wHome (wSnooped (wHeld (LineOp.read SnpType.noOp) true HSt.snooping))).mode.carries = true ∧
       (wHome (wSnooped (wHeld (LineOp.read SnpType.noOp) true HSt.snooping))).home.snoops = [wSnp] ∧
         wSnp.why = SnpWhy.access ∧
           wSnp.port.isSome = true ∧
             (wHome (wSnooped (wHeld (LineOp.read SnpType.noOp) true HSt.snooping))).home.entries =
                 [(wSnp.line, wEnt (LineOp.read SnpType.noOp) true HSt.snooping)] ∧
               (wHome (wSnooped (wHeld (LineOp.read SnpType.noOp) true HSt.snooping))).home.askedBy = [] ∧
                 (wEnt (LineOp.read SnpType.noOp) true HSt.snooping).st = HSt.snooping ∧
                   (wEnt (LineOp.read SnpType.noOp) true HSt.snooping).acc.op = LineOp.read SnpType.noOp ∧
                     chRoom (wHome (wSnooped (wHeld (LineOp.read SnpType.noOp) true HSt.snooping)))
                           (hlineOf (wHome (wSnooped (wHeld (LineOp.read SnpType.noOp) true HSt.snooping)))
                             (wEnt (LineOp.read SnpType.noOp) true HSt.snooping).acc.dpa)
                           false =
                         true ∧
                       sfGet (wHome (wSnooped (wHeld (LineOp.read SnpType.noOp) true HSt.snooping))) wSnp.line = some (wSf 0) ∧
                         wSnp.host < 64 ∧
                           (wSf 0).presence = hostBit wSnp.host ∧
                             wSnp.kind = SnpType.inv ∧
                               mirWin (wHome (wSnooped (wHeld (LineOp.read SnpType.noOp) true HSt.snooping))) wSnp.line = none) ∧
    ((wHome (wSnooped newHome)).mode.carries = true ∧
       (wHome (wSnooped newHome)).quiet ∧ ((wHome (wSnooped newHome)).home.snoops.any fun x => x.tag == 7) = false) ∧
    ((State.wf Reg.homeCtl 23 16 0 (wHome (wSnooped newHome))).mode.carries = true ∧
       (State.wf Reg.homeCtl 23 16 0 (wHome (wSnooped newHome))).quiet ∧
         (State.wf Reg.homeCtl 23 16 0 (wHome (wSnooped newHome))).home.snoops = [wSnp] ∧
           wSnp.why = SnpWhy.access ∧
             sfGet (State.wf Reg.homeCtl 23 16 0 (wHome (wSnooped newHome))) wSnp.line = some (wSf 0) ∧
               (wSf 0).excl = true ∧
                 wSnp.host < 64 ∧
                   (wSf 0).presence = hostBit wSnp.host ∧
                     mirWin (State.wf Reg.homeCtl 23 16 0 (wHome (wSnooped newHome))) wSnp.line = none ∧
                       (State.wf Reg.homeCtl 23 16 0 (wHome (wSnooped newHome))).rf Reg.homeCtl 23 16 = 0) ∧
    (memPort (wLeg newBridge) 0 = true) := by
  refine ⟨?_, ?_, ?_, ?_, ?_, ?_, ?_, ?_, ?_, ?_, ?_, ?_⟩ <;> decide +kernel

theorem wit_HomeAndChannels :
    ((wCoh CohSt.downWait).mode.carries = true ∧
       (wCoh CohSt.downWait).quiet ∧
         (wCoh CohSt.downWait).home.snoops = [] ∧
           ((wCoh CohSt.downWait).coh 0).st = CohSt.downWait ∧ ((wCoh CohSt.downWait).coh 0).goneAt = some 100) ∧
    ((wCoh CohSt.reclaim).mode.carries = true ∧
       (wCoh CohSt.reclaim).quiet ∧
         ((wCoh CohSt.reclaim).coh 0).st = CohSt.reclaim ∧
           ((wCoh CohSt.reclaim).coh 0).readmit = false ∧ tsorted (wCoh CohSt.reclaim).home.sf = true) ∧
    (wHomeAndChannels2.mode.carries = true ∧ wHomeAndChannels2.quiet ∧ wHomeAndChannels2.home.evicts = [wEvict]) ∧
    ((wMirror newHome).mode.carries = true ∧
       mirrorOn (wMirror newHome) = true ∧
         (wMirror newHome).home.entries = [] ∧ (wMirror newHome).home.askedBy = [] ∧ (wMirror newHome).home.sf = []) ∧
    ((wMirror newHome).mode.carries = true ∧
       mirrorOn (wMirror newHome) = true ∧ chRoom (wMirror newHome) (poolHline (wMirror newHome) wLine) true = true) ∧
    (wHomeAndChannels5.mode.carries = true ∧
       wHomeAndChannels5.home.mirWaits = [wMirWait] ∧
         wMirWait.entry = true ∧
           wMirWait.acc.who ≠ Who.own ∧
             wHomeAndChannels5.home.entries = [(wMirWait.line, wEnt wWr false HSt.mirror)] ∧
               wHomeAndChannels5.home.waiting = [] ∧ wHomeAndChannels5.home.askedBy = [] ∧ wHomeAndChannels5.qu.busy = []) ∧
    ((wMirror (wSnooped newHome)).mode.carries = true ∧
       mirrorOn (wMirror (wSnooped newHome)) = true ∧ sfGet (wMirror (wSnooped newHome)) wLine = some (wSf 0)) ∧
    ((wChan newChan).mode.carries = true ∧
       (wChan newChan).quiet ∧
         (wChan newChan).home.waiting = [] ∧ (wChan newChan).home.chWait = [] ∧ (wChan newChan).rings.arrived = []) ∧
    (wHomeAndChannels8.mode.carries = true ∧
       wHomeAndChannels8.quiet ∧
         wHomeAndChannels8.home.waiting = [] ∧
           wHomeAndChannels8.home.chWait = [] ∧
             wHomeAndChannels8.rings.arrived = [] ∧
               (wHomeAndChannels8.chan 0).readQ = [wChAcc (Who.trk 3)] ∧
                 (wHomeAndChannels8.chan 0).wbuf = [] ∧ chLimit wHomeAndChannels8 0 ≠ some 0) ∧
    (wHomeAndChannels9.mode.carries = true ∧
       wHomeAndChannels9.quiet ∧
         wHomeAndChannels9.home.waiting = [] ∧
           wHomeAndChannels9.home.chWait = [] ∧
             wHomeAndChannels9.rings.arrived = [] ∧
               (wHomeAndChannels9.chan 0).readQ = [] ∧
                 (wHomeAndChannels9.chan 0).wbuf = [wWEnt] ∧ chLimit wHomeAndChannels9 0 ≠ some 0) ∧
    (wHomeAndChannels10.mode.carries = true ∧
       wHomeAndChannels10.quiet ∧
         (wHomeAndChannels10.chan 0).reading[0]? = some (wChAcc (Who.trk 3)) ∧
           (wChAcc (Who.trk 3)).entry = false ∧
             (wChAcc (Who.trk 3)).acc.who = Who.trk 3 ∧
               (wChAcc (Who.trk 3)).job = ChJob.access ∧ (wChAcc (Who.trk 3)).acc.op = LineOp.read SnpType.noOp) ∧
    (wHomeAndChannels11.mode.carries = true ∧
       wHomeAndChannels11.quiet ∧
         (wHomeAndChannels11.chan 0).reading[0]? = some (wChAcc Who.own) ∧
           (wChAcc Who.own).entry = false ∧
             (wChAcc Who.own).acc.who = Who.own ∧
               (wChAcc Who.own).job = ChJob.access ∧
                 (wChAcc Who.own).acc.op = LineOp.read SnpType.noOp ∧
                   regionOf wHomeAndChannels11 (wChAcc Who.own).hline = 6 ∧
                     (wChAcc Who.own).buffered = false ∧
                       ((wHomeAndChannels11.chan 0).wbuf.any fun e => e.hline == (wChAcc Who.own).hline) = false) ∧
    ((wHome newHome).mode.carries = true ∧
       (wHome newHome).rb Reg.homeCtl 1 = true ∧
         (wHome newHome).home.entries = [] ∧
           (wHome newHome).home.patrol < hbmLines ∧
             (wHome newHome).chan (chanOfLine (wHome newHome) (wHome newHome).home.patrol) = newChan) ∧
    (wRetire.mode.carries = true ∧
       (wRetire.chan 0).st = 1 ∧
         (wRetire.chan 0).copied < 6291455 ∧
           freeGranule wRetire ((carveOf wRetire.tabs 7).snd * 4096) ((carveOf wRetire.tabs 7).fst * 4096) = some wGranule) ∧
    ((wHome newHome).mode.carries = true ∧ 5 < 128) := by
  refine ⟨?_, ?_, ?_, ?_, ?_, ?_, ?_, ?_, ?_, ?_, ?_, ?_, ?_, ?_, ?_⟩ <;> decide +kernel

theorem wit_TickUnit :
    (wBellOn.pwr.auxGood = true ∧
       30 ≤ 30 ∧
         30 ≤ 30 ∧
           wBellOn.tick.running = true ∧
             wBellOn.mode.carries = true ∧
               bellFollows wBellOn = true ∧
                 followsPartner wBellOn = false ∧
                   8 * wBellOn.tick.nextNominal ≤ 8 * wBellOn.now + tickPeriod wBellOn ∧
                     8 * wBellOn.now ≤ 8 * wBellOn.tick.nextNominal + tickPeriod wBellOn ∧
                       wBellOn.tick.edge = none ∧ wBellOn.tick.defer = Defer.none) ∧
    ((wTick newTick).pwr.auxGood = true ∧
       30 ≤ 30 ∧
         30 ≤ 30 ∧ (wTick newTick).tick.running = true ∧ (wTick newTick).mode.carries = true ∧ bellFollows (wTick newTick) = false) ∧
    (wTickUnit2.tick.bellOutUntil = some 200) ∧
    (wTickUnit3.mode.carries = true ∧
       wTickUnit3.tick.inbox[0]? = some wFullWr ∧
         accWaits wTickUnit3 wFullWr = false ∧
           wFullWr.mirror = false ∧
             endedInError wTickUnit3 wFullWr.who = false ∧
               wFullWr.who ≠ Who.own ∧
                 isStageOp wFullWr = true ∧
                   (check7 wTickUnit3 wFullWr).toOption = some 2 ∧
                     writeOf wFullWr.op = some (9#512, fullMask, true) ∧
                       wFullWr.slice = none ∧ wTickUnit3.tick.open_.any (Rec.is 2 wFullWr.pool none) = false) ∧
    (wOver.mode.carries = true ∧
       wOver.tick.inbox[0]? = some wFullWr ∧
         accWaits wOver wFullWr = false ∧
           endedInError wOver wFullWr.who = false ∧
             wFullWr.who ≠ Who.own ∧
               isStageOp wFullWr = true ∧
                 (match check7 wOver wFullWr with
                   | Except.error e => e == 3
                   | Except.ok _ => false) =
                   true) ∧
    (wTickUnit5.mode.carries = true ∧
       wTickUnit5.tick.inbox[0]? = some wTickRd ∧
         accWaits wTickUnit5 wTickRd = false ∧
           wTickRd.who ≠ Who.own ∧ wTickRd.op = LineOp.read SnpType.noOp ∧ wTickRd.slice = none) ∧
    (wTickUnit6.mode.carries = true ∧
       wTickUnit6.quiet ∧
         wTickUnit6.tick.running = true ∧
           wTickUnit6.tick.committing = false ∧
             wTickUnit6.tick.defer = Defer.none ∧
               wTickUnit6.tick.early = [] ∧
                 wTickUnit6.pair.present = false ∧
                   wTickUnit6.pair.tkSets = 0 ∧
                     wTickUnit6.pair.takeTick = none ∧ wTickUnit6.alm.armed = none ∧ wTickUnit6.alm.splitPending = none) ∧
    (wCommit.mode.carries = true ∧
       wCommit.tick.committing = true ∧
         wCommit.tick.mirrorOwed = false ∧
           wCommit.tick.maskIn = [] ∧
             wCommit.pair.present = false ∧
               wCommit.pair.dissolving = none ∧
                 wCommit.alm.drainBoundary = false ∧
                   wCommit.tick.defer = Defer.none ∧
                     wCommit.qu.waits = [] ∧
                       wCommit.tick.closed = [wRec] ∧
                         wRec.op = none ∧
                           wRec.mask = fullMask ∧
                             wRec.poison = false ∧
                               wCommit.tick.closedAcct.absent.contains wRec.contrib = false ∧
                                 (tagsOf wCommit wRec.line).fst < 2 ^ 32 ∧
                                   (tagsOf wCommit wRec.line).snd < 2 ^ 32 ∧
                                     (wCommit.tick.published + 1) % 2 ^ 32 ≠ (tagsOf wCommit wRec.line).fst ∧
                                       (wCommit.tick.published + 1) % 2 ^ 32 ≠ (tagsOf wCommit wRec.line).snd) ∧
    (wTickUnit8.mode.carries = true ∧
       wTickUnit8.tick.committing = false ∧ wTickUnit8.tick.walkAt ≤ wTickUnit8.tick.published / 2 ^ 30) ∧
    ((wTwin newTick).mode.carries = true ∧
       mirrorOn (wTwin newTick) = true ∧ (wTwin newTick).tick.open_.any (Rec.is 2 wLine none) = false) ∧
    (wTickUnit10.mode.carries = true ∧ wTickUnit10.tick.published < 5 ∧ 5 ≤ wTickUnit10.tick.num) ∧
    (wCommit.mode.carries = true ∧ wCommit.tick.committing = true) := by
  refine ⟨?_, ?_, ?_, ?_, ?_, ?_, ?_, ?_, ?_, ?_, ?_, ?_⟩ <;> decide +kernel

theorem wit_RingUnits :
    (wRingUnits0.mode.carries = true ∧
       wRingUnits0.rings.flight[0]? = some wEngUnit ∧ wEngUnit.body = UBody.rsp (Who.eng 1 2) okAnswer) ∧
    (wRingUnits1.mode.carries = true ∧
       wRingUnits1.rings.flight[0]? = some wTrkUnit ∧ wTrkUnit.body = UBody.rsp (Who.trk 3) okAnswer) ∧
    (wRingUnits1.mode.carries = true ∧ wRingUnits1.rings.flight[0]? = some wTrkUnit) ∧
    (wRingUnits4.mode.carries = true ∧
       planeSt wRingUnits4 3 = PlaneSt.stopped ∧ (wRingUnits4.rings.flight.any fun u => u.plane == 3 && u.src != u.dst) = false) ∧
    (wRingUnits5.mode.carries = true ∧ planeSt wRingUnits5 3 = PlaneSt.safe) ∧
    (wRingUnits6.mode.carries = true ∧
       wRingUnits6.rings.back[0]? = some (1, 3, 2, 2, 14) ∧ (wRingUnits6.rings.arrived.any fun u => decide (u.cls = 0)) = false) ∧
    (wRingUnits7.mode.carries = true ∧
       wRingUnits7.bridge.waiting = [] ∧
         wRingUnits7.rings.wait = [wTrkUnit] ∧
           planeSt wRingUnits7 wTrkUnit.plane ≠ PlaneSt.stopped ∧
             creditFor wRingUnits7 wTrkUnit = some 0 ∧
               cycleFree wRingUnits7 wTrkUnit 5 (slotAtCycle wRingUnits7 wTrkUnit.src (goesCw wTrkUnit.src wTrkUnit.dst) 5) = true) ∧
    ((wRings newRings).mode.carries = true ∧ (wRings newRings).rings.next = none) ∧
    (wRingUnits9.mode.carries = true ∧ wRingUnits9.rings.next = some [(0, 4)]) ∧
    (wRingUnits10.mode.carries = true ∧ wRingUnits10.rings.dirty = true) := by
  refine ⟨?_, ?_, ?_, ?_, ?_, ?_, ?_, ?_, ?_, ?_⟩ <;> decide +kernel

theorem wit_QueueItems :
    (producerPage 0 0 0 0 (wCm wOpn newQueue) ∧
       State.queueFree 0 (wCm wOpn newQueue) ∧
         0 < 2048 ∧
           tget (wCm wOpn newQueue).qu.opens 0 = some wOpn ∧ wOpn.noRoom = false ∧ (tget wOpn.cells (cellOfWord 0)).isSome = true) ∧
    (producerPage 0 0 0 0 wQueueItems1 ∧
       State.queueFree 0 wQueueItems1 ∧
         0 < 2048 ∧
           tget wQueueItems1.qu.opens 0 = none ∧
             contextsOf wQueueItems1 (queueDie 0) < 2048 ∧ wQueueItems1.qu.freed = [300009, 300010]) ∧
    (producerPage 0 0 0 0 (wQ newQueue) ∧
       State.queueFree 0 (wQ newQueue) ∧ 0 < 2048 ∧ tget (wQ newQueue).qu.opens 0 = none ∧ freeCells (wQ newQueue) = 0) ∧
    (producerPage 0 0 0 0 (wCm wOpn newQueue) ∧ State.queueFree 0 (wCm wOpn newQueue) ∧ 1 < 4096) ∧
    (producerPage 0 0 0 0 (wCm wOpn newQueue) ∧
       State.queueFree 0 (wCm wOpn newQueue) ∧
         ((wCm wOpn newQueue).queue 0).faulted = false ∧
           ((prodState (wCm wOpn newQueue) 0).fst + 2 ^ 32 - commitSeq (wCw 2 8)) % 2 ^ 32 = 1) ∧
    (producerPage 0 0 0 0 (wCm wOpn newQueue) ∧
       State.queueFree 0 (wCm wOpn newQueue) ∧
         ((wCm wOpn newQueue).queue 0).faulted = false ∧
           1 < ((prodState (wCm wOpn newQueue) 0).fst + 2 ^ 32 - commitSeq (wCw 1 8)) % 2 ^ 32 ∧
             ((prodState (wCm wOpn newQueue) 0).fst + 2 ^ 32 - commitSeq (wCw 1 8)) % 2 ^ 32 ≤ 2 ^ 31) ∧
    (producerPage 0 0 0 0 (wCm wOpn newQueue) ∧
       State.queueFree 0 (wCm wOpn newQueue) ∧
         ((wCm wOpn newQueue).queue 0).faulted = false ∧
           2 ^ 31 < ((prodState (wCm wOpn newQueue) 0).fst + 2 ^ 32 - commitSeq (wCw 4 8)) % 2 ^ 32) ∧
    (producerPage 0 0 0 0 (wCm wOpn newQueue) ∧
       State.queueFree 0 (wCm wOpn newQueue) ∧
         ((wCm wOpn newQueue).queue 0).faulted = false ∧
           ((prodState (wCm wOpn newQueue) 0).fst + 2 ^ 32 - commitSeq (wCw 3 9)) % 2 ^ 32 = 0 ∧
             (commitLen (wCw 3 9) = 0 ∨
               16384 < commitLen (wCw 3 9) ∨
                 ((List.range ((commitLen (wCw 3 9) + 7) / 8)).any fun i =>
                     ((tget (wCm wOpn newQueue).qu.opens 0).bind fun o => tget o.words i).isNone) =
                   true)) ∧
    (producerPage 0 0 0 0 (wCm wOpn newQueue) ∧
       State.queueFree 0 (wCm wOpn newQueue) ∧
         ((wCm wOpn newQueue).queue 0).faulted = false ∧
           ((prodState (wCm wOpn newQueue) 0).fst + 2 ^ 32 - commitSeq (wCw 3 0)) % 2 ^ 32 = 0 ∧
             (commitLen (wCw 3 0) = 0 ∨
               16384 < commitLen (wCw 3 0) ∨
                 ((List.range ((commitLen (wCw 3 0) + 7) / 8)).any fun i =>
                     ((tget (wCm wOpn newQueue).qu.opens 0).bind fun o => tget o.words i).isNone) =
                   true)) ∧
    (producerPage 0 0 0 0 wQueueItems8a ∧
       State.queueFree 0 wQueueItems8a ∧
         (wQueueItems8a.queue 0).faulted = false ∧
           ((prodState wQueueItems8a 0).fst + 2 ^ 32 - commitSeq (wCw 3 8)) % 2 ^ 32 = 0 ∧
             1 ≤ commitLen (wCw 3 8) ∧
               commitLen (wCw 3 8) ≤ 16384 ∧
                 tget wQueueItems8a.qu.opens 0 = some wQueueItems8 ∧
                   ((List.range ((commitLen (wCw 3 8) + 7) / 8)).all fun i => (tget wQueueItems8.words i).isSome) = true ∧
                     wQueueItems8.badWrite = true) ∧
    (producerPage 0 0 0 0 wQueueItems9a ∧
       State.queueFree 0 wQueueItems9a ∧
         (wQueueItems9a.queue 0).faulted = false ∧
           ((prodState wQueueItems9a 0).fst + 2 ^ 32 - commitSeq (wCw 3 8)) % 2 ^ 32 = 0 ∧
             1 ≤ commitLen (wCw 3 8) ∧
               commitLen (wCw 3 8) ≤ 16384 ∧
                 tget wQueueItems9a.qu.opens 0 = some wQueueItems9 ∧
                   ((List.range ((commitLen (wCw 3 8) + 7) / 8)).all fun i => (tget wQueueItems9.words i).isSome) = true ∧
                     wQueueItems9.badWrite = false ∧
                       wQueueItems9.noRoom = true ∧
                         (wQueueItems9a.queue 0).gapState = 1 ∧
                           Option.map (fun x => x.noticeEn) (qcfg? wQueueItems9a 0) = some false) ∧
    (producerPage 0 0 0 0 wQueueItems10 ∧
       State.queueFree 0 wQueueItems10 ∧
         (wQueueItems10.queue 0).faulted = false ∧
           ((prodState wQueueItems10 0).fst + 2 ^ 32 - commitSeq (wCw 3 8)) % 2 ^ 32 = 0 ∧
             1 ≤ commitLen (wCw 3 8) ∧
               commitLen (wCw 3 8) ≤ 16384 ∧
                 tget wQueueItems10.qu.opens 0 = some wOpn ∧
                   ((List.range ((commitLen (wCw 3 8) + 7) / 8)).all fun i => (tget wOpn.words i).isSome) = true ∧
                     wOpn.badWrite = false ∧
                       wOpn.noRoom = false ∧
                         (Option.map (fun x => x.limit) (qcfg? wQueueItems10 0)).getD 0 <
                             (wQueueItems10.queue 0).cells + cellsFor (commitLen (wCw 3 8)) ∧
                           (wQueueItems10.queue 0).gapState = 0 ∧
                             Option.map (fun x => x.noticeEn) (qcfg? wQueueItems10 0) = some false) ∧
    (producerPage 0 0 0 0 wQueueItems11 ∧
       State.queueFree 0 wQueueItems11 ∧
         (wQueueItems11.queue 0).faulted = false ∧
           ((prodState wQueueItems11 0).fst + 2 ^ 32 - commitSeq (wCw 3 8)) % 2 ^ 32 = 0 ∧
             1 ≤ commitLen (wCw 3 8) ∧
               commitLen (wCw 3 8) ≤ 16384 ∧
                 tget wQueueItems11.qu.opens 0 = some wOpn ∧
                   ((List.range ((commitLen (wCw 3 8) + 7) / 8)).all fun i => (tget wOpn.words i).isSome) = true ∧
                     wOpn.badWrite = false ∧
                       wOpn.noRoom = false ∧
                         (Option.map (fun x => x.limit) (qcfg? wQueueItems11 0)).getD 0 <
                             (wQueueItems11.queue 0).cells + cellsFor (commitLen (wCw 3 8)) ∧
                           (wQueueItems11.queue 0).gapState = 2) ∧
    (producerPage 0 0 0 0 (wCm wOpn (wQl (wLst 0 0))) ∧
       State.queueFree 0 (wCm wOpn (wQl (wLst 0 0))) ∧
         ((wCm wOpn (wQl (wLst 0 0))).queue 0).faulted = false ∧
           ((prodState (wCm wOpn (wQl (wLst 0 0))) 0).fst + 2 ^ 32 - commitSeq (wCw 3 8)) % 2 ^ 32 = 0 ∧
             1 ≤ commitLen (wCw 3 8) ∧
               commitLen (wCw 3 8) ≤ 16384 ∧
                 tget (wCm wOpn (wQl (wLst 0 0))).qu.opens 0 = some wOpn ∧
                   ((List.range ((commitLen (wCw 3 8) + 7) / 8)).all fun i => (tget wOpn.words i).isSome) = true ∧
                     wOpn.badWrite = false ∧
                       wOpn.noRoom = false ∧
                         ((wCm wOpn (wQl (wLst 0 0))).queue 0).cells + cellsFor (commitLen (wCw 3 8)) ≤
                           (Option.map (fun x => x.limit) (qcfg? (wCm wOpn (wQl (wLst 0 0))) 0)).getD 0) ∧
    (State.queuePort 0 wCells ∧
       wCells.qu.waits = [] ∧
         tget wCells.qu.opens 0 = some wQueueItems13 ∧
           tget wCells.qu.busy 0 = some { act := QAct.cells, op := QOp.commit 0 (wCw 3 7) none, dest := QTo.host 0 8 9 0 8 77 }) ∧
    (Option.map (fun x => x.queue) (pcfg? (wCm wOpn newQueue) 0) = some 0 ∧
       State.queueFree 0 (wCm wOpn newQueue) ∧ tget (wCm wOpn newQueue).qu.opens 0 = some wOpn) := by
  refine ⟨?_, ?_, ?_, ?_, ?_, ?_, ?_, ?_, ?_, ?_, ?_, ?_, ?_, ?_, ?_, ?_⟩ <;> decide +kernel

theorem wit_QueueConsumers :
    (consumerPage 0 0 0 wQueueConsumers0 ∧
       State.queueFree 0 wQueueConsumers0 ∧
         (wQueueConsumers0.queue 0).faulted = false ∧
           (wQueueConsumers0.queue 0).cur = none ∧
             (wQueueConsumers0.queue 0).firstList = some 1 ∧
               (wQueueConsumers0.queue 0).unread 1 = some (wItm 300000) ∧ (wItm 300000).poison = [] ∧ 0 < 2048) ∧
    (consumerPage 0 0 0 (wQ (wQl (wLst 0 0))) ∧
       State.queueFree 0 (wQ (wQl (wLst 0 0))) ∧
         ((wQ (wQl (wLst 0 0))).queue 0).faulted = false ∧
           ((wQ (wQl (wLst 0 0))).queue 0).cur = none ∧
             ((wQ (wQl (wLst 0 0))).queue 0).firstList = some 1 ∧
               ((wQ (wQl (wLst 0 0))).queue 0).unread 1 = some (wItm 300000) ∧ (wItm 300000).poison = [] ∧ 2047 < 2048) ∧
    (consumerPage 0 0 0 wQueueConsumers1 ∧
       State.queueFree 0 wQueueConsumers1 ∧
         (wQueueConsumers1.queue 0).faulted = false ∧
           (wQueueConsumers1.queue 0).cur = some 1 ∧ (wQueueConsumers1.queue 0).unread 1 = some (wItm 300001)) ∧
    (consumerPage 0 0 0 (wQ (wQl (wLst 2 0))) ∧
       State.queueFree 0 (wQ (wQl (wLst 2 0))) ∧
         ((wQ (wQl (wLst 2 0))).queue 0).faulted = false ∧
           ((wQ (wQl (wLst 2 0))).queue 0).cur = none ∧ ((wQ (wQl (wLst 2 0))).queue 0).firstList = none) ∧
    (consumerPage 0 0 0 (wQ (wQl (wLst 0 0))) ∧
       State.queueFree 0 (wQ (wQl (wLst 0 0))) ∧
         ((wQ (wQl (wLst 0 0))).queue 0).faulted = false ∧
           ((wQ (wQl (wLst 0 0))).queue 0).cur = none ∧
             ((wQ (wQl (wLst 0 0))).queue 0).firstList = some 1 ∧ ((wQ (wQl (wLst 0 0))).queue 0).unread 1 = some (wItm 300000)) ∧
    (consumerPage 0 0 0 wQueueConsumers3 ∧
       State.queueFree 0 wQueueConsumers3 ∧
         (wQueueConsumers3.queue 0).faulted = false ∧
           (wQueueConsumers3.queue 0).cur = none ∧
             (wQueueConsumers3.queue 0).firstList = some 1 ∧ (wQueueConsumers3.queue 0).unread 1 = some wGap) ∧
    (consumerPage 0 0 0 (wQ (wQl (wLst 2 1))) ∧
       State.queueFree 0 (wQ (wQl (wLst 2 1))) ∧ ((wQ (wQl (wLst 2 1))).queue 0).faulted = false) ∧
    (consumerPage 0 0 0 wQueueConsumers6 ∧
       State.queueFree 0 wQueueConsumers6 ∧
         (wQueueConsumers6.queue 0).faulted = false ∧
           tsorted (wQueueConsumers6.queue 0).lists = true ∧
             (List.all (wQueueConsumers6.queue 0).lists fun l => (List.take l.snd.rd l.snd.items).all fun i => !i.gap) = true ∧
               (wQueueConsumers6.queue 0).dropsHeld = 0) ∧
    (consumerPage 0 0 0 wQueueConsumers7 ∧
       State.queueFree 0 wQueueConsumers7 ∧
         (wQueueConsumers7.queue 0).faulted = false ∧
           (wQueueConsumers7.queue 0).lists = [(1, wGaps 1)] ∧
             (List.take (wGaps 1).rd (wGaps 1).items).any QItem.gap = true ∧
               (wQueueConsumers7.queue 0).dropsHeld ≠ 0 ∧ (wQueueConsumers7.queue 0).gapPrio ≠ 1) ∧
    (State.queueFree 0 wQueueConsumers8 ∧
       (wQueueConsumers8.queue 0).faulted = false ∧
         tsorted (wQueueConsumers8.queue 0).lists = true ∧
           (wQueueConsumers8.queue 0).lease = some 900 ∧
             (List.all (wQueueConsumers8.queue 0).lists fun l => (List.take l.snd.rd l.snd.items).all fun i => !i.gap) = true ∧
               (wQueueConsumers8.queue 0).dropsHeld = 0 ∧
                 (List.all (wQueueConsumers8.queue 0).lists fun l => decide (l.snd.mkd ≤ l.snd.rd)) = true ∧
                   qcfg? wQueueConsumers8 0 = some ((qcfg? (wQ newQueue) 0).getD (qcfgOf [])) ∧
                     ((qcfg? (wQ newQueue) 0).getD (qcfgOf [])).noticeEn = false) ∧
    (State.queueFree 0 wQueueConsumers9 ∧
       (wQueueConsumers9.queue 0).staleAt = some 900 ∧
         qcfg? wQueueConsumers9 0 = some ((qcfg? (wQ newQueue) 0).getD (qcfgOf [])) ∧
           ((qcfg? (wQ newQueue) 0).getD (qcfgOf [])).noticeEn = false) ∧
    (State.queueFree 3 wQueueConsumers10 ∧
       State.queueFree 0 wQueueConsumers10 ∧
         (wQueueConsumers10.queue 3).staleAt = some 900 ∧
           qcfg? wQueueConsumers10 3 = some ((qcfg? (wQ newQueue) 3).getD (qcfgOf [])) ∧
             ((qcfg? (wQ newQueue) 3).getD (qcfgOf [])).noticeEn = true ∧
               wQueueConsumers10.assist 7 = false ∧
                 ((qcfg? (wQ newQueue) 3).getD (qcfgOf [])).noticeQ = 0 ∧
                   0 ≠ 3 ∧
                     qcfg? wQueueConsumers10 0 = some ((qcfg? (wQ newQueue) 0).getD (qcfgOf [])) ∧
                       (wQueueConsumers10.queue 0).cells + 1 ≤ ((qcfg? (wQ newQueue) 0).getD (qcfgOf [])).limit ∧
                         freeCells wQueueConsumers10 ≠ 0 ∧ (wQueueConsumers10.queue 0).faulted = false) ∧
    (State.queueFree 3 wQueueConsumers11 ∧
       (wQueueConsumers11.queue 3).staleAt = some 900 ∧
         qcfg? wQueueConsumers11 3 = some ((qcfg? (wQ newQueue) 3).getD (qcfgOf [])) ∧
           ((qcfg? (wQ newQueue) 3).getD (qcfgOf [])).noticeEn = true ∧
             wQueueConsumers11.assist 7 = true ∧ wQueueConsumers11.qu.notices.length < 256) ∧
    (consumerPage 0 0 0 wQueueConsumers12a ∧
       queueServed wQueueConsumers12a 0 = some false ∧
         wQueueConsumers12a.qu.waits = [] ∧ tget wQueueConsumers12a.qu.busy 0 = some wQueueConsumers12) ∧
    (State.queuePort 0 (wQ newQueue) ∧ 7 < 65536 ∧ queueOfPage (wQ newQueue) (portHost (wQ newQueue) 0) 7 = none) ∧
    (consumerPage 0 1 1 wQueueConsumers14 ∧ queueServed wQueueConsumers14 1 = none) := by
  refine ⟨?_, ?_, ?_, ?_, ?_, ?_, ?_, ?_, ?_, ?_, ?_, ?_, ?_, ?_, ?_, ?_⟩ <;> decide +kernel

theorem wit_QueueHomesAndRounds :
    (consumerPage 0 1 1 wQueueHomesAndRounds0 ∧
       queueServed wQueueHomesAndRounds0 1 = some false ∧
         queueMirrored wQueueHomesAndRounds0 1 = true ∧
           queueHeld wQueueHomesAndRounds0 1 = false ∧
             wQueueHomesAndRounds0.qu.busy = [] ∧
               wQueueHomesAndRounds0.qu.waits = [] ∧
                 (wQueueHomesAndRounds0.queue 1).faulted = false ∧ (wQueueHomesAndRounds0.queue 1).cur = some 1) ∧
    (consumerPage 0 1 1 (wPairQ false newQUnit) ∧ queueServed (wPairQ false newQUnit) 1 = some true) ∧
    ((wPairQ false (wQn 1 (wQl (wLst 0 0)))).mode.carries = true ∧
       mirrorOn (wPairQ false (wQn 1 (wQl (wLst 0 0)))) = true ∧
         ((wPairQ false (wQn 1 (wQl (wLst 0 0)))).queue 1).lists = [(1, wLst 0 0)] ∧ (wLst 0 0).rd < (wLst 0 0).items.length) ∧
    (wQueueHomesAndRounds3.mode.carries = true ∧
       mirrorOn wQueueHomesAndRounds3 = true ∧
         0 < deviceBind ∧
           1 ≤ commitLen (wCw 3 232) ∧ commitLen (wCw 3 232) ≤ 232 ∧ wQueueHomesAndRounds3.qu.freed = [300005, 300006]) ∧
    (writeServed (Path.bar2 0) Reg.qReset (setBit (0#64) 63) wQueueHomesAndRounds4 ∧
       State.queueFree (fld (0#64) 17 0) wQueueHomesAndRounds4 ∧
         wQueueHomesAndRounds4.rb Reg.qReset 63 = false ∧ wQueueHomesAndRounds4.qu.opens = []) ∧
    (wQueueHomesAndRounds5.mode.carries = true ∧
       wQueueHomesAndRounds5.qu.waits = [] ∧
         tget wQueueHomesAndRounds5.qu.busy (wQueueHomesAndRounds5.rf Reg.qReset 17 0) = some wQueueConsumers12 ∧
           wQueueConsumers12.act = QAct.reset) ∧
    (wQueueHomesAndRounds6a.mode.carries = true ∧
       tget wQueueHomesAndRounds6a.qu.rounds 2 = some wQueueHomesAndRounds6 ∧ (wQueueHomesAndRounds6a.queue 2).lease = some 5) ∧
    (wDisp.mode.carries = true ∧
       0 < 16 ∧
         clusterGone wDisp 0 = false ∧
           wDisp.tabs.dispatch = [2] ∧
             dispatchable wDisp 0 2 = true ∧ (List.map (fun x => x + 8 * 0) (List.range 8)).any (engFree wDisp) = true) ∧
    (State.queueFree 2 (wAsked (wQl (wLst 0 0))) ∧
       (wAsked (wQl (wLst 0 0))).mill.selections = [(1, 2), (3, 2)] ∧
         ((wAsked (wQl (wLst 0 0))).eng 1).job = some (askedJob 2 6) ∧
           (askedJob 2 6).step = JobStep.selecting ∧
             ((wAsked (wQl (wLst 0 0))).queue 2).faulted = false ∧
               ((wAsked (wQl (wLst 0 0))).queue 2).cur = none ∧
                 ((wAsked (wQl (wLst 0 0))).queue 2).firstList = some 1 ∧
                   ((wAsked (wQl (wLst 0 0))).queue 2).unread 1 = some (wItm 300000) ∧
                     tget (wAsked (wQl (wLst 0 0))).qu.rounds 2 = none ∧ (wAsked (wQl (wLst 0 0))).mill.answers = []) ∧
    (State.queueFree 2 (wAsked newQueue) ∧
       (wAsked newQueue).mill.selections = [(1, 2), (3, 2)] ∧
         ((wAsked newQueue).eng 1).job = some (askedJob 2 6) ∧
           (askedJob 2 6).step = JobStep.selecting ∧
             ((wAsked newQueue).queue 2).faulted = false ∧
               ((wAsked newQueue).queue 2).cur = none ∧
                 ((wAsked newQueue).queue 2).firstList = none ∧ (wAsked newQueue).mill.answers = []) := by
  refine ⟨?_, ?_, ?_, ?_, ?_, ?_, ?_, ?_, ?_, ?_⟩ <;> decide +kernel

theorem wit_EngineEvents :
    (itemHere 0 wSelJob (1#64) (2#64) (wDescr 1) wDCw 0 true (wItemHere 1 true) ∧
       ((wItemHere 1 true).eng 0).sb = [] ∧
         tget ((wItemHere 1 true).eng 0).acc accRunning = none ∧
           (jobOfItem (wItemHere 1 true) wSelJob.queue 0 wSelJob.ask wDCw (wDescr 1)).compOk = true ∧
             descOk (wItemHere 1 true) 0 (jobOfItem (wItemHere 1 true) wSelJob.queue 0 wSelJob.ask wDCw (wDescr 1)) wDCw
                 (wDescr 1) true =
               false) ∧
    (itemHere 0 wSelJob (1#64) (2#64) (wDescr 5) wDCw 0 false (wItemHere 5 false) ∧
       ((wItemHere 5 false).eng 0).sb = [] ∧
         tget ((wItemHere 5 false).eng 0).acc accRunning = none ∧
           descOk (wItemHere 5 false) 0 (jobOfItem (wItemHere 5 false) wSelJob.queue 0 wSelJob.ask wDCw (wDescr 5)) wDCw
                 (wDescr 5) false =
               true ∧
             versionFor (wItemHere 5 false) (jobOfItem (wItemHere 5 false) wSelJob.queue 0 wSelJob.ask wDCw (wDescr 5)).program
                 (jobOfItem (wItemHere 5 false) wSelJob.queue 0 wSelJob.ask wDCw (wDescr 5)).version =
               none) ∧
    (itemHere 0 wSelJob (1#64) (2#64) (wDescr 1) wDCw 0 false (wAssist8 (wItemHere 1 false)) ∧
       descOk (wAssist8 (wItemHere 1 false)) 0
             (jobOfItem (wAssist8 (wItemHere 1 false)) wSelJob.queue 0 wSelJob.ask wDCw (wDescr 1)) wDCw (wDescr 1) false =
           true ∧
         (versionFor (wAssist8 (wItemHere 1 false))
                 (jobOfItem (wAssist8 (wItemHere 1 false)) wSelJob.queue 0 wSelJob.ask wDCw (wDescr 1)).program
                 (jobOfItem (wAssist8 (wItemHere 1 false)) wSelJob.queue 0 wSelJob.ask wDCw (wDescr 1)).version).isSome =
             true ∧
           (wAssist8 (wItemHere 1 false)).assist 8 = true ∧
             ((wAssist8 (wItemHere 1 false)).mill.windows.any fun w =>
                 w.half == wSelJob.queue % 2 && w.tag == (wAssist8 (wItemHere 1 false)).mill.tag % 256) =
               false) ∧
    (itemHere 0 wSelJob (1#64) (2#64) (wDescr 1) wDCw 0 false (wItemHere 1 false) ∧
       descOk (wItemHere 1 false) 0 (jobOfItem (wItemHere 1 false) wSelJob.queue 0 wSelJob.ask wDCw (wDescr 1)) wDCw (wDescr 1)
             false =
           true ∧
         versionFor (wItemHere 1 false) (jobOfItem (wItemHere 1 false) wSelJob.queue 0 wSelJob.ask wDCw (wDescr 1)).program
               (jobOfItem (wItemHere 1 false) wSelJob.queue 0 wSelJob.ask wDCw (wDescr 1)).version =
             some (wVersion [3690987520, 3690987520]) ∧
           (wItemHere 1 false).assist 8 = false ∧ (wItemHere 1 false).mill.holds = []) ∧
    (jobAt 0 wSelJob JobStep.selecting wEngineEvents4a ∧
       clusterGone wEngineEvents4a (0 / 8) = false ∧
         wEngineEvents4a.mill.answers = [(wSelJob.ask, QAns.item (1#64) (2#64) (wDescr 1) wDCw 0 true false)] ∧
           tget wEngineEvents4a.qu.rounds wSelJob.queue = some wEngineEvents4 ∧ wEngineEvents4.ended + 1 ≠ wEngineEvents4.count) ∧
    (wDeciding.mill.windows = [wWindow] ∧
       jobAt wWindow.eng (wJobAt JobStep.deciding) JobStep.deciding wDeciding ∧
         versionFor wDeciding (wJobAt JobStep.deciding).program (wJobAt JobStep.deciding).version =
             some (wVersion [3690987520, 3690987520]) ∧
           ((jobStreams (wJobAt JobStep.deciding)).all fun q => (tget wDeciding.mill.holds q).isNone) = true) ∧
    (0 < 2 ∧
       writeServed (Path.bar2 0) (Reg.dispatchResp 0) (mkFld 63 62 3 ||| mkFld 55 48 9) wDeciding ∧
         wDeciding.mill.windows = [wWindow] ∧
           wWindow.half = 0 ∧
             wWindow.tag = fld (mkFld 63 62 3 ||| mkFld 55 48 9) 55 48 ∧
               bitAt (mkFld 63 62 3 ||| mkFld 55 48 9) 63 = true ∧
                 bitAt (mkFld 63 62 3 ||| mkFld 55 48 9) 62 = true ∧
                   jobAt wWindow.eng (wJobAt JobStep.deciding) JobStep.deciding wDeciding ∧
                     (wJobAt JobStep.deciding).compOk = true ∧
                       (wDeciding.eng wWindow.eng).sb = [] ∧ tget (wDeciding.eng wWindow.eng).acc accRunning = none) ∧
    (0 < 2 ∧
       writeServed (Path.bar2 0) (Reg.dispatchResp 0) (mkFld 63 63 1 ||| mkFld 55 48 9 ||| 3#64) wDeciding ∧
         wDeciding.mill.windows = [wWindow] ∧
           wWindow.half = 0 ∧
             wWindow.tag = fld (mkFld 63 63 1 ||| mkFld 55 48 9 ||| 3#64) 55 48 ∧
               bitAt (mkFld 63 63 1 ||| mkFld 55 48 9 ||| 3#64) 63 = true ∧
                 bitAt (mkFld 63 63 1 ||| mkFld 55 48 9 ||| 3#64) 62 = false ∧
                   jobAt wWindow.eng (wJobAt JobStep.deciding) JobStep.deciding wDeciding ∧
                     fld (mkFld 63 63 1 ||| mkFld 55 48 9 ||| 3#64) 6 0 ≠ wWindow.eng ∧
                       mayMove wDeciding wWindow.eng (fld (mkFld 63 63 1 ||| mkFld 55 48 9 ||| 3#64) 6 0) = true ∧
                         versionFor wDeciding (wJobAt JobStep.deciding).program (wJobAt JobStep.deciding).version =
                             some (wVersion [3690987520, 3690987520]) ∧
                           ((jobStreams (wJobAt JobStep.deciding)).all fun q => (tget wDeciding.mill.holds q).isNone) = true) ∧
    (jobAt 0 (wJobAt JobStep.holds) JobStep.holds (wMill (wStarting JobStep.holds)) ∧
       ((jobStreams (wJobAt JobStep.holds)).all fun q => (tget (wMill (wStarting JobStep.holds)).mill.holds q).isNone) = true) ∧
    (jobAt 0 (wJobAt JobStep.probe) JobStep.probe (wGot (wStarting JobStep.probe) accProbe none (BitVec.ofNat 512 (2 ^ 63 + 3))) ∧
       accAnswer (wGot (wStarting JobStep.probe) accProbe none (BitVec.ofNat 512 (2 ^ 63 + 3))) 0 accProbe =
           some (none, BitVec.ofNat 512 (2 ^ 63 + 3), false) ∧
         bitAt (recordWord (wJobAt JobStep.probe) (BitVec.ofNat 512 (2 ^ 63 + 3))) 63 = true ∧
           fld (recordWord (wJobAt JobStep.probe) (BitVec.ofNat 512 (2 ^ 63 + 3))) 49 32 = (wJobAt JobStep.probe).prod ∧
             fld (recordWord (wJobAt JobStep.probe) (BitVec.ofNat 512 (2 ^ 63 + 3))) 31 0 = (wJobAt JobStep.probe).seq ∧
               tget (wGot (wStarting JobStep.probe) accProbe none (BitVec.ofNat 512 (2 ^ 63 + 3))).qu.rounds
                   (wJobAt JobStep.probe).queue =
                 none) ∧
    (jobAt 0 (wJobAt JobStep.probe) JobStep.probe (wGot (wStarting JobStep.probe) accProbe none 3#512) ∧
       accAnswer (wGot (wStarting JobStep.probe) accProbe none 3#512) 0 accProbe = some (okAnswer.kind, 3#512, false) ∧
         (okAnswer.kind ≠ none ∨ bitAt (recordWord (wJobAt JobStep.probe) 3#512) 63 = false)) ∧
    (jobAt 0 (wJobAt JobStep.probe) JobStep.probe (wGot (wStarting JobStep.probe) accProbe (some ErrKind.offline) 0#512) ∧
       accAnswer (wGot (wStarting JobStep.probe) accProbe (some ErrKind.offline) 0#512) 0 accProbe =
           some (some ErrKind.offline, 0#512, false) ∧
         (some ErrKind.offline ≠ none ∨ bitAt (recordWord (wJobAt JobStep.probe) 0#512) 63 = false)) ∧
    (jobAt 0 wEngineEvents11 JobStep.start wEngineEvents11a ∧
       accAnswer wEngineEvents11a 0 accRunning = some (none, 0#512, false) ∧
         wEngineEvents11.keepBench = false ∧ wEngineEvents11.args.length = 8) ∧
    (jobAt 0 (wJobAt JobStep.record) JobStep.record (wGot (wHas JobStep.record) accRecord none 0#512) ∧
       accAnswer (wGot (wHas JobStep.record) accRecord none 0#512) 0 accRecord = some (none, 0#512, false)) ∧
    (jobAt 0 wEngineEvents13 JobStep.valid wEngineEvents13a ∧
       accAnswer wEngineEvents13a 0 accValid = some (none, 0#512, false) ∧
         tget wEngineEvents13a.qu.rounds wEngineEvents13.queue = none ∧ wEngineEvents13a.mill.holds = [] ∧ 0 < 128) ∧
    (jobAt 0 (wJobAt JobStep.valid) JobStep.valid wEngineEvents14 ∧
       accAnswer wEngineEvents14 0 accValid = some (none, 0#512, false) ∧
         wEngineEvents14.mill.holds = [] ∧
           State.queueFree (wJobAt JobStep.valid).queue wEngineEvents14 ∧
             tget wEngineEvents14.qu.rounds (wJobAt JobStep.valid).queue = some wQueueHomesAndRounds6 ∧
               wQueueHomesAndRounds6.ended + 1 = wQueueHomesAndRounds6.count ∧
                 wQueueHomesAndRounds6.rewind = false ∧
                   (wEngineEvents14.queue (wJobAt JobStep.valid).queue).faulted = false ∧
                     (wEngineEvents14.queue (wJobAt JobStep.valid).queue).lists = [(0, wLst 1 0)] ∧
                       (wLst 1 0).items.any QItem.gap = false ∧ (wEngineEvents14.queue (wJobAt JobStep.valid).queue).dropsHeld = 0) ∧
    (jobRuns 0 (wJobAt JobStep.running) (wMill wRun) ∧
       ((wMill wRun).eng 0).st = 2 ∧
         (wJobAt JobStep.running).wdogFired = false ∧
           ((wMill wRun).eng 0).flights = [] ∧
             ((wMill wRun).eng 0).sb = [] ∧
               ((wMill wRun).eng 0).wait = EngWait.none ∧
                 ((wMill wRun).eng 0).arch.slot = none ∧
                   ((wMill wRun).eng 0).arch.hnd = false ∧ stackOk (BitVec.toNat (((wMill wRun).eng 0).arch.gr 31)) 262144 = true) ∧
    (jobRuns 0 wEngineEvents16 wEngineEvents16a ∧
       (wEngineEvents16a.eng 0).st = 2 ∧
         wEngineEvents16.grace = some 500 ∧
           wEngineEvents16.compOk = true ∧
             (wEngineEvents16a.eng 0).flights = [] ∧
               (wEngineEvents16a.eng 0).sb = [] ∧ tget (wEngineEvents16a.eng 0).acc accRunning = none) ∧
    (0 < 128 ∧
       writeServed (Path.bar2 0) (Reg.engCtl 0) (keepSet (Reg.engCtl 0) (4#64) (wMill (wStarting JobStep.probe)))
           (wMill (wStarting JobStep.probe)) ∧
         jobAt 0 (wJobAt JobStep.probe) JobStep.probe (wMill (wStarting JobStep.probe)) ∧
           ((wMill (wStarting JobStep.probe)).eng 0).st = 1 ∧
             (wJobAt JobStep.probe).compOk = true ∧
               ((wMill (wStarting JobStep.probe)).eng 0).sb = [] ∧
                 tget ((wMill (wStarting JobStep.probe)).eng 0).acc accRunning = none ∧
                   ((wMill (wStarting JobStep.probe)).eng 0).flights = []) ∧
    (0 < 128 ∧
       writeServed (Path.bar2 0) (Reg.engCtl 0) (keepSet (Reg.engCtl 0) (4#64) (wMill wRun)) (wMill wRun) ∧
         jobRuns 0 (wJobAt JobStep.running) (wMill wRun) ∧
           ((wMill wRun).eng 0).st = 2 ∧
             (wJobAt JobStep.running).compOk = true ∧
               ((wMill wRun).eng 0).sb = [] ∧
                 tget ((wMill wRun).eng 0).acc accRunning = none ∧
                   ((wMill wRun).eng 0).flights = [] ∧
                     ((wMill wRun).eng 0).wait = EngWait.none ∧ ((wMill wRun).eng 0).arch.slot = none) ∧
    ((wMill wHalted).mode.carries = true ∧ ((wMill wHalted).eng 0).st = 3 ∧ ((wMill wHalted).eng 0).resume = false) ∧
    (0 < 128 ∧
       writeServed (Path.bar2 0) (Reg.shCtl 0) (keepSet (Reg.shCtl 0) (1#64) wEngineEvents20) wEngineEvents20 ∧
         wEngineEvents20.mode.carries = true ∧
           (wEngineEvents20.eng 0).st = 3 ∧ bitAt (wEngineEvents20.eng 0).shadow.info 62 = true) ∧
    (jobRuns 0 (wJobAt JobStep.running) wEngineEvents21 ∧ (wEngineEvents21.eng 0).wait = EngWait.fetch 1) ∧
    (jobRuns 0 (wJobAt JobStep.running) wEngineEvents22 ∧
       wFlight.id < 16 ∧
         (wEngineEvents22.eng 0).flights = [wFlight] ∧
           wFlight.kind = some LoadK.w ∧
             tget (wEngineEvents22.eng 0).acc wFlight.id = some (wAcc0 none) ∧
               (wAcc0 none).dropped = false ∧
                 accAnswer wEngineEvents22 0 wFlight.id = some (none, BitVec.ofNat 512 (2147483649 * 2 ^ 64), false)) ∧
    (jobRuns 0 (wJobAt JobStep.running) wEngineEvents23 ∧
       wFlight.id < 16 ∧
         (wEngineEvents23.eng 0).flights = [wFlight] ∧
           tget (wEngineEvents23.eng 0).acc wFlight.id = some (wAcc0 none) ∧
             (wAcc0 none).dropped = false ∧
               accAnswer wEngineEvents23 0 wFlight.id = some (some ErrKind.violation, 0#512, false) ∧
                 ((some ErrKind.violation).isSome || false) = true ∧
                   (wEngineEvents23.eng 0).sb = [] ∧
                     (wEngineEvents23.eng 0).wait = EngWait.none ∧
                       wFlight.before.slot = none ∧
                         wFlight.before.hnd = false ∧ stackOk (BitVec.toNat (wFlight.before.gr 31)) 262144 = true) ∧
    (wEngineEvents24.mode.carries = true ∧
       (wEngineEvents24.eng 0).sb = [wSb] ∧ wSb.issued = false ∧ tget (wEngineEvents24.eng 0).acc wSb.id = none) ∧
    (wEngineEvents24b.mode.carries = true ∧
       (wEngineEvents24b.eng 0).sb = [wEngineEvents24a] ∧
         wEngineEvents24a.issued = false ∧ tget (wEngineEvents24b.eng 0).acc wEngineEvents24a.id = none) ∧
    (jobRuns 0 (wJobAt JobStep.running) wEngineEvents25a ∧
       (wEngineEvents25a.eng 0).sb = [wEngineEvents25] ∧
         wEngineEvents25.device = false ∧
           (wEngineEvents25a.eng 0).wait = EngWait.none ∧
             accAnswer wEngineEvents25a 0 wEngineEvents25.id = some (none, 0#512, false)) ∧
    (jobRuns 0 (wJobAt JobStep.running) wEngineEvents26 ∧
       (wEngineEvents26.eng 0).sb = [wEngineEvents25] ∧
         wEngineEvents25.device = false ∧
           (wEngineEvents26.eng 0).wait = EngWait.none ∧
             (wEngineEvents26.eng 0).flights = [] ∧
               (wEngineEvents26.eng 0).arch.slot = none ∧
                 (wJobAt JobStep.running).compOk = true ∧
                   tget (wEngineEvents26.eng 0).acc accRunning = none ∧
                     accAnswer wEngineEvents26 0 wEngineEvents25.id = some (some ErrKind.offline, 0#512, false)) ∧
    (jobRuns 0 (wJobAt JobStep.running) wEngineEvents27 ∧ (wEngineEvents27.eng 0).wait = EngWait.sleep 900) ∧
    (jobRuns 0 (wJobAt JobStep.running) wEngineEvents28 ∧
       (wEngineEvents28.eng 0).wait = EngWait.queue 6 (some 5) none 1 ∧ wEngineEvents28.mill.answers = [(6, QAns.value 9#64)]) ∧
    (jobRuns 0 (wJobAt JobStep.running) wEngineEvents29 ∧
       (wEngineEvents29.eng 0).wait = EngWait.queue 6 (some 5) (some 64) 2 ∧
         wEngineEvents29.mill.answers = [(6, QAns.item 1#64 2#64 [5#64, 6#64] (wCw 3 16) 0 false false)]) ∧
    (jobRuns 0 (wJobAt JobStep.running) wEngineEvents30 ∧
       (wEngineEvents30.eng 0).wait = EngWait.queue 6 (some 5) none 2 ∧
         wEngineEvents30.mill.answers = [(6, QAns.error ErrKind.violation)] ∧
           (wEngineEvents30.eng 0).flights = [] ∧
             (wEngineEvents30.eng 0).sb = [] ∧
               (wEngineEvents30.eng 0).arch.slot = none ∧
                 (wEngineEvents30.eng 0).arch.hnd = false ∧
                   stackOk (BitVec.toNat ((wEngineEvents30.eng 0).arch.gr 31)) 262144 = true) := by
  refine ⟨?_, ?_, ?_, ?_, ?_, ?_, ?_, ?_, ?_, ?_, ?_, ?_, ?_, ?_, ?_, ?_, ?_, ?_, ?_, ?_, ?_, ?_, ?_, ?_, ?_, ?_, ?_, ?_, ?_, ?_, ?_, ?_, ?_⟩ <;> decide +kernel

theorem wit_PairEvents :
    (wPairEvents0.pair.present = true ∧
       (wPairEvents0.pair.state = PairState.waiting ∨ wPairEvents0.pair.state = PairState.linkLost) ∧
         twinUp wPairEvents0 ≠ [] ∧
           ((wForm 4 0 (0#384) 0 0).pairId ≠ wPairEvents0.pair.pairId ∧ 1 = 1 ∨
             (wForm 4 0 (0#384) 0 0).pairId = wPairEvents0.pair.pairId ∧
                 (wForm 4 0 (0#384) 0 0).member = wPairEvents0.pair.member ∧ 1 = 2 ∨
               (wForm 4 0 (0#384) 0 0).pairId = wPairEvents0.pair.pairId ∧
                   (wForm 4 0 (0#384) 0 0).member ≠ wPairEvents0.pair.member ∧
                     (wForm 4 0 (0#384) 0 0).digest ≠ wPairEvents0.pair.digest ∧ 1 = 3 ∨
                 (wForm 4 0 (0#384) 0 0).pairId = wPairEvents0.pair.pairId ∧
                   (wForm 4 0 (0#384) 0 0).member ≠ wPairEvents0.pair.member ∧
                     (wForm 4 0 (0#384) 0 0).digest = wPairEvents0.pair.digest ∧
                       ((List.range 2).any fun k =>
                             wPairEvents0.pair.claimed.getD k false && (wForm 4 0 (0#384) 0 0).claims.testBit k) =
                           true ∧
                         1 = 4)) ∧
    (wPairEvents0a.pair.present = true ∧
       (wPairEvents0a.pair.state = PairState.waiting ∨ wPairEvents0a.pair.state = PairState.linkLost) ∧
         twinUp wPairEvents0a ≠ [] ∧
           ((wForm 5 1 (0#384) 0 0).pairId ≠ wPairEvents0a.pair.pairId ∧ 2 = 1 ∨
             (wForm 5 1 (0#384) 0 0).pairId = wPairEvents0a.pair.pairId ∧
                 (wForm 5 1 (0#384) 0 0).member = wPairEvents0a.pair.member ∧ 2 = 2 ∨
               (wForm 5 1 (0#384) 0 0).pairId = wPairEvents0a.pair.pairId ∧
                   (wForm 5 1 (0#384) 0 0).member ≠ wPairEvents0a.pair.member ∧
                     (wForm 5 1 (0#384) 0 0).digest ≠ wPairEvents0a.pair.digest ∧ 2 = 3 ∨
                 (wForm 5 1 (0#384) 0 0).pairId = wPairEvents0a.pair.pairId ∧
                   (wForm 5 1 (0#384) 0 0).member ≠ wPairEvents0a.pair.member ∧
                     (wForm 5 1 (0#384) 0 0).digest = wPairEvents0a.pair.digest ∧
                       ((List.range 2).any fun k =>
                             wPairEvents0a.pair.claimed.getD k false && (wForm 5 1 (0#384) 0 0).claims.testBit k) =
                           true ∧
                         2 = 4)) ∧
    (wPairEvents0.pair.present = true ∧
       (wPairEvents0.pair.state = PairState.waiting ∨ wPairEvents0.pair.state = PairState.linkLost) ∧
         twinUp wPairEvents0 ≠ [] ∧
           ((wForm 5 0 (1#384) 0 0).pairId ≠ wPairEvents0.pair.pairId ∧ 3 = 1 ∨
             (wForm 5 0 (1#384) 0 0).pairId = wPairEvents0.pair.pairId ∧
                 (wForm 5 0 (1#384) 0 0).member = wPairEvents0.pair.member ∧ 3 = 2 ∨
               (wForm 5 0 (1#384) 0 0).pairId = wPairEvents0.pair.pairId ∧
                   (wForm 5 0 (1#384) 0 0).member ≠ wPairEvents0.pair.member ∧
                     (wForm 5 0 (1#384) 0 0).digest ≠ wPairEvents0.pair.digest ∧ 3 = 3 ∨
                 (wForm 5 0 (1#384) 0 0).pairId = wPairEvents0.pair.pairId ∧
                   (wForm 5 0 (1#384) 0 0).member ≠ wPairEvents0.pair.member ∧
                     (wForm 5 0 (1#384) 0 0).digest = wPairEvents0.pair.digest ∧
                       ((List.range 2).any fun k =>
                             wPairEvents0.pair.claimed.getD k false && (wForm 5 0 (1#384) 0 0).claims.testBit k) =
                           true ∧
                         3 = 4)) ∧
    (wPairEvents0b.pair.present = true ∧
       (wPairEvents0b.pair.state = PairState.waiting ∨ wPairEvents0b.pair.state = PairState.linkLost) ∧
         twinUp wPairEvents0b ≠ [] ∧
           ((wForm 5 0 (0#384) 3 0).pairId ≠ wPairEvents0b.pair.pairId ∧ 4 = 1 ∨
             (wForm 5 0 (0#384) 3 0).pairId = wPairEvents0b.pair.pairId ∧
                 (wForm 5 0 (0#384) 3 0).member = wPairEvents0b.pair.member ∧ 4 = 2 ∨
               (wForm 5 0 (0#384) 3 0).pairId = wPairEvents0b.pair.pairId ∧
                   (wForm 5 0 (0#384) 3 0).member ≠ wPairEvents0b.pair.member ∧
                     (wForm 5 0 (0#384) 3 0).digest ≠ wPairEvents0b.pair.digest ∧ 4 = 3 ∨
                 (wForm 5 0 (0#384) 3 0).pairId = wPairEvents0b.pair.pairId ∧
                   (wForm 5 0 (0#384) 3 0).member ≠ wPairEvents0b.pair.member ∧
                     (wForm 5 0 (0#384) 3 0).digest = wPairEvents0b.pair.digest ∧
                       ((List.range 2).any fun k =>
                             wPairEvents0b.pair.claimed.getD k false && (wForm 5 0 (0#384) 3 0).claims.testBit k) =
                           true ∧
                         4 = 4)) ∧
    (wPairEvents1.pairIdle ∧
       (wPairEvents1.pair.state = PairState.waiting ∨ wPairEvents1.pair.state = PairState.linkLost) ∧
         twinUp wPairEvents1 ≠ [] ∧
           (wForm 5 0 (0#384) 0 0).pairId = wPairEvents1.pair.pairId ∧
             (wForm 5 0 (0#384) 0 0).member ≠ wPairEvents1.pair.member ∧
               (wForm 5 0 (0#384) 0 0).digest = wPairEvents1.pair.digest ∧
                 wPairEvents1.pair.claimed = [false, false] ∧
                   (wForm 5 0 (0#384) 0 0).claims = 0 ∧ wPairEvents1.mode = Mode.solo ∧ wPairEvents1.alm.degCauses = 0#4) ∧
    (wPairEvents2.pairIdle ∧
       wPairEvents2.pair.state = PairState.waiting ∧
         twinUp wPairEvents2 ≠ [] ∧
           (wForm 5 0 (0#384) 1 1).pairId = wPairEvents2.pair.pairId ∧
             wPairEvents2.pair.member = 1 ∧
               (wForm 5 0 (0#384) 1 1).member = 0 ∧
                 (wForm 5 0 (0#384) 1 1).digest = wPairEvents2.pair.digest ∧
                   wPairEvents2.pair.claimed = [false, false] ∧
                     (wForm 5 0 (0#384) 1 1).claims = 1 ∧ (wForm 5 0 (0#384) 1 1).stale = 1) ∧
    (wPairEvents3a.mode = Mode.solo ∧
       wPairEvents3a.pair.state = PairState.syncing ∧
         wPairEvents3a.pair.syncSet = some 1 ∧
           1 < 2 ∧
             wPairEvents3a.pair.holder = [1, 1] ∧ wPairEvents3a.pair.member = 1 ∧ wPairEvents3a.pair.peerStale = [true, true]) ∧
    (wPairEvents3b.mode = Mode.solo ∧
       wPairEvents3b.pair.state = PairState.syncing ∧
         wPairEvents3b.pair.syncSet = some 0 ∧
           0 < 2 ∧
             wPairEvents3b.pair.holder = [0, 0] ∧ wPairEvents3b.pair.member = 0 ∧ wPairEvents3b.pair.peerStale = [true, true]) ∧
    (wPairEvents4.mode = Mode.solo ∧
       wPairEvents4.alm.degCauses = 0#4 ∧
         wPairEvents4.pair.state = PairState.syncing ∧
           wPairEvents4.pair.syncSet = some 0 ∧
             0 < 2 ∧
               wPairEvents4.pair.holder = [1 - wPairEvents4.pair.member, 1 - wPairEvents4.pair.member] ∧
                 wPairEvents4.pair.member < 2 ∧
                   wPairEvents4.pair.copy = [CopyState.syncing, CopyState.syncing].set (1 - 0) CopyState.current ∧
                     lineSet wPairEvents4 wLine = some 0 ∧ setQueues wPairEvents4 0 = []) ∧
    (wPairEvents5.mode.carries = true ∧
       wPairEvents5.quiet ∧
         wPairEvents5.tick.running = true ∧
           followsPartner wPairEvents5 = true ∧
             wPairEvents5.tick.committing = false ∧
               wPairEvents5.tick.early = [] ∧
                 wPairEvents5.alm.armed = none ∧ wPairEvents5.alm.splitPending = none ∧ wPairEvents5.pair.takeTick = none) ∧
    (wPairEvents6.mode.carries = true ∧
       wPairEvents6.quiet ∧
         wPairEvents6.tick.running = true ∧
           followsPartner wPairEvents6 = true ∧
             wPairEvents6.tick.committing = false ∧
               wPairEvents6.alm.armed = none ∧ wPairEvents6.alm.splitPending = none ∧ wPairEvents6.pair.takeTick = some (8, 6)) ∧
    (State.queueFree 0 (wPairQ true (wQn 0 newQueue)) ∧
       mirrorOn (wPairQ true (wQn 0 newQueue)) = true ∧
         (wPairQ true (wQn 0 newQueue)).pair.waitUntil = none ∧
           (wPairQ true (wQn 0 newQueue)).bridge.waiting = [] ∧
             ((wPairQ true (wQn 0 newQueue)).queue 0).faulted = false ∧
               ((wPairQ true (wQn 0 newQueue)).queue 0).cur = none ∧ ((wPairQ true (wQn 0 newQueue)).queue 0).firstList = none) ∧
    (wPairEvents8.mode.carries = true ∧
       mirrorOn wPairEvents8 = true ∧
         wPairEvents8.pair.waitUntil = none ∧
           wPairEvents8.bridge.waiting = [] ∧
             canAlloc wPairEvents8 (2 * ((wPairEvents8.portsOf 5).headD 0 / 64)) Share.general 1 = false ∧
               canAlloc wPairEvents8 (2 * ((wPairEvents8.portsOf 5).headD 0 / 64) + 1) Share.general 1 = false) ∧
    ((wTwins Mode.paired wMem1).pair.present = true ∧ (wTwins Mode.paired wMem1).mode.beats = true) ∧
    ((wTwins Mode.paired wMem1).pair.present = true ∧ twinUp (wTwins Mode.paired wMem1) ≠ [] ∧ (wTwins Mode.paired wMem1).pairIdle) ∧
    (wPairEvents11.pair.present = true ∧ wPairEvents11.mode.beats = true ∧ wPairEvents11.pair.missRun < 3) ∧
    (wPairEvents12.pair.present = true ∧
       wPairEvents12.mode.beats = true ∧
         wPairEvents12.pair.missRun = 3 ∧
           (wPairEvents12.pair.state = PairState.formed ∨ wPairEvents12.pair.state = PairState.syncing) ∧
             wPairEvents12.pair.waitUntil = none ∧ wPairEvents12.pair.aliveIn = true ∧ wPairEvents12.pair.pinSuspect = false) ∧
    (wPairEvents13.pairIdle ∧
       wPairEvents13.mode = Mode.paired ∧
         wPairEvents13.pair.missRun = 3 ∧
           wPairEvents13.pair.state = PairState.formed ∧
             wPairEvents13.pair.waitUntil = none ∧
               wPairEvents13.pair.aliveIn = false ∧
                 wPairEvents13.pair.pinSuspect = false ∧
                   wPairEvents13.pair.member = 1 ∧
                     wPairEvents13.pair.holder = [0, 1] ∧ wPairEvents13.pair.copy.getD 0 CopyState.stale = CopyState.stale) ∧
    ((wTwins Mode.paired wMem1).pwr.auxGood = true ∧
       (wTwins Mode.paired wMem1).mode.loadToHalt = true ∧ (wTwins Mode.paired wMem1).mode ≠ Mode.halt) ∧
    (wPairEvents15.pwr.auxGood = true ∧ (wPairEvents15.mode.loadToHalt = false ∨ wPairEvents15.mode = Mode.halt)) ∧
    (wPairEvents16.pwr.auxGood = true ∧
       wPairEvents16.pair.present = true ∧
         wPairEvents16.pair.aliveIn = true ∧
           wPairEvents16.pair.waitUntil = none ∧ twinLost wPairEvents16 = false ∧ wPairEvents16.pair.pinSuspect = false) ∧
    (wPairEvents17.pwr.auxGood = true ∧
       wPairEvents17.pairIdle ∧
         wPairEvents17.pair.aliveIn = true ∧
           wPairEvents17.pair.waitUntil = some 900 ∧
             wPairEvents17.pair.pinSuspect = false ∧
               wPairEvents17.mode = Mode.paired ∧
                 wPairEvents17.pair.member = 1 ∧
                   wPairEvents17.pair.holder = [0, 1] ∧
                     wPairEvents17.pair.copy = [CopyState.current, CopyState.current] ∧
                       wPairEvents17.assist 10 = false ∧ wPairEvents17.pair.peerStale = [false, false]) ∧
    (wPairEvents18.pwr.auxGood = true ∧
       wPairEvents18.pairIdle ∧
         wPairEvents18.pair.aliveIn = true ∧
           wPairEvents18.pair.waitUntil = some 900 ∧
             wPairEvents18.pair.pinSuspect = false ∧
               wPairEvents18.mode = Mode.paired ∧
                 wPairEvents18.pair.member = 1 ∧
                   wPairEvents18.pair.holder = [0, 1] ∧
                     wPairEvents18.pair.copy = [CopyState.current, CopyState.current] ∧ wPairEvents18.assist 10 = true) ∧
    (wPairEvents0.pwr.auxGood = true ∧
       wPairEvents0.pair.present = true ∧
         wPairEvents0.pair.aliveIn = false ∧
           wPairEvents0.pair.formCause = 0 ∧ wPairEvents0.pair.state = PairState.waiting ∧ twinUp wPairEvents0 ≠ []) ∧
    (wPairEvents20.pairIdle ∧
       wPairEvents20.pair.waitUntil = some 9000 ∧
         wPairEvents20.mode = Mode.paired ∧
           wPairEvents20.alm.degCauses = 0#4 ∧ wPairEvents20.pair.member < 2 ∧ wPairEvents20.pair.holder = [0, 1]) ∧
    (writeServed (Path.bar2 0) Reg.takeoverResp (mkFld 63 62 3 ||| mkFld 55 48 7) wPairEvents21 ∧
       wPairEvents21.pairIdle ∧
         wPairEvents21.mode = Mode.paired ∧
           bitAt (mkFld 63 62 3 ||| mkFld 55 48 7) 63 = true ∧
             bitAt (mkFld 63 62 3 ||| mkFld 55 48 7) 62 = true ∧
               wPairEvents21.pair.tkOpen = some (7, 1) ∧
                 fld (mkFld 63 62 3 ||| mkFld 55 48 7) 55 48 = 7 ∧
                   wPairEvents21.pair.member = 1 ∧
                     wPairEvents21.pair.holder = [0, 1] ∧
                       wPairEvents21.pair.copy = [CopyState.current, CopyState.current] ∧
                         wPairEvents21.pair.state = PairState.partnerLost) ∧
    (writeServed (Path.bar2 0) Reg.takeoverResp (mkFld 63 63 1 ||| mkFld 55 48 7) wPairEvents21 ∧
       wPairEvents21.pairIdle ∧
         wPairEvents21.mode = Mode.paired ∧
           bitAt (mkFld 63 63 1 ||| mkFld 55 48 7) 63 = true ∧
             bitAt (mkFld 63 63 1 ||| mkFld 55 48 7) 62 = false ∧
               wPairEvents21.pair.tkOpen = some (7, 1) ∧
                 fld (mkFld 63 63 1 ||| mkFld 55 48 7) 55 48 = 7 ∧
                   wPairEvents21.pair.member = 1 ∧
                     wPairEvents21.pair.holder = [0, 1] ∧ wPairEvents21.pair.offline = [false, false]) ∧
    (writeServed (Path.bar2 0) Reg.takeoverResp (mkFld 63 63 1 ||| mkFld 55 48 7) wPairEvents23 ∧
       wPairEvents23.pair.present = true ∧
         bitAt (mkFld 63 63 1 ||| mkFld 55 48 7) 63 = true ∧
           Option.map Prod.fst wPairEvents23.pair.tkOpen ≠ some (fld (mkFld 63 63 1 ||| mkFld 55 48 7) 55 48)) ∧
    (wPairEvents24.mode.carries = true ∧ wPairEvents24.pair.tkSets ≠ 0 ∧ wPairEvents24.pair.tkReady = none) ∧
    (wPairEvents25.pair.tkUntil = some 9000 ∧
       wPairEvents25.tick.running = false ∧
         wPairEvents25.mode = Mode.takeover ∧ wPairEvents25.alm.swap = SwapStep.idle ∧ wPairEvents25.alm.drainPending = false) ∧
    (wPairEvents26.mode.carries = true ∧
       wPairEvents26.role 0 = 4 ∧
         wPairEvents26.linkIsUp 0 = true ∧
           List.find? (fun e => e.snd == 6) wPairEvents26.pair.twins = some (3, 6) ∧
             wPairEvents26.bridge.trks = [(3, wIslTrk)] ∧
               wIslTrk.target = Target.isl 1 3 ∧ wIslTrk.also = none ∧ wIslTrk.ans = none ∧ wIslTrk.st = TrkSt.issued) ∧
    (writeServed (Path.bar2 0) Reg.pairCtl (keepSet Reg.pairCtl (8#64) wPairEvents27) wPairEvents27 ∧
       wPairEvents27.pair.present = true ∧ twinLost wPairEvents27 = false ∧ wPairEvents27.pair.aliveIn = true) ∧
    (writeServed (Path.bar2 0) Reg.pairCtl (keepSet Reg.pairCtl (2#64) wPairEvents28) wPairEvents28 ∧
       wPairEvents28.pair.present = true ∧
         wPairEvents28.pair.moveSet = none ∧ mayMoveSet wPairEvents28 (wPairEvents28.rf Reg.pairCtl 8 8) = true) ∧
    (writeServed (Path.bar2 0) Reg.pairCtl (keepSet Reg.pairCtl (2#64) wPairEvents29) wPairEvents29 ∧
       wPairEvents29.pair.present = true ∧ wPairEvents29.pair.moveSet = none ∧ wPairEvents29.pair.state ≠ PairState.formed) ∧
    (wPairEvents30.mode = Mode.paired ∧
       wPairEvents30.pairIdle ∧
         wPairEvents30.pair.moveSet = some (1, 4) ∧
           4 ≤ wPairEvents30.tick.published ∧
             1 < 2 ∧
               setBusy wPairEvents30 1 = false ∧
                 setWaiters wPairEvents30 1 = [] ∧
                   wPairEvents30.pair.member < 2 ∧
                     wPairEvents30.pair.holder = [wPairEvents30.pair.member, wPairEvents30.pair.member] ∧
                       wPairEvents30.pair.copy = [CopyState.stale, CopyState.stale]) ∧
    (wPairEvents31.mode.carries = true ∧
       mirrorOn wPairEvents31 = true ∧
         0 < 2 ∧
           wPairEvents31.tabs.queues = [] ∧
             wPairEvents31.pair.member < 2 ∧
               wPairEvents31.pair.holder = [1 - wPairEvents31.pair.member, 1 - wPairEvents31.pair.member] ∧
                 wPairEvents31.pair.peerStale = [true, true]) ∧
    (writeServed (Path.bar2 0) Reg.pairCtl (keepSet Reg.pairCtl (4#64) (wHostUp wMem1)) (wHostUp wMem1) ∧
       (wHostUp wMem1).pair.present = true ∧
         (wHostUp wMem1).pair.state = PairState.formed ∧ (wHostUp wMem1).pair.dissolving = none) ∧
    (wPairEvents33.pairIdle ∧
       wPairEvents33.mode = Mode.paired ∧
         wPairEvents33.tick.committing = true ∧
           wPairEvents33.tick.mirrorOwed = false ∧
             wPairEvents33.tick.maskIn = [] ∧
               tickMirrored wPairEvents33 false = false ∧
                 wPairEvents33.tick.closed = [] ∧
                   wPairEvents33.pair.dissolving = some 4 ∧
                     4 ≤ wPairEvents33.tick.published + 1 ∧
                       wPairEvents33.pair.state = PairState.formed ∧
                         wPairEvents33.pair.member = 0 ∧
                           wPairEvents33.pair.holder = [0, 1] ∧
                             wPairEvents33.alm.drainBoundary = false ∧ wPairEvents33.tick.defer = Defer.none) := by
  refine ⟨?_, ?_, ?_, ?_, ?_, ?_, ?_, ?_, ?_, ?_, ?_, ?_, ?_, ?_, ?_, ?_, ?_, ?_, ?_, ?_, ?_, ?_, ?_, ?_, ?_, ?_, ?_, ?_, ?_, ?_, ?_, ?_, ?_, ?_, ?_, ?_, ?_, ?_⟩ <;> decide +kernel

theorem wit_RasEvents :
    ((wRas (wInRas (wPortRec Sev.corrected))).mode.loadToHalt = true ∧
       (wRas (wInRas (wPortRec Sev.corrected))).ras.inbox = [wPortRec Sev.corrected] ∧
         (wRas (wInRas (wPortRec Sev.corrected))).ras.locks = [] ∧
           (wRas (wInRas (wPortRec Sev.corrected))).ras.windows = [] ∧
             isNotice (wPortRec Sev.corrected).cls = false ∧
               sourceIsolated (wRas (wInRas (wPortRec Sev.corrected))) (wPortRec Sev.corrected).unit
                     (wPortRec Sev.corrected).inst =
                   false ∧
                 (wPortRec Sev.corrected).clsSev.code ≤ 3 ∧
                   windowLen (wRas (wInRas (wPortRec Sev.corrected))) (wPortRec Sev.corrected).clsSev ≠ 0 ∧
                     (((wRas (wInRas (wPortRec Sev.corrected))).ring (wPortRec Sev.corrected).clsSev.code).prod + 2 ^ 32 -
                           ((wRas (wInRas (wPortRec Sev.corrected))).ring (wPortRec Sev.corrected).clsSev.code).cons) %
                         2 ^ 32 <
                       256) ∧
    (wRasEvents1a.mode.loadToHalt = true ∧
       wRasEvents1a.ras.inbox = [wPortRec Sev.corrected] ∧
         wRasEvents1a.ras.locks = [] ∧
           wRasEvents1a.ras.windows = [wRasEvents1] ∧
             isNotice (wPortRec Sev.corrected).cls = false ∧
               sourceIsolated wRasEvents1a (wPortRec Sev.corrected).unit (wPortRec Sev.corrected).inst = false ∧
                 wRasEvents1.unit = (wPortRec Sev.corrected).unit ∧
                   wRasEvents1.inst = (wPortRec Sev.corrected).inst ∧
                     wRasEvents1a.now ≤ wRasEvents1.deadline ∧
                       max (wPortRec Sev.corrected).clsSev.code wRasEvents1.sev.code < 3 ∧
                         ((wRasEvents1a.ring (max (wPortRec Sev.corrected).clsSev.code wRasEvents1.sev.code + 1)).prod + 2 ^ 32 -
                               (wRasEvents1a.ring (max (wPortRec Sev.corrected).clsSev.code wRasEvents1.sev.code + 1)).cons) %
                             2 ^ 32 <
                           256) ∧
    (wRasEvents1c.mode.loadToHalt = true ∧
       wRasEvents1c.ras.inbox = [wPortRec Sev.deferred] ∧
         wRasEvents1c.ras.locks = [] ∧
           wRasEvents1c.ras.windows = [wRasEvents1b] ∧
             isNotice (wPortRec Sev.deferred).cls = false ∧
               sourceIsolated wRasEvents1c (wPortRec Sev.deferred).unit (wPortRec Sev.deferred).inst = false ∧
                 wRasEvents1b.unit = (wPortRec Sev.deferred).unit ∧
                   wRasEvents1b.inst = (wPortRec Sev.deferred).inst ∧
                     wRasEvents1c.now ≤ wRasEvents1b.deadline ∧
                       max (wPortRec Sev.deferred).clsSev.code wRasEvents1b.sev.code < 3 ∧
                         ((wRasEvents1c.ring (max (wPortRec Sev.deferred).clsSev.code wRasEvents1b.sev.code + 1)).prod + 2 ^ 32 -
                               (wRasEvents1c.ring (max (wPortRec Sev.deferred).clsSev.code wRasEvents1b.sev.code + 1)).cons) %
                             2 ^ 32 <
                           256) ∧
    ((wRas (wInRas wNotice)).mode.loadToHalt = true ∧
       (wRas (wInRas wNotice)).ras.inbox = [wNotice] ∧
         (wRas (wInRas wNotice)).ras.locks = [] ∧
           isNotice wNotice.cls = true ∧
             wNotice.clsSev.code ≤ 3 ∧
               (((wRas (wInRas wNotice)).ring wNotice.clsSev.code).prod + 2 ^ 32 -
                     ((wRas (wInRas wNotice)).ring wNotice.clsSev.code).cons) %
                   2 ^ 32 <
                 256) ∧
    (wRasEvents3.mode.loadToHalt = true ∧
       wRasEvents3.ras.inbox = [wNotice] ∧
         wRasEvents3.ras.locks = [] ∧
           isNotice wNotice.cls = true ∧
             wNotice.clsSev.code ≤ 3 ∧
               256 ≤ ((wRasEvents3.ring wNotice.clsSev.code).prod + 2 ^ 32 - (wRasEvents3.ring wNotice.clsSev.code).cons) % 2 ^ 32) ∧
    (wRasEvents4.mode.loadToHalt = true ∧
       wRasEvents4.ras.inbox = [wPortRec Sev.corrected] ∧
         wRasEvents4.ras.windows = [] ∧
           isNotice (wPortRec Sev.corrected).cls = false ∧
             isolatable (wPortRec Sev.corrected).unit = true ∧
               (wPortRec Sev.corrected).unit ≠ UnitKind.steward ∧
                 (wPortRec Sev.corrected).clsSev.code = 1 ∧ wRasEvents4.ras.locks = [(1, 2)]) ∧
    ((wRas (wInRas (wPortRec Sev.fatalDevice))).mode.loadToHalt = true ∧
       (wRas (wInRas (wPortRec Sev.fatalDevice))).mode ≠ Mode.halt ∧
         (wRas (wInRas (wPortRec Sev.fatalDevice))).ras.inbox = [wPortRec Sev.fatalDevice] ∧
           (wRas (wInRas (wPortRec Sev.fatalDevice))).ras.locks = [] ∧
             (wRas (wInRas (wPortRec Sev.fatalDevice))).ras.windows = [] ∧
               isNotice (wPortRec Sev.fatalDevice).cls = false ∧
                 sourceIsolated (wRas (wInRas (wPortRec Sev.fatalDevice))) (wPortRec Sev.fatalDevice).unit
                       (wPortRec Sev.fatalDevice).inst =
                     false ∧
                   ((wPortRec Sev.fatalDevice).clsSev = Sev.fatalDevice ∨
                       (wPortRec Sev.fatalDevice).clsSev = Sev.fatalUnit ∧
                         isolatable (wPortRec Sev.fatalDevice).unit = false ∧
                           (wRas (wInRas (wPortRec Sev.fatalDevice))).assist 5 = false) ∧
                     (wRas (wInRas (wPortRec Sev.fatalDevice))).rb Reg.haltInfo 0 = false) ∧
    ((wRas (wInRas (wRecOf UnitKind.channel 3 80 Sev.fatalUnit))).mode.loadToHalt = true ∧
       (wRas (wInRas (wRecOf UnitKind.channel 3 80 Sev.fatalUnit))).mode ≠ Mode.halt ∧
         (wRas (wInRas (wRecOf UnitKind.channel 3 80 Sev.fatalUnit))).ras.inbox = [wRecOf UnitKind.channel 3 80 Sev.fatalUnit] ∧
           (wRas (wInRas (wRecOf UnitKind.channel 3 80 Sev.fatalUnit))).ras.locks = [] ∧
             (wRas (wInRas (wRecOf UnitKind.channel 3 80 Sev.fatalUnit))).ras.windows = [] ∧
               isNotice (wRecOf UnitKind.channel 3 80 Sev.fatalUnit).cls = false ∧
                 sourceIsolated (wRas (wInRas (wRecOf UnitKind.channel 3 80 Sev.fatalUnit)))
                       (wRecOf UnitKind.channel 3 80 Sev.fatalUnit).unit (wRecOf UnitKind.channel 3 80 Sev.fatalUnit).inst =
                     false ∧
                   ((wRecOf UnitKind.channel 3 80 Sev.fatalUnit).clsSev = Sev.fatalDevice ∨
                       (wRecOf UnitKind.channel 3 80 Sev.fatalUnit).clsSev = Sev.fatalUnit ∧
                         isolatable (wRecOf UnitKind.channel 3 80 Sev.fatalUnit).unit = false ∧
                           (wRas (wInRas (wRecOf UnitKind.channel 3 80 Sev.fatalUnit))).assist 5 = false) ∧
                     (wRas (wInRas (wRecOf UnitKind.channel 3 80 Sev.fatalUnit))).rb Reg.haltInfo 0 = false) ∧
    ((wRas (wInRas wCluster)).mode = Mode.solo ∧
       (wRas (wInRas wCluster)).ras.inbox = [wCluster] ∧
         (wRas (wInRas wCluster)).ras.locks = [] ∧
           (wRas (wInRas wCluster)).ras.windows = [] ∧
             isNotice wCluster.cls = false ∧
               wCluster.unit = UnitKind.cluster ∧
                 wCluster.inst < 16 ∧
                   (wRas (wInRas wCluster)).ras.isoClusters = [] ∧
                     wCluster.clsSev = Sev.fatalUnit ∧
                       (wRas (wInRas wCluster)).assist 5 = false ∧
                         (wRas (wInRas wCluster)).mill.engs = [] ∧ (wRas (wInRas wCluster)).alm.degCauses = 0#4) ∧
    (wRasEvents7.mode.loadToHalt = true ∧
       wRasEvents7.ras.inbox = [wCluster] ∧
         wRasEvents7.ras.locks = [] ∧
           wRasEvents7.ras.windows = [] ∧
             isNotice wCluster.cls = false ∧
               sourceIsolated wRasEvents7 wCluster.unit wCluster.inst = false ∧
                 wCluster.clsSev = Sev.fatalUnit ∧
                   wRasEvents7.assist 5 = true ∧
                     wRasEvents7.ras.escOpen.length < 16 ∧
                       (wRasEvents7.ras.escOpen.any fun w => w.tag == wRasEvents7.ras.escTag % 256) = false) ∧
    (wRasEvents8a.ras.windows[1]? = some wRasEvents8) ∧
    (1 ≤ 1 ∧
       1 ≤ 5 ∧
         300 < 2 ^ 32 ∧
           writeServed (Path.bar2 0) (Reg.ringCons 1) (300#64) wRasEvents9 ∧
             (300 + 2 ^ 32 - (wRasEvents9.ring 1).cons) % 2 ^ 32 ≤
               ((wRasEvents9.ring 1).prod + 2 ^ 32 - (wRasEvents9.ring 1).cons) % 2 ^ 32) ∧
    (1 ≤ 5 ∧
       5 ≤ 5 ∧
         0 < 2 ^ 32 ∧
           writeServed (Path.bar2 0) (Reg.ringCons 5) (0#64) (wRas newRas) ∧
             (0 + 2 ^ 32 - ((wRas newRas).ring 5).cons) % 2 ^ 32 ≤
               (((wRas newRas).ring 5).prod + 2 ^ 32 - ((wRas newRas).ring 5).cons) % 2 ^ 32) ∧
    (1 ≤ 1 ∧
       1 ≤ 5 ∧
         301 < 2 ^ 32 ∧
           writeServed (Path.bar2 0) (Reg.ringCons 1) (301#64) wRasEvents9 ∧
             ((wRasEvents9.ring 1).prod + 2 ^ 32 - (wRasEvents9.ring 1).cons) % 2 ^ 32 <
               (301 + 2 ^ 32 - (wRasEvents9.ring 1).cons) % 2 ^ 32) ∧
    (1 ≤ 1 ∧
       1 ≤ 5 ∧
         43 < 2 ^ 32 ∧
           writeServed (Path.bar2 0) (Reg.ringCons 1) (43#64) wRasEvents9 ∧
             ((wRasEvents9.ring 1).prod + 2 ^ 32 - (wRasEvents9.ring 1).cons) % 2 ^ 32 <
               (43 + 2 ^ 32 - (wRasEvents9.ring 1).cons) % 2 ^ 32) ∧
    (5 < 2 ^ 32 ∧ writeServed (Path.bar2 0) Reg.vlogCons (5#64) wRasEvents11) ∧
    (10 < 2 ^ 32 ∧ writeServed (Path.bar2 0) Reg.vlogCons (10#64) wRasEvents11) ∧
    (wRasEvents12a.ras.waiting = [wRasEvents12] ∧
       wRasEvents12a.ras.windows = [] ∧
         wRasEvents12a.ras.slotUsed = 0 ∧ isNotice wRasEvents12.er.cls = true ∧ wRasEvents12.er.clsSev.code ≤ 3) ∧
    (wRasEvents13.ras.waiting = [wRasEvents12] ∧
       wRasEvents13.ras.windows = [] ∧
         wRasEvents13.ras.slotUsed = 65535 ∧ isNotice wRasEvents12.er.cls = true ∧ wRasEvents12.er.clsSev.code ≤ 3) ∧
    (wRasEvents14.ras.locks = [(1, 2)] ∧
       wRasEvents14.ras.waiting = [] ∧
         wRasEvents14.ras.slotUsed = 1 ∧
           wRasEvents14.ras.slots = [(0, wNotice)] ∧
             wNotice.sev.code = 1 ∧ ((wRasEvents14.ring 1).prod + 2 ^ 32 - (wRasEvents14.ring 1).cons) % 2 ^ 32 < 256) ∧
    (2 < 4 ∧
       wRasEvents15.ras.isoStewards.testBit 2 = false ∧
         wRasEvents15.mode.loadToHalt = true ∧
           wRasEvents15.inGap = false ∧
             wRasEvents15.ras.stwInbox = [wNotice] ∧
               wRasEvents15.ras.locks = [] ∧
                 wRasEvents15.ras.windows = [] ∧
                   isNotice wNotice.cls = true ∧
                     wNotice.clsSev.code ≤ 3 ∧
                       ((wRasEvents15.ring wNotice.clsSev.code).prod + 2 ^ 32 - (wRasEvents15.ring wNotice.clsSev.code).cons) %
                           2 ^ 32 <
                         256) ∧
    (writeServed (Path.bar2 0) Reg.escResp (mkFld 63 63 1 ||| mkFld 55 48 7) wRasEvents16 ∧
       bitAt (mkFld 63 63 1 ||| mkFld 55 48 7) 63 = true ∧
         wRasEvents16.ras.escOpen = [wEsc] ∧
           fld (mkFld 63 63 1 ||| mkFld 55 48 7) 55 48 = wEsc.tag ∧
             fld (mkFld 63 63 1 ||| mkFld 55 48 7) 57 56 = 0 ∧
               wEsc.er.unit = UnitKind.cluster ∧
                 wEsc.er.inst < 16 ∧
                   wRasEvents16.ras.isoClusters = [] ∧ wRasEvents16.ras.waiting = [] ∧ wRasEvents16.mill.engs = []) ∧
    (writeServed (Path.bar2 0) Reg.escResp (mkFld 63 63 1 ||| mkFld 57 56 1 ||| mkFld 55 48 7) wRasEvents16 ∧
       bitAt (mkFld 63 63 1 ||| mkFld 57 56 1 ||| mkFld 55 48 7) 63 = true ∧
         wRasEvents16.ras.escOpen = [wEsc] ∧
           fld (mkFld 63 63 1 ||| mkFld 57 56 1 ||| mkFld 55 48 7) 55 48 = wEsc.tag ∧
             fld (mkFld 63 63 1 ||| mkFld 57 56 1 ||| mkFld 55 48 7) 57 56 = 1) ∧
    (writeServed (Path.bar2 0) Reg.escResp (mkFld 63 63 1 ||| mkFld 57 56 2 ||| mkFld 55 48 7) wRasEvents16 ∧
       bitAt (mkFld 63 63 1 ||| mkFld 57 56 2 ||| mkFld 55 48 7) 63 = true ∧
         wRasEvents16.ras.escOpen = [wEsc] ∧
           fld (mkFld 63 63 1 ||| mkFld 57 56 2 ||| mkFld 55 48 7) 55 48 = wEsc.tag ∧
             fld (mkFld 63 63 1 ||| mkFld 57 56 2 ||| mkFld 55 48 7) 57 56 = 2 ∧
               wRasEvents16.mode.loadToHalt = true ∧ wRasEvents16.mode ≠ Mode.halt) ∧
    (writeServed (Path.bar2 0) Reg.escResp (mkFld 63 63 1 ||| mkFld 55 48 8) wRasEvents16 ∧
       bitAt (mkFld 63 63 1 ||| mkFld 55 48 8) 63 = true ∧
         (wRasEvents16.ras.escOpen.any fun w => w.tag == fld (mkFld 63 63 1 ||| mkFld 55 48 8) 55 48) = false) ∧
    (wRasEvents16.ras.escOpen = [wEsc] ∧
       wEsc.er.unit = UnitKind.cluster ∧
         wEsc.er.inst < 16 ∧ wRasEvents16.ras.isoClusters = [] ∧ wRasEvents16.ras.waiting = [] ∧ wRasEvents16.mill.engs = []) ∧
    (writeServed (Path.bar2 0) Reg.isoCtl (mkFld 63 63 1 ||| mkFld 55 48 12 ||| mkFld 17 0 15) (wRas newRas) ∧
       15 < 16 ∧
         (wRas newRas).mode = Mode.solo ∧
           (wRas newRas).ras.isoClusters = [] ∧
             (wRas newRas).ras.waiting = [] ∧ (wRas newRas).mill.engs = [] ∧ (wRas newRas).alm.degCauses = 0#4) ∧
    (writeServed (Path.bar2 0) Reg.isoCtl (mkFld 63 62 3 ||| mkFld 55 48 12 ||| mkFld 17 0 15) wRasEvents22 ∧
       15 < 16 ∧ wRasEvents22.mode = Mode.degraded ∧ wRasEvents22.ras.isoClusters = [15] ∧ wRasEvents22.alm.degCauses = 2#4) ∧
    (tget wRasEvents23.ras.wdog 2 = some 900) ∧
    (tget wRasEvents24.ras.wdog 2 = some 900 ∧
       wRasEvents24.inGap = false ∧ wRasEvents24.ras.locks = [] ∧ wRasEvents24.ras.waiting = []) := by
  refine ⟨?_, ?_, ?_, ?_, ?_, ?_, ?_, ?_, ?_, ?_, ?_, ?_, ?_, ?_, ?_, ?_, ?_, ?_, ?_, ?_, ?_, ?_, ?_, ?_, ?_, ?_, ?_, ?_, ?_, ?_⟩ <;> decide +kernel

theorem wit_SlotEvents :
    (wSlotEvents0.mode.chainRuns = true ∧
       wSlotEvents0.chain.waitSince = none ∧
         wSlotEvents0.chain.shifting = false ∧
           wSlotEvents0.chain.newProgram = none ∧ wSlotEvents0.chain.nSlots ≠ 0 ∧ wSlotEvents0.chain.slots = []) ∧
    (wSlotEvents1a.mode.chainRuns = true ∧
       wSlotEvents1a.chain.waitSince = none ∧
         wSlotEvents1a.chain.shifting = false ∧
           wSlotEvents1a.chain.newProgram = none ∧
             wSlotEvents1a.chain.nSlots ≠ 0 ∧
               wSlotEvents1a.chain.slots = [(0, wSlotEvents1)] ∧
                 wSlotEvents1.retryFrom = none ∧ wSlotEvents1.tripped = false ∧ bitAt wSlotEvents1.cfg 60 = false) ∧
    (wSlotEvents2a.mode.chainRuns = true ∧
       wSlotEvents2a.chain.waitSince = none ∧
         wSlotEvents2a.chain.shifting = false ∧
           wSlotEvents2a.chain.newProgram = none ∧
             wSlotEvents2a.chain.nSlots ≠ 0 ∧
               wSlotEvents2a.chain.slots = [(0, wSlotEvents2)] ∧
                 wSlotEvents2.retryFrom = none ∧
                   wSlotEvents2.tripped = true ∧
                     bitAt wSlotEvents2.cfg 60 = false ∧
                       wSlotEvents2a.chain.applyNext = true ∧
                         chainOk wSlotEvents2.shifted = true ∧
                           wSlotEvents2.shifted.getLsbD 27 = false ∧
                             wSlotEvents2.state ≠ SlotState.fetShort ∧
                               wSlotEvents2.lockAfter = false ∧ wSlotEvents2.absent = false) ∧
    (wSlotEvents3a.mode.chainRuns = true ∧
       wSlotEvents3a.chain.waitSince = none ∧
         wSlotEvents3a.chain.shifting = false ∧
           wSlotEvents3a.chain.newProgram = none ∧
             wSlotEvents3a.chain.nSlots ≠ 0 ∧
               wSlotEvents3a.chain.slots = [(0, wSlotEvents3)] ∧
                 wSlotEvents3.retryFrom = none ∧
                   wSlotEvents3.tripped = true ∧
                     bitAt wSlotEvents3.cfg 60 = false ∧
                       wSlotEvents3a.chain.applyNext = true ∧
                         chainOk wSlotEvents3.shifted = true ∧
                           wSlotEvents3.shifted.getLsbD 27 = false ∧
                             wSlotEvents3.state ≠ SlotState.fetShort ∧ wSlotEvents3.lockAfter = true) ∧
    (wSlotEvents4.chain.waitSince = some 5 ∧ wSlotEvents4.chain.slots = [(0, wOnSlot)] ∧ wOnSlot.cmdPending = false) ∧
    (wSlotEvents4b.chain.waitSince = some 5 ∧ wSlotEvents4b.chain.slots = [(0, wSlotEvents4a)] ∧ wSlotEvents4a.cmdPending = false) ∧
    (wSlotEvents5.chain.shifting = true ∧ 1#32 ≠ wSlotEvents5.chain.marker ∧ wSlotEvents5.chain.slots = []) ∧
    (wSlotEvents6.chain.shifting = true ∧
       wSlotEvents6.chain.nSlots = 1 ∧
         wSlotEvents6.chain.slots = [(0, wSlOff)] ∧ chainOk 0#32 = false ∧ wSlOff.en = false ∧ wSlOff.enWas = false) ∧
    (wSlotEvents7.chain.shifting = true ∧
       wSlotEvents7.chain.nSlots = 1 ∧ wSlotEvents7.chain.slots = [(0, wOnSlot)] ∧ chainOk (wInW true 300) = true) ∧
    (wSlotEvents7.chain.shifting = true ∧
       wSlotEvents7.chain.nSlots = 1 ∧ wSlotEvents7.chain.slots = [(0, wOnSlot)] ∧ chainOk (wInW true 4095) = true) ∧
    (wSlotEvents7.chain.shifting = true ∧
       wSlotEvents7.chain.nSlots = 1 ∧
         wSlotEvents7.chain.slots = [(0, wOnSlot)] ∧
           chainOk (wInW true 1250) = true ∧
             wOnSlot.en = true ∧
               wOnSlot.tripped = false ∧
                 (wInW true 1250).getLsbD 27 = true ∧
                   wOnSlot.absent = false ∧
                     wOnSlot.state = SlotState.on ∧
                       fld wOnSlot.limits 31 16 * 10 ≤ (wInW true 1250).toNat % 4096 * fld wOnSlot.cfg 9 0) ∧
    (wSlotEvents9a.chain.shifting = true ∧
       wSlotEvents9a.chain.nSlots = 1 ∧
         wSlotEvents9a.chain.slots = [(0, wSlotEvents9)] ∧
           chainOk (wInW false 0) = true ∧
             (wInW false 0).getLsbD 27 = false ∧
               (wInW false 0).getLsbD 26 = false ∧
                 wSlotEvents9.absentRun = 9 ∧
                   wSlotEvents9.absent = false ∧
                     wSlotEvents9.state = SlotState.off ∧ wSlotEvents9.en = false ∧ wSlotEvents9.enWas = false) ∧
    (wSlotEvents10a.chain.shifting = true ∧
       wSlotEvents10a.chain.nSlots = 1 ∧
         wSlotEvents10a.chain.slots = [(0, wSlotEvents10)] ∧
           chainOk (wInW true 0) = true ∧
             (wInW true 0).getLsbD 27 = true ∧
               (wInW true 0).getLsbD 26 = false ∧
                 wSlotEvents10.presentRun = 999 ∧
                   wSlotEvents10.absent = false ∧
                     wSlotEvents10.state = SlotState.debounce ∧
                       wSlotEvents10.en = false ∧
                         wSlotEvents10.enWas = false ∧
                           wSlotEvents10.retryFrom = none ∧
                             wSlotEvents10.hotplug = false ∧
                               wSlotEvents10.autoOn = true ∧
                                 wSlotEvents10a.assist 4 = false ∧ wSlotEvents10a.inGap = false ∧ cfld (wInW true 0) 21 12 < 720) ∧
    (wSlotEvents11.chain.waitSince = some 5 ∧ wSlotEvents11.chain.slots = []) ∧
    (wSlotEvents12a.slot? 0 = some wSlotEvents12 ∧
       wSlotEvents12.retryFrom = some 5 ∧
         wSlotEvents12.state = SlotState.retryWait ∧
           wSlotEvents12.heat = 0 ∧ wSlotEvents12.want = true ∧ wSlotEvents12.ready = true ∧ wSlotEvents12.en = false) ∧
    (wSlotEvents13a.slot? 0 = some wSlotEvents13 ∧
       wSlotEvents13.failDeadline = some 50 ∧ wSlotEvents13.en = true ∧ wSlotEvents13.vout < 720) ∧
    (wSlotEvents14a.slot? 0 = some wSlotEvents14 ∧ wSlotEvents14.shortFrom = some 50) ∧
    (wSlotEvents15a.slot? 0 = some wSlotEvents15 ∧
       wSlotEvents15.perstDeadline = some 50 ∧
         bitAt wSlotEvents15.cfg 60 = true ∧ fld wSlotEvents15.cfg 56 48 < 512 ∧ wSlotEvents15a.inGap = false) ∧
    (0 < 128 ∧
       writeServed (Path.bar2 0) (Reg.slotCtl 0) (keepSet (Reg.slotCtl 0) (1#64 <<< 16) wSlotEvents16a) wSlotEvents16a ∧
         0 < wSlotEvents16a.chain.nSlots ∧ wSlotEvents16a.slot? 0 = some wSlotEvents16 ∧ wSlotEvents16.state = SlotState.lockedOff) ∧
    (0 < 128 ∧
       writeServed (Path.bar2 0) (Reg.slotCtl 0) (keepSet (Reg.slotCtl 0) (1#64 <<< 17) wSlotEvents17a) wSlotEvents17a ∧
         0 < wSlotEvents17a.chain.nSlots ∧ wSlotEvents17a.slot? 0 = some wSlotEvents17 ∧ wSlotEvents17.state = SlotState.fetShort) ∧
    (0 < 128 ∧
       writeServed (Path.bar2 0) (Reg.slotCmd 0) (5#64 ||| 1#64 <<< 63) wSlotEvents18 ∧
         0 < wSlotEvents18.chain.nSlots ∧ wSlotEvents18.slot? 0 = some wSlOff ∧ wSlotEvents18.assist 4 = true) ∧
    (0 < 128 ∧
       writeServed (Path.bar2 0) (Reg.slotCmd 0) (5#64 ||| 1#64 <<< 63) (wChainOf wSlOff newChain) ∧
         (wChainOf wSlOff newChain).slot? 0 = some wSlOff ∧ (wChainOf wSlOff newChain).assist 4 = false) ∧
    ((wChainOf wSlOff newChain).slot? 0 = some wSlOff ∧
       wSlOff.hotplug = true ∧
         (wChainOf wSlOff newChain).assist 4 = false ∧
           (wChainOf wSlOff newChain).inGap = false ∧
             wSlOff.state = SlotState.off ∧ wSlOff.ready = true ∧ wSlOff.en = false ∧ wSlOff.retryFrom = none) ∧
    (wSlotEvents21a.slot? 0 = some wSlotEvents21 ∧
       wSlotEvents21.hotplug = true ∧
         wSlotEvents21a.assist 4 = false ∧ wSlotEvents21a.inGap = false ∧ wSlotEvents21.en = true ∧ wSlotEvents21.offNext = false) ∧
    (wSlotEvents18.slot? 0 = some wSlOff ∧
       wSlOff.hotplug = true ∧
         wSlotEvents18.assist 4 = true ∧ wSlotEvents18.inGap = false ∧ wSlotEvents18.chain.hpPosts.length < 63) := by
  refine ⟨?_, ?_, ?_, ?_, ?_, ?_, ?_, ?_, ?_, ?_, ?_, ?_, ?_, ?_, ?_, ?_, ?_, ?_, ?_, ?_, ?_, ?_, ?_, ?_, ?_⟩ <;> decide +kernel

theorem wit_ResetState :
    ((wIn Mode.solo).pending = [] ∧ (wIn Mode.solo).mode ≠ Mode.aux ∧ (wIn Mode.solo).pwr.auxGood = true) := by
  decide +kernel

end Sys2Proof.Tests
end

/-! # Engine instructions of the mill (10): scalar integer operations, branches and loops, DONE -/

namespace Sys2Proof.Machine

/-! ## What a computing instruction, a branch and a jump run -/

/-- R360: an instruction that only computes on registers completes with the registers that `computeOp` gives. -/
theorem runOp_of_computeOp {op : EOp} {s : State} {e : Nat} {b : Arch} (h : computeOp op (s.eng e).arch = some b) (w : Nat)
    (ue : Bool) (j : Job) (v : Version) : runOp e op w ue j v s = complete e b s := by
  cases op
  case alu | imm | shi | lui | fpu | valu | vred | vcmp | vbcast | vext | vins | mfp | mtp => cases h; rfl
  all_goals cases h

/-- A command that issues a computing instruction has the result that `computeOp` gives. -/
theorem opResult_of_computeOp {c : Nat → Instr} {op : EOp} {f : Arch → Arch} (ho : ∀ a, computeOp op a = some (f a))
    (hc : ∀ e s, exec (c e) s = .next (engRun e op false s)) : opResult c op f := by
  intro e s h
  refine ready_step h (hc e s) fun j v _ _ => ?_
  rw [runOp_of_computeOp (ho _)]
  exact complete_step h _

/-- A ready engine that completes with registers and next address `a` changes itself alone. -/
theorem completeTo_step {e : Nat} {op : EOp} {s : State} (h : engReady e op s = true) (a : Arch) :
    engineStep e (s.engWith e a) s (completeTo e a s) := by
  obtain ⟨_, _, _, _, hwait, _, _, herr, _⟩ := ready_cases h
  exact done_step h (fun g => { g with arch := a }) (fun _ _ _ _ => rfl) ⟨rfl, hwait, herr⟩

/-- An instruction completes with the registers `a` where `runOp` completes with them. -/
theorem completes_of_completeTo {c : Instr} {e : Nat} {op : EOp} {ue : Bool} {s : State} {a : Arch}
    (h : engReady e op s = true) (hc : exec c s = .next (engRun e op ue s))
    (hrun : ∀ j v, (s.eng e).job = some j → jobVersion s j = some v →
      runOp e op (engEncode op) ue j v s = completeTo e a s) :
    Completes c s (engineStep e (s.engWith e a) s) :=
  ready_step h hc fun j v hj hv => by
    rw [hrun j v hj hv]
    exact completeTo_step h a

/-- The fields of an instruction that is ready lie in the ranges of its encoding. -/
theorem engWf_of_ready {e : Nat} {op : EOp} {s : State} (h : engReady e op s = true) : engWf op = true := by
  obtain ⟨_, _, hwf, _⟩ := ready_cases h
  exact hwf

/-! ## The values of the integer operations, R341 -/

theorem aluVal_slt (x y : Word) : aluVal .slt x y = if x.toInt < y.toInt then 1#64 else 0#64 := by
  simp only [aluVal, BitVec.slt_eq_decide, decide_eq_true_eq]

theorem aluVal_sltu (x y : Word) : aluVal .sltu x y = if x.toNat < y.toNat then 1#64 else 0#64 := by
  simp only [aluVal, BitVec.ult_eq_decide, decide_eq_true_eq]

theorem aluVal_min (x y : Word) : aluVal .min x y = BitVec.ofInt 64 (min x.toInt y.toInt) := by
  simp only [aluVal, BitVec.slt_eq_decide, decide_eq_true_eq]
  split
  · rw [Int.min_eq_left (by omega), BitVec.ofInt_toInt]
  · rw [Int.min_eq_right (by omega), BitVec.ofInt_toInt]

theorem aluVal_max (x y : Word) : aluVal .max x y = BitVec.ofInt 64 (max x.toInt y.toInt) := by
  simp only [aluVal, BitVec.slt_eq_decide, decide_eq_true_eq]
  split
  · rw [Int.max_eq_right (by omega), BitVec.ofInt_toInt]
  · rw [Int.max_eq_left (by omega), BitVec.ofInt_toInt]

/-- A word is the word of its number. -/
theorem ofNat_toNat_word (x : Word) : BitVec.ofNat 64 x.toNat = x := by
  rw [BitVec.ofNat_toNat, BitVec.setWidth_eq]

theorem aluVal_minu (x y : Word) : aluVal .minu x y = BitVec.ofNat 64 (min x.toNat y.toNat) := by
  simp only [aluVal, BitVec.ult_eq_decide, decide_eq_true_eq]
  split
  · rw [Nat.min_eq_left (by omega), ofNat_toNat_word]
  · rw [Nat.min_eq_right (by omega), ofNat_toNat_word]

theorem aluVal_maxu (x y : Word) : aluVal .maxu x y = BitVec.ofNat 64 (max x.toNat y.toNat) := by
  simp only [aluVal, BitVec.ult_eq_decide, decide_eq_true_eq]
  split
  · rw [Nat.max_eq_right (by omega), ofNat_toNat_word]
  · rw [Nat.max_eq_left (by omega), ofNat_toNat_word]

theorem aluVal_mul (x y : Word) : aluVal .mul x y = BitVec.ofInt 64 (x.toInt * y.toInt) := by
  rw [aluVal, BitVec.ofInt_mul, BitVec.ofInt_toInt, BitVec.ofInt_toInt]

/-- Division rounds toward zero; the one quotient that does not fit wraps. -/
theorem aluVal_div (x y : Word) :
    aluVal .div x y = if y = 0#64 then BitVec.allOnes 64 else BitVec.ofInt 64 (x.toInt.tdiv y.toInt) := by
  have h : x.sdiv y = BitVec.ofInt 64 (x.toInt.tdiv y.toInt) :=
    BitVec.eq_of_toInt_eq (by rw [BitVec.toInt_sdiv, BitVec.toInt_ofInt])
  simp only [aluVal, h]

theorem aluVal_divu (x y : Word) :
    aluVal .divu x y = if y = 0#64 then BitVec.allOnes 64 else BitVec.ofNat 64 (x.toNat / y.toNat) := by
  have h : x.udiv y = BitVec.ofNat 64 (x.toNat / y.toNat) := by
    rw [← BitVec.toNat_udiv]
    exact (ofNat_toNat_word _).symm
  simp only [aluVal, h]

theorem aluVal_rem (x y : Word) : aluVal .rem x y = if y = 0#64 then x else BitVec.ofInt 64 (x.toInt.tmod y.toInt) := by
  simp only [aluVal, ← BitVec.toInt_srem, BitVec.ofInt_toInt]

theorem aluVal_remu (x y : Word) : aluVal .remu x y = if y = 0#64 then x else BitVec.ofNat 64 (x.toNat % y.toNat) := by
  have h : x.umod y = BitVec.ofNat 64 (x.toNat % y.toNat) := by
    rw [← BitVec.toNat_umod]
    exact (ofNat_toNat_word _).symm
  simp only [aluVal, h]

/-! ### Counts of bits and the order of bytes -/

theorem findIdx_range_le (p : Nat → Bool) (n : Nat) : (List.range n).findIdx p ≤ n := by
  have h : (List.range n).findIdx p ≤ (List.range n).length := List.findIdx_le_length
  rwa [List.length_range] at h

/-- The numbers that a search passes over are as many as the place where it stops. -/
theorem length_takeWhile_range (p : Nat → Bool) (n : Nat) :
    ((List.range n).takeWhile (fun i => !p i)).length = (List.range n).findIdx p := by
  simp only [List.takeWhile_eq_take_findIdx_not, Bool.not_not, List.length_take, List.length_range]
  exact Nat.min_eq_left (findIdx_range_le p n)

theorem getD_find?_range (p : Nat → Bool) (n : Nat) : ((List.range n).find? p).getD n = (List.range n).findIdx p := by
  rw [List.find?_eq_getElem?_findIdx]
  rcases Nat.lt_or_eq_of_le (findIdx_range_le p n) with h | h
  · rw [List.getElem?_range h, Option.getD_some]
  · rw [h, List.getElem?_eq_none (Nat.le_of_eq List.length_range), Option.getD_none]

/-- The first set bit from the top is the logarithm's, so that the zeros before it are the leading ones. -/
theorem clz64_eq (x : Word) : clz64 x = ((List.range 64).takeWhile (fun i => !x.getMsbD i)).length := by
  rw [length_takeWhile_range, clz64]
  split
  · next hx =>
    rw [List.findIdx_eq_length_of_false (fun i _ => by rw [hx, BitVec.getMsbD_zero]), List.length_range]
  · next hx =>
    have h0 : x.toNat ≠ 0 := fun h => hx (BitVec.eq_of_toNat_eq h)
    have hl : x.toNat.log2 < 64 := (Nat.log2_lt h0).2 x.isLt
    have hb : ∀ i, i < 64 → x.getMsbD i = x.toNat.testBit (63 - i) := fun i hi => by
      rw [BitVec.getMsbD, decide_eq_true hi, Bool.true_and]
      rfl
    refine Eq.symm ((List.findIdx_eq (by rw [List.length_range]; omega)).2 ⟨?_, fun j hj => ?_⟩)
    · rw [List.getElem_range, hb _ (by omega), show 63 - (63 - x.toNat.log2) = x.toNat.log2 by omega]
      exact Nat.testBit_log2 h0
    · rw [List.getElem_range, hb _ (by omega)]
      exact Nat.testBit_lt_two_pow ((Nat.log2_lt h0).1 (by omega))

theorem ctz64_eq (x : Word) : ctz64 x = ((List.range 64).takeWhile (fun i => !x.getLsbD i)).length := by
  rw [length_takeWhile_range, ctz64, getD_find?_range]

theorem length_filter_eq_sum_toNat (p : Nat → Bool) (l : List Nat) :
    (l.filter p).length = (l.map (fun i => (p i).toNat)).sum := by
  induction l with
  | nil => rfl
  | cons i l ih =>
    rw [List.map_cons, List.sum_cons, ← ih]
    cases h : p i with
    | true => rw [List.filter_cons_of_pos h, List.length_cons, Nat.add_comm]; rfl
    | false => rw [List.filter_cons_of_neg (by rw [h]; decide), Bool.toNat_false, Nat.zero_add]

theorem leNat_append_singleton (l : List Byte) (b : Byte) : leNat (l ++ [b]) = leNat l + 256 ^ l.length * b.toNat := by
  induction l with
  | nil => simp only [List.nil_append, leNat, List.length_nil, Nat.pow_zero]; omega
  | cons a l ih =>
    rw [List.cons_append, leNat, leNat, ih, List.length_cons, Nat.pow_succ, Nat.mul_comm (256 ^ l.length) 256, Nat.mul_assoc]
    omega

/-- Bytes read in the opposite order: byte `i` of `n` has the weight of byte `n - 1 - i`. -/
theorem leNat_reverse_map_range (f : Nat → Byte) (n : Nat) :
    leNat ((List.range n).map f).reverse = ((List.range n).map (fun i => (f i).toNat * 2 ^ (8 * (n - 1 - i)))).sum := by
  induction n generalizing f with
  | zero => rfl
  | succ n ih =>
    have hw : ∀ i, n - 1 - i = n - (i + 1) := fun i => by omega
    have h256 : 2 ^ (8 * n) = 256 ^ n := Nat.pow_mul 2 8 n
    rw [List.range_succ_eq_map, List.map_cons, List.map_cons, List.reverse_cons, List.sum_cons, leNat_append_singleton,
      List.map_map, List.map_map, ih, List.length_reverse, List.length_map, List.length_range, Nat.add_sub_cancel, Nat.sub_zero,
      h256, Nat.add_comm, Nat.mul_comm]
    simp only [Function.comp_apply, Function.comp_def, Nat.succ_eq_add_one, hw]

theorem toNat_byteOf (x : Word) (k : Nat) : (byteOf x k).toNat = x.toNat / 2 ^ (8 * k) % 256 := BitVec.toNat_ofNat _ _

theorem brev8_eq (x : Word) : brev8 x =
    BitVec.ofNat 64 (((List.range 8).map (fun i => x.toNat / 2 ^ (8 * i) % 256 * 2 ^ (8 * (7 - i)))).sum) := by
  simp only [brev8, wordBytes, leNat_reverse_map_range, toNat_byteOf]

/-! ### Immediates and shifts -/

theorem toInt_sext16 (im : Nat) : (sext16 im).toInt = (BitVec.ofNat 16 im).toInt :=
  BitVec.toInt_signExtend_of_le (by decide)

theorem immVal_slti (x : Word) (im : Nat) :
    immVal .slti x im = if x.toInt < (BitVec.ofNat 16 im).toInt then 1#64 else 0#64 := by
  simp only [immVal, BitVec.slt_eq_decide, toInt_sext16, decide_eq_true_eq]

theorem immVal_sltiu (x : Word) (im : Nat) :
    immVal .sltiu x im = if x.toNat < ((BitVec.ofNat 16 im).signExtend 64).toNat then 1#64 else 0#64 := by
  simp only [immVal, BitVec.ult_eq_decide, sext16, decide_eq_true_eq]

theorem shVal_sll (x : Word) (n : Nat) : shVal .sll x n = BitVec.ofNat 64 (x.toNat * 2 ^ n) := by
  apply BitVec.eq_of_toNat_eq
  rw [shVal, BitVec.toNat_shiftLeft, BitVec.toNat_ofNat, Nat.shiftLeft_eq]

theorem shVal_srl (x : Word) (n : Nat) : shVal .srl x n = BitVec.ofNat 64 (x.toNat / 2 ^ n) := by
  rw [← Nat.shiftRight_eq_div_pow, ← BitVec.toNat_ushiftRight]
  exact (ofNat_toNat_word _).symm

theorem shVal_sra (x : Word) (n : Nat) : shVal .sra x n = BitVec.ofInt 64 (x.toInt / 2 ^ n) := by
  rw [shVal, BitVec.sshiftRight, Int.shiftRight_eq_div_pow, Int.natCast_pow]
  rfl

/-- The immediate times 2^16 fits 32 bits, so that both sign extensions give the same integer. -/
theorem luiVal_eq (im : Nat) : luiVal im = BitVec.ofInt 64 ((BitVec.ofNat 16 im).toInt * 2 ^ 16) := by
  have hi : -2 ^ 15 ≤ (BitVec.ofNat 16 im).toInt ∧ (BitVec.ofNat 16 im).toInt < 2 ^ 15 :=
    ⟨BitVec.le_toInt _, BitVec.toInt_lt⟩
  have h32 : (BitVec.ofNat 32 (im * 2 ^ 16)).toInt = (BitVec.ofNat 16 im).toInt * 2 ^ 16 := by
    rw [BitVec.toInt_eq_toNat_cond, BitVec.toInt_eq_toNat_cond, BitVec.toNat_ofNat, BitVec.toNat_ofNat]
    omega
  apply BitVec.eq_of_toInt_eq
  rw [luiVal, BitVec.toInt_signExtend_of_le (by decide), BitVec.toInt_ofInt, h32, Int.bmod_def]
  omega

/-! ## O2 -/

theorem aluResult_of_val {c : Nat → Nat → Nat → Nat → Instr} {f : AluOp} {v : Word → Word → Word}
    (hv : ∀ x y, aluVal f x y = v x y)
    (hc : ∀ e rd ra rb s, exec (c e rd ra rb) s = .next (engRun e (.alu f rd ra rb) false s) := by intros; rfl) :
    aluResult c f v :=
  fun rd ra rb => opResult_of_computeOp (fun a => by rw [computeOp, hv]) (fun e s => hc e rd ra rb s)

theorem immResult_of_val {c : Nat → Nat → Nat → Nat → Instr} {f : ImmOp} {v : Word → Nat → Word}
    (hv : ∀ x im, immVal f x im = v x im)
    (hc : ∀ e rd ra im s, exec (c e rd ra im) s = .next (engRun e (.imm f rd ra im) false s) := by intros; rfl) :
    immResult c f v :=
  fun rd ra im => opResult_of_computeOp (fun a => by rw [computeOp, hv]) (fun e s => hc e rd ra im s)

theorem shiResult_of_val {c : Nat → Nat → Nat → Nat → Nat → Instr} {f : ShOp} {v : Word → Nat → Word}
    (hv : ∀ x n, shVal f x n = v x n)
    (hc : ∀ e rd ra x amt s, exec (c e rd ra x amt) s = .next (engRun e (.shi f rd ra x amt) false s) := by intros; rfl) :
    shiResult c f v :=
  fun rd ra x amt => opResult_of_computeOp (fun a => by rw [computeOp, hv]) (fun e s => hc e rd ra x amt s)

/-- Settles O2: each instruction completes with the registers of `computeOp`, and its value is the one that R341 names. -/
theorem aluResults : Obligations.AluResults :=
  -- ADD, SUB, AND, OR, XOR, SLL, SRL and SRA stand in `aluVal` as R341 names them, and so do MULH and MULHU
  ⟨aluResult_of_val fun _ _ => rfl, aluResult_of_val fun _ _ => rfl, aluResult_of_val fun _ _ => rfl,
   aluResult_of_val fun _ _ => rfl, aluResult_of_val fun _ _ => rfl, aluResult_of_val fun _ _ => rfl,
   aluResult_of_val fun _ _ => rfl, aluResult_of_val fun _ _ => rfl, aluResult_of_val aluVal_slt, aluResult_of_val aluVal_sltu,
   aluResult_of_val aluVal_min, aluResult_of_val aluVal_max, aluResult_of_val aluVal_minu, aluResult_of_val aluVal_maxu,
   aluResult_of_val aluVal_mul, aluResult_of_val fun _ _ => rfl, aluResult_of_val fun _ _ => rfl,
   aluResult_of_val aluVal_div, aluResult_of_val aluVal_divu, aluResult_of_val aluVal_rem, aluResult_of_val aluVal_remu,
   aluResult_of_val fun x _ => congrArg (BitVec.ofNat 64) (clz64_eq x),
   aluResult_of_val fun x _ => congrArg (BitVec.ofNat 64) (ctz64_eq x),
   aluResult_of_val fun x _ => congrArg (BitVec.ofNat 64) (length_filter_eq_sum_toNat x.getLsbD (List.range 64)),
   aluResult_of_val fun x _ => brev8_eq x,
   -- ADDI, ANDI, ORI and XORI stand in `immVal` as R341 names them
   immResult_of_val fun _ _ => rfl, immResult_of_val fun _ _ => rfl, immResult_of_val fun _ _ => rfl,
   immResult_of_val fun _ _ => rfl, immResult_of_val immVal_slti, immResult_of_val immVal_sltiu,
   shiResult_of_val shVal_sll, shiResult_of_val shVal_srl, shiResult_of_val shVal_sra,
   fun rd im => opResult_of_computeOp (fun a => by rw [computeOp, luiVal_eq]) (fun _ _ => rfl)⟩

/-! ## Branches and jumps, R344 -/

/-- A target at an offset field of `n + 1` bits, read as signed. -/
theorem relTarget_eq (pc : Nat) {n off : Nat} (h : off < 2 ^ (n + 1)) :
    relTarget pc (n + 1) off = (((pc : Int) + 4 * (BitVec.ofNat (n + 1) off).toInt) % 2 ^ 64).toNat := by
  have ht : (BitVec.ofNat (n + 1) off).toNat = off := by rw [BitVec.toNat_ofNat, Nat.mod_eq_of_lt h]
  have hp : 2 ^ (n + 1) = 2 * 2 ^ n := by rw [Nat.pow_succ, Nat.mul_comm]
  have hi : (BitVec.ofNat (n + 1) off).toInt = if off < 2 ^ n then (off : Int) else (off : Int) - 2 ^ (n + 1) := by
    rw [BitVec.toInt_eq_toNat_cond, ht, Int.natCast_pow]
    by_cases hoff : off < 2 ^ n
    · rw [if_pos hoff, if_pos (by omega)]
    · rw [if_neg hoff, if_neg (by omega)]
      rfl
  rw [relTarget, hi, Nat.add_sub_cancel]

theorem brTaken_lt (x y : Word) : brTaken .lt x y = decide (x.toInt < y.toInt) := BitVec.slt_eq_decide

theorem brTaken_ge (x y : Word) : brTaken .ge x y = decide (y.toInt ≤ x.toInt) := by
  rw [brTaken, BitVec.slt_eq_decide, ← decide_not]
  exact decide_eq_decide.2 Int.not_lt

theorem brTaken_ltu (x y : Word) : brTaken .ltu x y = decide (x.toNat < y.toNat) := BitVec.ult_eq_decide

theorem brTaken_geu (x y : Word) : brTaken .geu x y = decide (y.toNat ≤ x.toNat) := by
  rw [brTaken, BitVec.ult_eq_decide, ← decide_not]
  exact decide_eq_decide.2 Nat.not_lt

theorem brTaken_eq (x y : Word) : brTaken .eq x y = decide (x = y) := rfl

theorem brTaken_ne (x y : Word) : brTaken .ne x y = decide (x ≠ y) := by
  rw [decide_not]
  rfl

/-- A branch completes with the registers that its condition and its A bit choose. -/
theorem branchResult_of_taken {c : Nat → Nat → Nat → Nat → Nat → Instr} {f : BrOp} {taken : Word → Word → Bool}
    (hv : ∀ x y, brTaken f x y = taken x y)
    (hc : ∀ e x y off annul s, exec (c e x y off annul) s = .next (engRun e (.br f x y off annul) false s) := by
      intros; rfl) : branchResult c f taken := by
  intro e x y off annul s h hstop
  obtain ⟨_, _, hoff, _⟩ := of_decide_eq_true (engWf_of_ready h)
  refine completes_of_completeTo h (hc e x y off annul s) fun j v _ _ => ?_
  simp only [runOp, hstop, hv, relTarget_eq _ hoff]
  by_cases htaken : taken ((s.eng e).arch.gr x) ((s.eng e).arch.gr y) = true
  · simp only [htaken, if_true]
    rfl
  · by_cases hannul : annul = 1
    · simp only [htaken, hannul, if_true]
      rfl
    · simp only [htaken, hannul, if_false]
      rfl

@[simp] theorem setG_zero (v : Word) (a : Arch) : a.setG 0 v = a := rfl

theorem takeSlot_setG (target r : Nat) (a : Arch) :
    takeSlot target (a.setG r (BitVec.ofNat 64 (a.pc + 8))) = jumpArch a target r := by
  unfold takeSlot jumpArch Arch.setG
  split
  · rfl
  · rfl

section
variable {e w : Nat} {ue : Bool} {j : Job} {v : Version} {s : State}

theorem runOp_jump (off : Nat) (h : branchStop (s.eng e).arch = none) :
    runOp e (.jump off) w ue j v s = completeTo e (jumpArch (s.eng e).arch (relTarget (s.eng e).arch.pc 26 off) 0) s := by
  simp only [runOp, h, ← takeSlot_setG, setG_zero]

theorem runOp_jal (off : Nat) (h : branchStop (s.eng e).arch = none) :
    runOp e (.jal off) w ue j v s = completeTo e (jumpArch (s.eng e).arch (relTarget (s.eng e).arch.pc 26 off) 30) s := by
  simp only [runOp, h, takeSlot_setG]

/-- R344: JR to an aligned target, with a link register that is not the one it jumps by. -/
theorem runOp_jr {rd ra : Nat} (x : Nat) (h : branchStop (s.eng e).arch = none) (hr : rd = 0 ∨ rd ≠ ra)
    (ht : fld ((s.eng e).arch.gr ra) 17 0 % 4 = 0) :
    runOp e (.jr rd ra x) w ue j v s = completeTo e (jumpArch (s.eng e).arch (fld ((s.eng e).arch.gr ra) 17 0) rd) s := by
  have hlink : ¬(rd = ra ∧ rd ≠ 0) := fun hl => hr.elim hl.2 (fun hne => hne hl.1)
  simp only [runOp, h, Option.isNone_none, true_and, hlink, ht, ne_eq, not_true_eq_false, if_false]
  by_cases h0 : rd = 0
  · simp only [h0, if_true, ← takeSlot_setG, setG_zero]
  · simp only [h0, if_false, takeSlot_setG]

end

/-! ## LOOP and LOOPI, R346 -/

/-- A loop that fits starts, or is passed over for a count of 0. -/
theorem runLoop_of_loopFits {e count len w : Nat} {v : Version} {s : State} {j : Job} (hj : (s.eng e).job = some j)
    (hv : jobVersion s j = some v) (h : loopFits s e len = true) (hcount : count < 2 ^ 28) :
    runLoop e count len w v s = completeTo e (loopArch (s.eng e).arch count len) s := by
  simp only [loopFits, hj, Option.bind_some, hv, Bool.and_eq_true, decide_eq_true_eq, Option.isNone_iff_eq_none,
    Bool.not_eq_true'] at h
  obtain ⟨⟨⟨⟨hslot, hlen⟩, hact⟩, hcode⟩, hnested⟩ := h
  have hboth : ¬((s.eng e).arch.act 0 = true ∧ (s.eng e).arch.act 1 = true) := by rw [← Bool.and_eq_true, hact]; decide
  simp only [runLoop, hslot, hlen, hboth, hnested, Nat.not_le.2 hcount, Nat.not_le.2 hcode, Option.isSome_none,
    Bool.not_true, Bool.false_eq_true, or_self, if_false]
  unfold loopArch
  by_cases h0 : count = 0
  · simp only [h0, hslot, if_true]
  · cases h1 : (s.eng e).arch.act 0 with
    | true => simp only [h0, Arch.setLoop, ↓reduceIte, Nat.succ_ne_self, Nat.reduceAdd]
    | false => simp only [h0, Arch.setLoop, ↓reduceIte, Bool.false_eq_true, Nat.add_zero, Nat.zero_ne_one]

/-! ## O7 -/

/-- Settles O7: outside a delay slot and a loop end each instruction completes with its branch, jump or loop registers, and the
offset field of a branch or jump is read as signed. -/
theorem branchResults : Obligations.BranchResults := by
  refine ⟨branchResult_of_taken brTaken_eq, branchResult_of_taken brTaken_ne, branchResult_of_taken brTaken_lt,
    branchResult_of_taken brTaken_ge, branchResult_of_taken brTaken_ltu, branchResult_of_taken brTaken_geu,
    ?jump, ?jal, ?jr, ?loop, ?loopi⟩
  case jump =>
    intro e off s h hstop
    have hoff : off < 2 ^ 26 := of_decide_eq_true (engWf_of_ready h)
    exact completes_of_completeTo h rfl fun j v _ _ => by rw [runOp_jump off hstop, relTarget_eq _ hoff]
  case jal =>
    intro e off s h hstop
    have hoff : off < 2 ^ 26 := of_decide_eq_true (engWf_of_ready h)
    exact completes_of_completeTo h rfl fun j v _ _ => by rw [runOp_jal off hstop, relTarget_eq _ hoff]
  case jr =>
    intro e rd ra x s h hstop hr a ht
    have hfld : fld (a.gr ra) 17 0 = (a.gr ra).toNat % 2 ^ 18 := by rw [fld, Nat.pow_zero, Nat.div_one]
    exact completes_of_completeTo h rfl fun j v _ _ => by rw [runOp_jr x hstop hr (by rw [hfld]; exact ht), hfld]
  case loop =>
    intro e ra len s h hfits hcount
    exact completes_of_completeTo h rfl fun j v hj hv => by rw [runOp, runLoop_of_loopFits hj hv hfits hcount]
  case loopi =>
    intro e count len s h hfits
    obtain ⟨hcount, _⟩ := of_decide_eq_true (engWf_of_ready h)
    exact completes_of_completeTo h rfl fun j v hj hv => by rw [runOp, runLoop_of_loopFits hj hv hfits (by omega)]

/-! ## The end of a job with status OK, R330, R356 -/

/-- From `s` to `t` engine `e` has become `g`, and no other engine has changed. -/
def EngBecomes (e : Nat) (g : Eng) (s t : State) : Prop := t.eng e = g ∧ ∀ x, x ≠ e → t.eng x = s.eng x

namespace EngBecomes
variable {e : Nat} {g : Eng} {s t : State}

theorem refl (e : Nat) (s : State) : EngBecomes e (s.eng e) s s := ⟨rfl, fun _ _ => rfl⟩

theorem modEng (h : EngBecomes e g s t) (f : Eng → Eng) : EngBecomes e (f g) s (t.modEng e f) :=
  ⟨by rw [eng_modEng, if_pos rfl, h.1], fun x hx => by rw [eng_modEng, if_neg hx, h.2 x hx]⟩

theorem countIdle (h : EngBecomes e g s t) : ∃ d, EngBecomes e { g with slotsDone := d } s (countIdle e t) := by
  obtain ⟨⟨d, hd⟩, -⟩ := idle_eng e e t
  exact ⟨d, by rw [hd, h.1], fun x hx => ((idle_eng e x t).2 hx).trans (h.2 x hx)⟩

theorem countIssue (h : EngBecomes e g s t) :
    ∃ d n c, EngBecomes e { g with slotsDone := d, issued := n, counted := c } s (countIssue e t) := by
  obtain ⟨⟨d, n, c, hd⟩, -⟩ := issue_eng e e t
  exact ⟨d, n, c, by rw [hd, h.1], fun x hx => ((issue_eng e x t).2 hx).trans (h.2 x hx)⟩

/-- An access that reaches the port is listed with its line's address. -/
theorem newAcc (h : EngBecomes e g s t) (id addr : Nat) (write : Option (Line × BitVec 64)) :
    ∃ a : FarAcc, a.addr = addr / 64 * 64 ∧
      EngBecomes e { g with acc := tset g.acc id a } s (newAcc e id addr write t) :=
  ⟨_, rfl, h.modEng _⟩

end EngBecomes

theorem tget_tmod_ne {α : Type} (t : Tbl α) {k i : Nat} (f : α → α) (h : i ≠ k) : tget (tmod t k f) i = tget t i := by
  unfold tmod
  split
  · exact tget_tset_ne t _ h
  · rfl

theorem discardAcc_of_none {e id : Nat} {s : State} (h : tget (s.eng e).acc id = none) : discardAcc e id s = s := by
  simp only [discardAcc, h]

/-- Discarding an access leaves every other access as it was. -/
theorem EngBecomes.discardAcc {e : Nat} {g : Eng} {s t : State} (h : EngBecomes e g s t) (id : Nat) :
    ∃ acc, (∀ i, i ≠ id → tget acc i = tget g.acc i) ∧ EngBecomes e { g with acc := acc } s (discardAcc e id t) := by
  unfold Machine.discardAcc
  split
  · exact ⟨g.acc, fun _ _ => rfl, h⟩
  · split
    · exact ⟨_, fun i hi => tget_terase_ne _ hi, h.modEng _⟩
    · exact ⟨_, fun i hi => tget_terase_ne _ hi, h.modEng _⟩
    · exact ⟨_, fun i hi => tget_tmod_ne _ _ hi, h.modEng _⟩
    · exact ⟨_, fun i hi => tget_tmod_ne _ _ hi, h.modEng _⟩

/-- With nothing outstanding there is nothing to discard. -/
theorem discardFlights_of_nil {e : Nat} {s : State} (h : (s.eng e).flights = []) : discardFlights e s = s := by
  simp only [discardFlights, h]

/-- A job that ends with OK leaves the open tick as it stands (R240). -/
theorem contribEnds_ok (e : Nat) (s : State) : contribEnds e stOk s = s := by
  unfold contribEnds
  split
  · exact if_neg fun h => h.2.1 rfl
  · rfl

/-- Status OK raises no event and no record. -/
theorem reportStatus_ok {e : Nat} {s : State} (h : ∀ j ∈ (s.eng e).job, j.status = stOk) : reportStatus e s = s := by
  unfold reportStatus
  split
  · rfl
  · next j hj => simp only [h j hj, stOk]

/-- The job while its record is written. -/
def recordJob (j : Job) (cycles : Nat) : Job := { j with step := .record, cycles := cycles }

/-- R331: the record of a job that drains with nothing left to drain is on its way. -/
theorem EngBecomes.writeRecord {e : Nat} {g : Eng} {s t : State} {j : Job} (h : EngBecomes e g s t) (hj : g.job = some j)
    (hstep : j.step = .drain) (hsb : g.sb = []) (hrun : tget g.acc accRunning = none) (hok : j.compOk = true) :
    ∃ a n, a.addr = recordAddr j / 64 * 64 ∧
      EngBecomes e { g with acc := tset g.acc accRecord a, job := some (recordJob j n) } s (writeRecord e t) := by
  have hdrained : ¬(j.step ≠ .drain ∨ (!g.sb.isEmpty) = true ∨ (tget g.acc accRunning).isSome = true) := by
    simp only [hstep, hsb, hrun, ne_eq, not_true_eq_false, List.isEmpty_nil, Bool.not_true, Bool.false_eq_true,
      Option.isSome_none, or_self, not_false_eq_true]
  have hvalid : ¬((!j.compOk) = true) := by rw [hok]; decide
  let n := if g.st = 2 then nsCycles (t.now - j.beginAt) else 0
  have hjob := h.modEng (fun g => { g with job := g.job.map (fun _ => recordJob j n) })
  obtain ⟨a, ha, hacc⟩ := hjob.newAcc accRecord (recordAddr j) (some (recordBody (recordJob j n)))
  rw [hj] at hacc
  refine ⟨a, n, ha, ?_⟩
  unfold Machine.writeRecord
  simp only [h.1, hj]
  rw [if_neg hdrained, if_neg hvalid]
  exact hacc

/-- The job as it ends with status OK: its results are g1 and g2 (R331). -/
def okJob (a : Arch) (j : Job) : Job :=
  { j with step := .drain, status := stOk, res0 := a.gr 1, res1 := a.gr 2, code := 0, ds := false, double := false }

/-- The engine as it drains after a job that ended with status OK. -/
def okDrain (e : Nat) (s : State) : State :=
  let t := discardAcc e accProbe (countIdle e s)
  (t.modEng e (fun g => { g with wait := .none })).modJob e (okJob (t.eng e).arch)

theorem EngBecomes.okDrain {e : Nat} {g : Eng} {s t : State} (h : EngBecomes e g s t) :
    ∃ acc d, (∀ i, i ≠ accProbe → tget acc i = tget g.acc i) ∧
      EngBecomes e { g with slotsDone := d, acc := acc, wait := .none, job := g.job.map (okJob g.arch) } s (okDrain e t) := by
  obtain ⟨d, hidle⟩ := h.countIdle
  obtain ⟨acc, hacc, hprobe⟩ := hidle.discardAcc accProbe
  have harch := congrArg Eng.arch hprobe.1
  refine ⟨acc, d, hacc, ?_⟩
  unfold Machine.okDrain
  dsimp only
  rw [harch]
  exact (hprobe.modEng (fun g => { g with wait := .none })).modEng _

/-- R330: with no load outstanding, a job that ends with status OK drains, and its record is written. -/
theorem endJob_ok_eq {e : Nat} {s : State} (h : (s.eng e).flights = []) : endJob e stOk s = writeRecord e (okDrain e s) := by
  have hidle : ((countIdle e s).eng e).flights = [] := by
    obtain ⟨⟨d, hd⟩, -⟩ := idle_eng e e s
    rw [hd, h]
  have hstatus : ∀ j ∈ ((okDrain e s).eng e).job, j.status = stOk := by
    obtain ⟨acc, d, -, hdrain⟩ := (EngBecomes.refl e s).okDrain
    rw [hdrain.1]
    intro j hj
    obtain ⟨k, -, rfl⟩ := Option.map_eq_some_iff.1 hj
    rfl
  rw [← reportStatus_ok hstatus]
  unfold endJob
  simp only [discardFlights_of_nil hidle, contribEnds_ok]
  cases hprobe : tget ((countIdle e s).eng e).acc accProbe with
  | some a => rfl
  | none => rw [okDrain, discardAcc_of_none hprobe]; rfl

/-! ## O10 -/

/-- Settles O10: with no load and no store outstanding DONE drains at once, and the record write is at the engine memory port. -/
theorem doneEndsJob : Obligations.DoneEndsJob := by
  intro e x s j h hj hok hrun
  obtain ⟨_, _, _, _, _, hflights, hsb, herr, _⟩ := ready_cases h
  obtain ⟨d, n, c, hissue⟩ := (EngBecomes.refl e s).countIssue
  obtain ⟨acc, d', hacc, hdrain⟩ := hissue.okDrain
  obtain ⟨a, cycles, ha, hrecord⟩ := hdrain.writeRecord (j := okJob (s.eng e).arch j) (by rw [hj]; rfl) rfl hsb
    ((hacc accRunning (by decide)).trans hrun) hok
  refine ready_step h rfl fun k v _ _ => ?_
  have hrunOp : runOp e (.done x) (engEncode (.done x)) false k v s = writeRecord e (okDrain e (countIssue e s)) := by
    simp only [runOp, herr]
    exact endJob_ok_eq (by rw [hissue.1]; exact hflights)
  rw [hrunOp]
  refine ⟨recordJob (okJob (s.eng e).arch j) cycles, by rw [hrecord.1], rfl, rfl, rfl, rfl, rfl, rfl, rfl,
    by rw [hrecord.1], by rw [hrecord.1], ?_, hrecord.2⟩
  rw [hrecord.1, tget_tset_self]
  exact congrArg some ha

end Sys2Proof.Machine
